-- ==== Sys2Proof/Config.lean ====
section
/-! DEFINITION. The fixed quantities of the Sornel 408 (section 1.7 of spec/00_scope.md and the rules named).
The part leaves no result of an operation undefined, so there is no free value here. -/

namespace Sys2Proof.Config

/-- R92: pool buffers. -/
abbrev poolBuffers : Nat := 32
/-- R92: bytes of a block. -/
abbrev blockBytes : Nat := 64
/-- R67: landings in the landing table. -/
abbrev landingSlots : Nat := 8
/-- R68: entries of the pending list. -/
abbrev pendingMax : Nat := 8
/-- R113: records of the suspended list. -/
abbrev suspendedMax : Nat := 4
/-- R110: entries of the recently landed list. -/
abbrev recentMax : Nat := 8
/-- R180: notices in the notice queue. -/
abbrev noticeMax : Nat := 32
/-- R14: SIGNAL entries in the initiation queue. -/
abbrev signalMax : Nat := 8
/-- R41: largest transfer length in bytes. -/
abbrev lengthMax : Nat := 1048576
/-- R41: largest target offset. -/
abbrev offsetMax : Nat := 16777215
/-- R134: largest window size in bytes. -/
abbrev windowMax : Nat := 16777216
/-- R42, R135: size of the local address space in bytes. -/
abbrev addressSpace : Nat := 4294967296
/-- R5: largest block number. -/
abbrev blockNumberMax : Nat := 16383
/-- R5: largest accepted count and credit limit. -/
abbrev countMax : Nat := 16384
/-- R23: JOIN transmissions of one joining. -/
abbrev joinTransmissions : Nat := 3
/-- R23: spacing of the JOIN transmissions, in 1 ms units. -/
abbrev joinSpacing : Nat := 1
/-- R30, R31: join repeat window, in 1 ms units. -/
abbrev joinWindow : Nat := 3
/-- R162: HALT repeat timer, in 1 ms units. -/
abbrev haltRepeat : Nat := 2
/-- R160: lapse timer, in 1 ms units. -/
abbrev haltLapse : Nat := 8
/-- R61: sends of one OFFER. -/
abbrev offerSends : Nat := 4
/-- R40, R107: largest retry count. -/
abbrev retryMax : Nat := 3
/-- R21: T_reply after power-on reset, in 100 µs units. -/
abbrev defaultReply : Nat := 10
/-- R21: T_queue after power-on reset, in 1 ms units. -/
abbrev defaultQueue : Nat := 50
/-- R21: T_pause after power-on reset, in 1 ms units. -/
abbrev defaultPause : Nat := 100
/-- R21: T_land after power-on reset, in 1 ms units. -/
abbrev defaultLand : Nat := 20
/-- R93: landing credit after power-on reset. -/
abbrev defaultCredit : Nat := 4
/-- R2: lane time of one byte, in ns. -/
abbrev byteTime : Nat := 32
/-- R2: gap after a frame, in byte times. -/
abbrev gapBytes : Nat := 4

end Sys2Proof.Config
end

