-- ==== Sys2Proof/Word.lean ====
section
/-! DEFINITION. The word types of the local port and of the frames: bytes and 32-bit words. -/

namespace Sys2Proof

/-- One byte of a frame, of a block's payload or of a port word. -/
abbrev Byte := BitVec 8

/-- One 32-bit word of the register window (R171) or one local address (R134, R41). -/
abbrev Word := BitVec 32

end Sys2Proof
end

