-- ==== Sys2Proof/Syntax.lean ====
section
/-! DEFINITION. The commands and events of the block: one constructor of `Instr` for every row of
spec/opcode_table.json, with the operands the row's rule names, and the small types those operands need. -/

namespace Sys2Proof

/-- A station number, 0 to 7 (R1). -/
abbrev Station := Fin 8
/-- A channel number, C0 to C7 (R39). -/
abbrev ChannelNo := Fin 8
/-- A generation, 0 to 15, wrapping (R58). -/
abbrev Generation := Fin 16
/-- A level, 0 the most urgent (R41). -/
abbrev Level := Fin 8
/-- A window number, W0 to W15 (R134). -/
abbrev WindowNo := Fin 16
/-- A signal event number, 0 to 31 (R147). -/
abbrev EventNo := Fin 32
/-- A trigger line, TRIG0 to TRIG3 (R47). -/
abbrev LineNo := Fin 4

/-- The REFUSE reasons of R6. -/
inductive RefuseReason where
  | noWindow | access | range | busy | expired | unknown | fault | timeout | leaving
  deriving DecidableEq, Repr

/-- The WITHDRAW reasons of R6. -/
inductive WithdrawReason where
  | aborted | noReply | queueExpired | pauseExpired | stale | fault | leaving
  deriving DecidableEq, Repr

/-- A write to one word of the register window: the value on the bus and which of its four bytes are written
(bit k of `lanes` for byte k). A write narrower than a word is a word write with the other bytes zero (R171). -/
structure WordWrite where
  value : Word
  lanes : BitVec 4
  deriving DecidableEq, Repr

/-- The body fields of an OFFER (R5). -/
structure OfferFields where
  level : Level
  window : WindowNo
  offset : Nat
  length : Nat
  landingEvent : Option EventNo
  deriving DecidableEq, Repr

/-- A frame as it arrives at a receive port, before any check: the port, its bytes from header to CRC, whether
its body fields lie in the ranges of R5 and R6 (their encoding in the body bytes "is not given", so the bytes
alone cannot say it), and whether its first bit arrived before a reset, or before the station left CONFIG (R8). -/
structure ArrivingFrame where
  port : Station
  bytes : List Byte
  fieldsInRange : Bool
  early : Bool
  deriving DecidableEq, Repr

/-- The commands and events of spec/opcode_table.json, in the table's order.
The twenty numbered commands of the local port take their arguments from the ARG words (R173, R174), which are
state, so they carry no operand of their own. -/
inductive Instr where
  | setWindow
  | setSignal
  | setLine
  | setTimers
  | join
  | leave
  | resetStation
  | load
  | start
  | stop
  | clear
  | signal
  | haltAssert
  | haltRelease
  | readChannel
  | readLandings
  | readWindow
  | readSignal
  | take
  | clearFlags
  /-- A write to COMMAND whose number is not a command's (R173). -/
  | unknownCommand (w : WordWrite)
  /-- A write to CONTROL (R185). -/
  | controlWrite (w : WordWrite)
  /-- A write to a word other than COMMAND and CONTROL (R171). -/
  | registerWrite (word : Fin 16) (w : WordWrite)
  /-- RESETn, with the levels of ID2 to ID0 it samples (R37). -/
  | powerOnReset (straps : Station)
  | triggerEdge (line : LineNo)
  /-- The HALT input takes this level (R161). -/
  | haltLineChange (level : Bool)
  | frameDiscard (frame : ArrivingFrame)
  | offerArrives (source : Station) (channel : ChannelNo) (generation : Generation) (fields : OfferFields)
  | waitArrives (source : Station) (channel : ChannelNo) (generation : Generation)
  | grantArrives (source : Station) (channel : ChannelNo) (generation : Generation) (start limit : Nat)
  | refuseArrives (source : Station) (channel : ChannelNo) (generation : Generation) (reason : RefuseReason)
  | blockArrives (source : Station) (channel : ChannelNo) (generation : Generation) (number : Nat)
      (payload : List Byte)
  | receiptArrives (source : Station) (channel : ChannelNo) (generation : Generation) (accepted limit : Nat)
      (final : Bool)
  | pauseArrives (source : Station) (channel : ChannelNo) (generation : Generation) (block : Nat)
  | withdrawArrives (source : Station) (channel : ChannelNo) (generation : Generation) (reason : WithdrawReason)
  /-- A SIGNAL addressed to this station or to ALL: the two are handled alike (R152). -/
  | signalArrives (source : Station) (event : EventNo) (argument : BitVec 16)
  | joinArrives (source : Station)
  | leaveArrives (source : Station)
  | haltArrives (source : Station)
  | resumeArrives (source : Station)
  | joinTransmissionComplete
  | leaveTransmissionComplete
  | frameTransmissionComplete
  | joinSpacingExpiry
  | joinRepeatWindowExpiry (peer : Station)
  | offerReplyTimerExpiry (channel : ChannelNo)
  | streamReplyTimerExpiry (channel : ChannelNo)
  | queueTimerExpiry (channel : ChannelNo)
  | pauseTimerExpiry (channel : ChannelNo)
  /-- The lifetime timer of the pending entry of this transfer key (R78). -/
  | lifetimeExpiry (source : Station) (channel : ChannelNo)
  /-- The landing timer of the landing of this transfer key (R102). -/
  | landingTimerExpiry (source : Station) (channel : ChannelNo)
  | repeatTimerExpiry
  | lapseTimerExpiry (peer : Station)
  /-- The read in flight completes OK with these bytes (R90). -/
  | readCompletion (data : List Byte)
  | readError
  | writeCompletion
  | writeError
  deriving DecidableEq, Repr

end Sys2Proof
end

