-- ==== Sys2Proof/Decode.lean ====
section
/-! DEFINITION. The commands that a word of bits spells. No row of spec/opcode_table.json gives bits ("fields": []
in all 57 rows), so no word spells a command. -/

namespace Sys2Proof

/-- The command that the table's bits make of the word w: none, since no row of the table has bits. -/
def decodeTableWord (_nbits _w : Nat) : Option Instr := none

end Sys2Proof
end

