-- ==== Sys2Proof/Machine/State.lean ====
section
/-! DEFINITION. The state of the block as plain data, unit by unit as section 1.4 of spec/00_scope.md lays the
block out, the state after power-on reset, the reasons a step can stop, and one updater for each unit. -/

namespace Sys2Proof.Machine

/-! ### Transfers, frames and queues -/

/-- A transfer key (section 1.6): source station and channel. -/
structure Key where
  source : Station
  channel : ChannelNo
  deriving DecidableEq, Repr

/-- What names an offered transfer and what its OFFER carried (R5, R67, R68). -/
structure Offer where
  key : Key
  generation : Generation
  fields : OfferFields
  deriving DecidableEq, Repr

/-- The target field of a frame (R3). -/
inductive Dest where
  | station (number : Station)
  | all
  deriving DecidableEq, Repr

/-- The thirteen frame kinds with their fields (R3, R4, R5). -/
inductive FrameBody where
  | offer (channel : ChannelNo) (generation : Generation) (fields : OfferFields)
  | wait (channel : ChannelNo) (generation : Generation)
  | grant (channel : ChannelNo) (generation : Generation) (start limit : Nat)
  | refuse (channel : ChannelNo) (generation : Generation) (reason : RefuseReason)
  | block (channel : ChannelNo) (generation : Generation) (number : Nat) (payload : List Byte)
  | receipt (channel : ChannelNo) (generation : Generation) (accepted limit : Nat) (final : Bool)
  | pause (channel : ChannelNo) (generation : Generation) (block : Nat)
  | withdraw (channel : ChannelNo) (generation : Generation) (reason : WithdrawReason)
  | signal (event : EventNo) (argument : BitVec 16)
  | join
  | leave
  | halt
  | resume
  deriving DecidableEq, Repr

/-- A frame sent on the lane (R3). -/
structure Frame where
  source : Station
  dest : Dest
  body : FrameBody
  deriving DecidableEq, Repr

/-- What a reply says (R13). -/
inductive ReplyKind where
  | wait
  | grant (start limit : Nat)
  | refuse (reason : RefuseReason)
  | receipt (accepted limit : Nat) (final : Bool)
  | pause (block : Nat)
  deriving DecidableEq, Repr

/-- One frame of the reply queue: its key is (peer station, channel), its generation the transfer's (R13). -/
structure Reply where
  key : Key
  generation : Generation
  kind : ReplyKind
  deriving DecidableEq, Repr

/-- A WITHDRAW waiting in a channel slot (R14). -/
structure Withdrawal where
  target : Station
  generation : Generation
  reason : WithdrawReason
  deriving DecidableEq, Repr

/-- The current frame of a channel slot (R14). -/
inductive SlotFrame where
  | offer (target : Station) (generation : Generation) (fields : OfferFields)
  | withdraw (w : Withdrawal)
  deriving DecidableEq, Repr

/-- One position of the initiation queue (R14). -/
inductive InitEntry where
  | slot (channel : ChannelNo) (earlier : Option Withdrawal) (current : Option SlotFrame)
  | signal (dest : Dest) (event : EventNo) (argument : BitVec 16)
  deriving DecidableEq, Repr

/-- A timer: stopped, or running since it was last started at the given number of units (section 1.8 "Time";
log 2). -/
abbrev Timer := Option Nat

/-- What the checks of R8 to R11 make of an arriving frame. -/
inductive Verdict where
  | discard
  | ownNumber
  | laneMismatch
  | deliver
  deriving DecidableEq, Repr

/-! ### Span Interface (R2, R10, R12 to R19) -/

structure SpanInterface where
  lane : Option Frame
  joinDue : Bool
  haltDue : Bool
  resumeDue : Bool
  leaveDue : Bool
  replies : List Reply
  initiation : List InitEntry
  idConflict : Bool
  laneMismatch : Bool
  deriving DecidableEq, Repr

/-! ### Station Control and the configuration record (R20 to R37) -/

inductive StationState where
  | config | joining | joined | leaving
  deriving DecidableEq, Repr

inductive Presence where
  | self | absent | present
  deriving DecidableEq, Repr

/-- A peer table entry with its join repeat window (R29): `none` is closed, `some ms` open. -/
structure PeerEntry where
  presence : Presence
  window : Timer
  deriving DecidableEq, Repr

structure StationControl where
  number : Station
  state : StationState
  owed : Bool
  joinCount : Nat
  spacing : Timer
  peers : Vector PeerEntry 8
  deriving DecidableEq, Repr

inductive WindowMode where
  | shared | exclusive
  deriving DecidableEq, Repr

/-- A window table entry (R134). Bit k of `mask` is the flag of station k (R174). -/
structure WindowEntry where
  enabled : Bool
  base : Word
  size : Nat
  mask : BitVec 8
  mode : WindowMode
  pinned : Bool
  deriving DecidableEq, Repr

inductive SignalAction where
  | none | notice | start | noticeAndStart
  deriving DecidableEq, Repr

/-- A signal table entry (R147). -/
structure SignalEntry where
  action : SignalAction
  channel : ChannelNo
  mask : BitVec 8
  deriving DecidableEq, Repr

structure ConfigRecord where
  windows : Vector WindowEntry 16
  signals : Vector SignalEntry 32
  lines : Vector (Option LineNo) 8
  tReply : Nat
  tQueue : Nat
  tPause : Nat
  tLand : Nat
  credit : Nat
  deriving DecidableEq, Repr

/-! ### Channel Unit (R39 to R59) -/

inductive ChannelState where
  | empty | ready | offering | queued | streaming | draining | paused
  deriving DecidableEq, Repr

/-- R41. -/
structure Descriptor where
  target : Station
  window : WindowNo
  offset : Nat
  source : Word
  length : Nat
  level : Level
  landingEvent : Option EventNo
  doneEvent : Option EventNo
  chain : Bool
  deriving DecidableEq, Repr

/-- A fetch buffer (R40, R89). -/
inductive FetchBuffer where
  | empty
  | fetching (block : Nat)
  | holding (block : Nat) (data : List Byte)
  deriving DecidableEq, Repr

/-- The ten outcomes of R54. -/
inductive TransferOutcome where
  | done | refused | noReply | queueExpired | pauseExpired | fault | aborted | peerLeft | peerRestart | left
  deriving DecidableEq, Repr

/-- A reason code of R6 with the table it belongs to. -/
inductive Reason where
  | refuse (reason : RefuseReason)
  | withdraw (reason : WithdrawReason)
  deriving DecidableEq, Repr

/-- The last outcome record (R55): `outcome` is `none` for NONE. -/
structure OutcomeRecord where
  outcome : Option TransferOutcome
  reason : Option Reason
  generation : Generation
  bytes : Nat
  deriving DecidableEq, Repr

structure Channel where
  state : ChannelState
  active : Option Descriptor
  standby : Option Descriptor
  generation : Generation
  next : Nat
  accepted : Nat
  limit : Nat
  retry : Nat
  sends : Nat
  timer : Timer
  buffers : Vector FetchBuffer 2
  latch : Bool
  last : OutcomeRecord
  deriving DecidableEq, Repr

/-! ### Admission Unit (R67, R68, R92, R110, R113) -/

inductive LandingPhase where
  | active | settling | suspended
  deriving DecidableEq, Repr

structure Landing where
  offer : Offer
  accepted : Nat
  written : Nat
  limit : Nat
  phase : LandingPhase
  timer : Timer
  deriving DecidableEq, Repr

structure PendingEntry where
  offer : Offer
  lifetime : Timer
  deriving DecidableEq, Repr

structure RecentEntry where
  key : Key
  generation : Generation
  blocks : Nat
  deriving DecidableEq, Repr

/-- A candidate of an admission run (R80). -/
inductive Candidate where
  | resume (landing : Landing)
  | enter (entry : PendingEntry)
  deriving DecidableEq, Repr

/-- What the search of R69 finds for a transfer key. -/
inductive Found where
  | landing (landing : Landing)
  | pending (entry : PendingEntry)
  | recent (entry : RecentEntry)
  | nothing
  deriving DecidableEq, Repr

/-- The four collections; `landings` holds the ACTIVE and SETTLING records in grant order, `waiting` the pending
list, each list in the order its rule gives. -/
structure AdmissionUnit where
  landings : List Landing
  suspended : List Landing
  waiting : List PendingEntry
  recent : List RecentEntry
  deriving DecidableEq, Repr

/-! ### Memory Port (R139 to R146) -/

/-- A write queue entry with the bytes of its pool buffer (R139): `owner` is `none` once the reference is cleared. -/
structure WriteEntry where
  address : Nat
  payload : List Byte
  owner : Option Key
  deriving DecidableEq, Repr

/-- A read request (R140); the list keeps the moments of placing. -/
structure ReadRequest where
  channel : ChannelNo
  buffer : Fin 2
  block : Nat
  address : Nat
  bytes : Nat
  level : Level
  deriving DecidableEq, Repr

/-- The access in flight (R141, R142). A write in flight is the head of the write queue. -/
inductive Access where
  | write
  | read (request : ReadRequest) (abandoned : Bool)
  deriving DecidableEq, Repr

structure MemoryPort where
  writes : List WriteEntry
  reads : List ReadRequest
  access : Option Access
  deriving DecidableEq, Repr

/-! ### Halt Unit (R160 to R170) -/

/-- `line` is the level of the HALT input pin. -/
structure HaltUnit where
  members : Vector Bool 8
  lapse : Vector Timer 8
  request : Bool
  holding : Bool
  repeatTimer : Timer
  line : Bool
  deriving DecidableEq, Repr

/-! ### Local Port (R171 to R186) -/

/-- The result codes of R173. -/
inductive ResultCode where
  | ok | state | busy | full | badArgument | badDescriptor | empty
  deriving DecidableEq, Repr

/-- The endings of a landing (R183). -/
inductive Ending where
  | landed | superseded | withdrawn (reason : WithdrawReason) | busy | expired | timeout | fault | leaving
  | peerLeft | peerRestart
  deriving DecidableEq, Repr

/-- The changes of a peer (R29, R183). -/
inductive PeerChange where
  | joined | restart | left
  deriving DecidableEq, Repr

/-- The causes of HALT_CHANGE (R165). -/
inductive HaltCause where
  | halt | hold | resume | release | lapse | teardown | leaving
  deriving DecidableEq, Repr

/-- The causes of START_MISSED (R53); SIGNAL carries the event and the signal's source. -/
inductive MissedCause where
  | line
  | signal (event : EventNo) (source : Station)
  | latch
  deriving DecidableEq, Repr

/-- The three causes of a signal with the fields its notice carries for them (R154). -/
inductive SignalCause where
  | frame
  | landing (channel : ChannelNo) (window : WindowNo) (generation : Generation)
  | done (channel : ChannelNo) (generation : Generation)
  deriving DecidableEq, Repr

/-- A notice: each kind with exactly the fields of R183. -/
inductive Notice where
  | channelEnded (channel : ChannelNo) (target : Station) (window : WindowNo) (generation : Generation)
      (outcome : TransferOutcome) (reason : Option Reason) (bytes : Nat)
  | startMissed (channel : ChannelNo) (cause : MissedCause)
  | landingEnded (key : Key) (window : WindowNo) (generation : Generation) (ending : Ending) (bytes : Nat)
  | landingSuspended (key : Key) (window : WindowNo) (generation : Generation) (bytes : Nat)
  | landingResumed (key : Key) (window : WindowNo) (generation : Generation) (bytes : Nat)
  | signal (source : Station) (cause : SignalCause) (event : EventNo) (argument : BitVec 16)
  | peerChange (peer : Station) (change : PeerChange)
  | haltChange (station : Station) (cause : HaltCause)
  | leftSpan (station : Station)
  | stationConflict (port : Station)
  deriving DecidableEq, Repr

structure LocalPort where
  command : BitVec 8
  args : Vector Word 6
  result : ResultCode
  notice : Vector Word 4
  queue : List Notice
  loss : Bool
  enable : Bool
  deriving DecidableEq, Repr

/-! ### The block, and the block with its queue of commands -/

structure Device where
  span : SpanInterface
  control : StationControl
  config : ConfigRecord
  channels : Vector Channel 8
  admission : AdmissionUnit
  port : MemoryPort
  halt : HaltUnit
  lport : LocalPort
  deriving DecidableEq, Repr

/-- The whole state: the block, and the commands and events that wait, first in, first out (log 1). -/
structure State where
  dev : Device
  pending : List Instr
  deriving DecidableEq, Repr

/-- The reasons a step stops. The manual describes no stop; each of these answers an event that it says cannot
happen in the state it is put to (log 3). All are safe: no effect is claimed where the manual gives none. -/
inductive Fault where
  /-- Raised by the three transmission completions when no such frame is on the lane (R2, R15). Safe. -/
  | nothingTransmitted
  /-- Raised by the timer expiries when the timer is stopped or stands still (section 1.8, R166). Safe. -/
  | timerNotRunning
  /-- Raised by the four memory completions when no such access is in flight (R141). Safe. -/
  | noAccessInFlight
  /-- Raised by READ_COMPLETION with a number of bytes other than the access asked for (R89). Safe. -/
  | wrongDataLength
  /-- Raised by FRAME_DISCARD for a frame that passes every check and is delivered (R11). Safe. -/
  | frameIsDelivered
  deriving DecidableEq, Repr

/-- The reasons a step is refused. No meaning of this model raises one. -/
inductive Refusal where
  /-- Raised by an arm of exec whose command has no meaning yet; there is none. Safe. -/
  | notModelled (mnemonic : String)
  deriving DecidableEq, Repr

/-! ### Values after power-on reset -/

/-- R19. -/
def SpanInterface.powerOn : SpanInterface :=
  { lane := none, joinDue := false, haltDue := false, resumeDue := false, leaveDue := false, replies := [],
    initiation := [], idConflict := false, laneMismatch := false }

/-- R29: every entry ABSENT with its window closed, but SELF at the own number. -/
def powerOnPeers (number : Station) : Vector PeerEntry 8 :=
  (Vector.replicate 8 { presence := .absent, window := none }).set number { presence := .self, window := none }

/-- R37, with the sampled station number. -/
def StationControl.powerOn (number : Station) : StationControl :=
  { number := number, state := .config, owed := false, joinCount := 0, spacing := none,
    peers := powerOnPeers number }

/-- R134. -/
def WindowEntry.powerOn : WindowEntry :=
  { enabled := false, base := 0, size := 64, mask := 0, mode := .shared, pinned := false }

/-- R147. -/
def SignalEntry.powerOn : SignalEntry := { action := .none, channel := 0, mask := 0 }

/-- R21, R47, R93, R134, R147, R175. -/
def ConfigRecord.powerOn : ConfigRecord :=
  { windows := Vector.replicate 16 WindowEntry.powerOn, signals := Vector.replicate 32 SignalEntry.powerOn,
    lines := Vector.replicate 8 none, tReply := Config.defaultReply, tQueue := Config.defaultQueue,
    tPause := Config.defaultPause, tLand := Config.defaultLand, credit := Config.defaultCredit }

/-- R55: no transfer has ended. -/
def OutcomeRecord.none : OutcomeRecord :=
  { outcome := Option.none, reason := Option.none, generation := 0, bytes := 0 }

/-- R59: a channel after a reset that leaves it at this generation. -/
def Channel.afterReset (generation : Generation) : Channel :=
  { state := .empty, active := none, standby := none, generation := generation, next := 0, accepted := 0,
    limit := 0, retry := 0, sends := 0, timer := none, buffers := Vector.replicate 2 .empty, latch := false,
    last := OutcomeRecord.none }

/-- R87, R112, R133. -/
def AdmissionUnit.powerOn : AdmissionUnit := { landings := [], suspended := [], waiting := [], recent := [] }

/-- R146. -/
def MemoryPort.powerOn : MemoryPort := { writes := [], reads := [], access := none }

/-- R170; the level of the HALT pin is the outside's. -/
def HaltUnit.powerOn (line : Bool) : HaltUnit :=
  { members := Vector.replicate 8 false, lapse := Vector.replicate 8 none, request := false, holding := false,
    repeatTimer := none, line := line }

/-- R186. -/
def LocalPort.powerOn : LocalPort :=
  { command := 0, args := Vector.replicate 6 0, result := .ok, notice := Vector.replicate 4 0, queue := [],
    loss := false, enable := false }

/-- The block after a power-on reset that sampled this station number, the HALT input at this level. -/
def Device.powerOn (number : Station) (line : Bool) : Device :=
  { span := SpanInterface.powerOn, control := StationControl.powerOn number, config := ConfigRecord.powerOn,
    channels := Vector.replicate 8 (Channel.afterReset 0), admission := AdmissionUnit.powerOn,
    port := MemoryPort.powerOn, halt := HaltUnit.powerOn line, lport := LocalPort.powerOn }

/-- The machine right after power-on reset. DESIGN CHOICE (log 11): the straps read 0 and the HALT input is low. -/
def State.reset : State := { dev := Device.powerOn 0 false, pending := [] }

/-! ### One updater for each unit -/

def Device.updSpan (d : Device) (f : SpanInterface → SpanInterface) : Device := { d with span := f d.span }
def Device.updControl (d : Device) (f : StationControl → StationControl) : Device :=
  { d with control := f d.control }
def Device.updConfig (d : Device) (f : ConfigRecord → ConfigRecord) : Device := { d with config := f d.config }
def Device.updChannel (d : Device) (c : ChannelNo) (f : Channel → Channel) : Device :=
  { d with channels := d.channels.set c (f d.channels[c]) }
def Device.updAdmission (d : Device) (f : AdmissionUnit → AdmissionUnit) : Device :=
  { d with admission := f d.admission }
def Device.updPort (d : Device) (f : MemoryPort → MemoryPort) : Device := { d with port := f d.port }
def Device.updHalt (d : Device) (f : HaltUnit → HaltUnit) : Device := { d with halt := f d.halt }
def Device.updLocal (d : Device) (f : LocalPort → LocalPort) : Device := { d with lport := f d.lport }

end Sys2Proof.Machine
end

