-- ==== Sys2Proof/Machine/Frames.lean ====
section
/-! DEFINITION. Frames: header, lengths, CRC (R2 to R7) and the checks on an arriving frame (R8 to R11). -/

namespace Sys2Proof.Machine

/-- The kind codes of R4. -/
def FrameBody.kindCode : FrameBody → Nat
  | .offer .. => 1
  | .wait .. => 2
  | .grant .. => 3
  | .refuse .. => 4
  | .block .. => 5
  | .receipt .. => 6
  | .pause .. => 7
  | .withdraw .. => 8
  | .signal .. => 9
  | .join => 10
  | .leave => 11
  | .halt => 12
  | .resume => 13

/-- R3: the channel and generation of the transfer kinds. -/
def FrameBody.transfer : FrameBody → Option (ChannelNo × Generation)
  | .offer c g _ | .wait c g | .grant c g _ _ | .refuse c g _ | .block c g _ _ | .receipt c g _ _ _
  | .pause c g _ | .withdraw c g _ => some (c, g)
  | .signal .. | .join | .leave | .halt | .resume => none

/-- R3: the target field: 15 is ALL. -/
def Dest.code : Dest → Nat
  | .station n => n.val
  | .all => 15

/-- R3: the header bytes, in the order they are sent. -/
def Frame.header (f : Frame) : List Byte :=
  [BitVec.ofNat 8 (16 * f.body.kindCode + f.source.val), BitVec.ofNat 8 (16 * f.dest.code)] ++
    match f.body.transfer with
    | some (c, g) => [BitVec.ofNat 8 (16 * c.val + g.val)]
    | none => []

/-- R4: the body bytes of each kind. -/
def FrameBody.bodyBytes : FrameBody → Nat
  | .offer .. => 8
  | .wait .. => 0
  | .grant .. => 4
  | .refuse .. => 1
  | .block _ _ _ payload => 2 + payload.length
  | .receipt .. => 5
  | .pause .. => 2
  | .withdraw .. => 1
  | .signal .. => 3
  | .join | .leave | .halt | .resume => 0

/-- R4: header, body and CRC. -/
def Frame.length (f : Frame) : Nat := f.header.length + f.body.bodyBytes + 2

/-- R2: how long a frame and the gap after it hold the lane, in ns. -/
def Frame.laneTime (f : Frame) : Nat := Config.byteTime * (f.length + Config.gapBytes)

/-- R7: one bit into the CRC of x^16 + x^12 + x^5 + 1. -/
def crcBit (crc : BitVec 16) (b : Bool) : BitVec 16 :=
  if crc.msb ^^ b then (crc <<< 1) ^^^ 0x1021 else crc <<< 1

/-- R7: one byte, most significant bit first. -/
def crcByte (crc : BitVec 16) (byte : Byte) : BitVec 16 :=
  [7, 6, 5, 4, 3, 2, 1, 0].foldl (fun acc i => crcBit acc (byte.getLsbD i)) crc

/-- R7: the CRC of header and body, from all ones, with no final inversion. -/
def crc16 (bytes : List Byte) : BitVec 16 := bytes.foldl crcByte 0xffff

/-- R7: the two CRC bytes, the more significant first. -/
def crcBytes (bytes : List Byte) : List Byte :=
  [(crc16 bytes).extractLsb' 8 8, (crc16 bytes).extractLsb' 0 8]

/-- R7: the last two bytes are the CRC of those before. -/
def crcPasses (bytes : List Byte) : Bool :=
  decide (2 ≤ bytes.length) &&
    decide (bytes.drop (bytes.length - 2) = crcBytes (bytes.take (bytes.length - 2)))

/-- R3: the kind field. -/
def headerKind (bytes : List Byte) : Nat := (bytes.getD 0 0).toNat / 16

/-- R3: the source field; bit 3 is ignored. -/
def headerSource (bytes : List Byte) : Nat := (bytes.getD 0 0).toNat % 8

/-- R3: the target field; bits 3–0 are ignored. -/
def headerTarget (bytes : List Byte) : Nat := (bytes.getD 1 0).toNat / 16

/-- R4, R9 step 2: the codes in use. -/
def kindUsed (kind : Nat) : Bool := decide (1 ≤ kind) && decide (kind ≤ 13)

/-- R4, R9 step 3: the frame length a kind has. -/
def lengthSuits (kind length : Nat) : Bool :=
  match kind with
  | 1 => length == 13
  | 2 => length == 5
  | 3 => length == 9
  | 4 => length == 6
  | 5 => decide (8 ≤ length) && decide (length ≤ 71)
  | 6 => length == 10
  | 7 => length == 7
  | 8 => length == 6
  | 9 => length == 7
  | 10 | 11 | 12 | 13 => length == 4
  | _ => false

/-- R9: the integrity checks; the first failure decides, and every failure decides the same. -/
def integrityPasses (f : ArrivingFrame) : Bool :=
  crcPasses f.bytes && kindUsed (headerKind f.bytes) && lengthSuits (headerKind f.bytes) f.bytes.length &&
    f.fieldsInRange

/-- R11: whether the target field suits the kind at a station of this number. -/
def targetSuits (own : Station) (kind target : Nat) : Bool :=
  if kind ≤ 8 then target == own.val
  else if kind = 9 then target == own.val || target == 15
  else target == 15

/-- R8: in JOINING and JOINED arriving frames are taken through the checks; in CONFIG and LEAVING, and so while a
soft reset is owed, they are discarded. -/
def StationControl.receiving (c : StationControl) : Bool :=
  match c.state with
  | .joining | .joined => !c.owed
  | .config | .leaving => false

/-- R8 to R11: the checks in their order. -/
def verdict (d : Device) (f : ArrivingFrame) : Verdict :=
  if !d.control.receiving || f.early then .discard
  else if !integrityPasses f then .discard
  else if headerSource f.bytes = d.control.number.val then .ownNumber
  else if headerSource f.bytes ≠ f.port.val then .laneMismatch
  else if !targetSuits d.control.number (headerKind f.bytes) (headerTarget f.bytes) then .discard
  else .deliver

end Sys2Proof.Machine
end

