-- ==== Sys2Proof/Machine/Flags.lean ====
section
/-! DEFINITION. The flags the local processor sees: LOSS and the notice queue (R180), ID_CONFLICT and
LANE_MISMATCH (R10, R176), the halted and holding bits (R160, R161, R172), and the notice line (R185). -/

namespace Sys2Proof.Machine

/-- R180: post a notice at the tail of the queue, or drop it and set LOSS. -/
def LocalPort.post (p : LocalPort) (n : Notice) : LocalPort :=
  if p.queue.length < Config.noticeMax then { p with queue := p.queue ++ [n] } else { p with loss := true }

/-- R180. -/
def Device.post (d : Device) (n : Notice) : Device := d.updLocal (·.post n)

/-- R160: the station is halted while its halt set is non-empty. -/
def HaltUnit.halted (h : HaltUnit) : Bool := h.members.toList.any id

/-- R160. -/
def Device.halted (d : Device) : Bool := d.halt.halted

/-- R10 step 1: a frame that bears the own number, heard on this port. -/
def Device.noteOwnNumber (d : Device) (port : Station) : Device :=
  let d' := d.updSpan fun s => { s with idConflict := true }
  if d.span.idConflict then d' else d'.post (.stationConflict port)

/-- R10 step 2. -/
def Device.noteLaneMismatch (d : Device) : Device := d.updSpan fun s => { s with laneMismatch := true }

/-- R176: the three flags are cleared together. -/
def Device.clearFlags (d : Device) : Device :=
  (d.updSpan fun s => { s with idConflict := false, laneMismatch := false }).updLocal
    fun p => { p with loss := false }

/-- R185: the level of the notice line. -/
def Device.noticeLine (d : Device) : Bool := d.lport.enable && (!d.lport.queue.isEmpty || d.lport.loss)

end Sys2Proof.Machine
end

