-- ==== Sys2Proof/Machine/Operands.lean ====
section
/-! DEFINITION. What the local processor writes and reads: the argument words (R171, R174), the codes of R6, R173,
R177 and R183, the notice record (R182), STATUS (R172) and the register window as it reads (R171). -/

namespace Sys2Proof.Machine

/-! ### Arguments -/

/-- R174: a whole argument word as a number. -/
def Device.arg (d : Device) (i : Fin 6) : Nat := d.lport.args[i].toNat

/-- R174: byte k of an argument word. -/
def Device.argByte (d : Device) (i : Fin 6) (k : Nat) : Nat := (d.lport.args[i].extractLsb' (8 * k) 8).toNat

/-- R42, R174: an event byte: 0 to 31, or 255 for none; other values fail. -/
def parseEvent (b : Nat) : Option (Option EventNo) :=
  if b = 255 then some none else if h : b < 32 then some (some ⟨b, h⟩) else none

/-- R42 step 3, R174: the descriptor that LOAD is given, if every field passes. -/
def Device.parseDescriptor (d : Device) : Option Descriptor :=
  match parseEvent (d.argByte 5 0), parseEvent (d.argByte 5 1) with
  | some landing, some done =>
    if h : d.argByte 1 0 < 8 ∧ d.argByte 1 1 < 16 ∧ d.argByte 1 2 < 8 then
      if d.argByte 1 0 ≠ d.control.number.val ∧ d.arg 2 ≤ Config.offsetMax ∧ 1 ≤ d.arg 4 ∧
          d.arg 4 ≤ Config.lengthMax ∧ d.arg 3 + d.arg 4 ≤ Config.addressSpace then
        some { target := ⟨d.argByte 1 0, h.1⟩, window := ⟨d.argByte 1 1, h.2.1⟩, offset := d.arg 2,
               source := d.lport.args[(3 : Fin 6)], length := d.arg 4, level := ⟨d.argByte 1 2, h.2.2⟩,
               landingEvent := landing, doneEvent := done, chain := decide (d.argByte 1 3 ≠ 0) }
      else none
    else none
  | _, _ => none

/-- R135 step 3, R174: the window entry that SET_WINDOW is given, if it passes. -/
def Device.parseWindow (d : Device) : Option WindowEntry :=
  let mode := d.argByte 4 1
  if d.arg 1 % 64 = 0 ∧ d.arg 2 % 64 = 0 ∧ 64 ≤ d.arg 2 ∧ d.arg 2 ≤ Config.windowMax ∧
      d.arg 1 + d.arg 2 ≤ Config.addressSpace ∧ mode ≤ 1 then
    some { enabled := decide (d.argByte 4 0 ≠ 0), base := d.lport.args[(1 : Fin 6)], size := d.arg 2,
           mask := d.lport.args[(3 : Fin 6)].extractLsb' 0 8,
           mode := if mode = 1 then .exclusive else .shared, pinned := decide (d.argByte 4 2 ≠ 0) }
  else none

/-- R174: the action codes. -/
def parseAction (a : Nat) : Option SignalAction :=
  match a with
  | 0 => some .none
  | 1 => some .notice
  | 2 => some .start
  | 3 => some .noticeAndStart
  | _ => none

/-- R148 step 2, R174: the signal entry that SET_SIGNAL is given, if it passes. -/
def Device.parseSignal (d : Device) : Option SignalEntry :=
  match parseAction (d.arg 1) with
  | some action =>
    if h : d.arg 2 < 8 then
      some { action := action, channel := ⟨d.arg 2, h⟩, mask := d.lport.args[(3 : Fin 6)].extractLsb' 0 8 }
    else none
  | none => none

/-- R47, R174: a binding: 0 none, 1 to 4 TRIG0 to TRIG3. -/
def parseBinding (b : Nat) : Option (Option LineNo) :=
  match b with
  | 0 => some none
  | 1 => some (some 0)
  | 2 => some (some 1)
  | 3 => some (some 2)
  | 4 => some (some 3)
  | _ => none

/-- R149 step 2, R174: a SIGNAL target, which is not the own number. -/
def parseDest (own : Station) (t : Nat) : Option Dest :=
  if t = 15 then some .all
  else if h : t < 8 then (if t = own.val then none else some (.station ⟨t, h⟩)) else none

/-- The transfer settings SET_TIMERS is given lie in their ranges (R175). -/
def Device.timersInRange (d : Device) : Bool :=
  decide (1 ≤ d.arg 0 ∧ d.arg 0 ≤ 255 ∧ 1 ≤ d.arg 1 ∧ d.arg 1 ≤ 255 ∧ 1 ≤ d.arg 2 ∧ d.arg 2 ≤ 255 ∧
    1 ≤ d.arg 3 ∧ d.arg 3 ≤ 255 ∧ 1 ≤ d.arg 4 ∧ d.arg 4 ≤ 8)

/-! ### Codes -/

/-- R6: the REFUSE codes. -/
def refuseCode : RefuseReason → Nat
  | .noWindow => 1
  | .access => 2
  | .range => 3
  | .busy => 4
  | .expired => 5
  | .unknown => 6
  | .fault => 7
  | .timeout => 8
  | .leaving => 9

/-- R6: the WITHDRAW codes. -/
def withdrawCode : WithdrawReason → Nat
  | .aborted => 1
  | .noReply => 2
  | .queueExpired => 3
  | .pauseExpired => 4
  | .stale => 5
  | .fault => 6
  | .leaving => 7

/-- R183: the reason field. -/
def Reason.code : Reason → Nat
  | .refuse r => refuseCode r
  | .withdraw r => withdrawCode r

/-- R173. -/
def ResultCode.code : ResultCode → Nat
  | .ok => 0
  | .state => 1
  | .busy => 2
  | .full => 3
  | .badArgument => 4
  | .badDescriptor => 5
  | .empty => 6

/-- R177. -/
def ChannelState.code : ChannelState → Nat
  | .empty => 0
  | .ready => 1
  | .offering => 2
  | .queued => 3
  | .streaming => 4
  | .draining => 5
  | .paused => 6

/-- R172. -/
def StationState.code : StationState → Nat
  | .config => 0
  | .joining => 1
  | .joined => 2
  | .leaving => 3

/-- R174. -/
def SignalAction.code : SignalAction → Nat
  | .none => 0
  | .notice => 1
  | .start => 2
  | .noticeAndStart => 3

/-- R174. -/
def WindowMode.code : WindowMode → Nat
  | .shared => 0
  | .exclusive => 1

/-- R183. -/
def TransferOutcome.code : TransferOutcome → Nat
  | .done => 1
  | .refused => 2
  | .noReply => 3
  | .queueExpired => 4
  | .pauseExpired => 5
  | .fault => 6
  | .aborted => 7
  | .peerLeft => 8
  | .peerRestart => 9
  | .left => 10

/-- R183. -/
def Ending.code : Ending → Nat
  | .landed => 1
  | .superseded => 2
  | .withdrawn _ => 3
  | .busy => 4
  | .expired => 5
  | .timeout => 6
  | .fault => 7
  | .leaving => 8
  | .peerLeft => 9
  | .peerRestart => 10

/-- R183: a reason is present with ending WITHDRAWN alone. -/
def Ending.reason : Ending → Option Nat
  | .withdrawn r => some (withdrawCode r)
  | .landed | .superseded | .busy | .expired | .timeout | .fault | .leaving | .peerLeft | .peerRestart => none

/-- R183. -/
def PeerChange.code : PeerChange → Nat
  | .joined => 1
  | .restart => 2
  | .left => 3

/-- R183. -/
def HaltCause.code : HaltCause → Nat
  | .halt => 1
  | .hold => 2
  | .resume => 3
  | .release => 4
  | .lapse => 5
  | .teardown => 6
  | .leaving => 7

/-! ### The notice record -/

/-- R182: the presence flag of a field at this bit of NOTICE0. -/
def presence (bit : Nat) (field : Option Nat) : Nat := if field.isSome then 2 ^ bit else 0

/-- R182: NOTICE0 to NOTICE3; a field not carried has its flag clear and reads as 0. -/
def noticeWords (kind : Nat) (station channel window generation outcome reason bytes event : Option Nat)
    (argument : Nat) : Vector Word 4 :=
  #v[BitVec.ofNat 32 (kind + presence 8 station + presence 9 channel + presence 10 window +
       presence 11 generation + presence 12 outcome + presence 13 reason + presence 14 bytes +
       presence 15 event + station.getD 0 * 2 ^ 16 + channel.getD 0 * 2 ^ 20 + window.getD 0 * 2 ^ 24 +
       generation.getD 0 * 2 ^ 28),
     BitVec.ofNat 32 (outcome.getD 0 + reason.getD 0 * 2 ^ 8 + event.getD 0 * 2 ^ 16),
     BitVec.ofNat 32 (bytes.getD 0),
     BitVec.ofNat 32 argument]

/-- R183: the fields each kind of notice carries. The cause of HALT_CHANGE stands in the outcome field, as R182 and R183
lay the record out, against R165's "in its reason field" (DEDUCED, log 7). -/
def Notice.words : Notice → Vector Word 4
  | .channelEnded c t w g o r b =>
    noticeWords 1 (some t.val) (some c.val) (some w.val) (some g.val) (some o.code) (r.map Reason.code) (some b)
      none 0
  | .startMissed c .line => noticeWords 2 none (some c.val) none none (some 1) none none none 0
  | .startMissed c (.signal e s) =>
    noticeWords 2 (some s.val) (some c.val) none none (some 2) none none (some e.val) 0
  | .startMissed c .latch => noticeWords 2 none (some c.val) none none (some 3) none none none 0
  | .landingEnded k w g e b =>
    noticeWords 3 (some k.source.val) (some k.channel.val) (some w.val) (some g.val) (some e.code) e.reason
      (some b) none 0
  | .landingSuspended k w g b =>
    noticeWords 4 (some k.source.val) (some k.channel.val) (some w.val) (some g.val) none none (some b) none 0
  | .landingResumed k w g b =>
    noticeWords 5 (some k.source.val) (some k.channel.val) (some w.val) (some g.val) none none (some b) none 0
  | .signal s .frame e a => noticeWords 6 (some s.val) none none none none none none (some e.val) a.toNat
  | .signal s (.landing c w g) e a =>
    noticeWords 6 (some s.val) (some c.val) (some w.val) (some g.val) none none none (some e.val) a.toNat
  | .signal s (.done c g) e a =>
    noticeWords 6 (some s.val) (some c.val) none (some g.val) none none none (some e.val) a.toNat
  | .peerChange p c => noticeWords 7 (some p.val) none none none (some c.code) none none none 0
  | .haltChange n c => noticeWords 8 (some n.val) none none none (some c.code) none none none 0
  | .leftSpan n => noticeWords 9 (some n.val) none none none none none none none 0
  | .stationConflict p => noticeWords 10 (some p.val) none none none none none none none 0

/-! ### The register window as it reads -/

/-- R172. -/
def Device.status (d : Device) : Word :=
  BitVec.ofNat 32 (d.control.state.code + d.control.owed.toNat * 2 ^ 2 + d.halted.toNat * 2 ^ 3 +
    d.halt.holding.toNat * 2 ^ 4 + d.lport.queue.length % 64 * 2 ^ 8 + d.lport.loss.toNat * 2 ^ 16 +
    d.span.idConflict.toNat * 2 ^ 17 + d.span.laneMismatch.toNat * 2 ^ 18)

/-- R171: what each word of the window reads; reading changes nothing. Word 15 reads as 0. R171 does not say what bits 31–8
of RESULT read; here they read as 0 (DESIGN CHOICE, log 26). -/
def Device.readWord (d : Device) (word : Fin 16) : Word :=
  match word.val with
  | 0 => d.lport.command.zeroExtend 32
  | 1 => d.lport.args[(0 : Fin 6)]
  | 2 => d.lport.args[(1 : Fin 6)]
  | 3 => d.lport.args[(2 : Fin 6)]
  | 4 => d.lport.args[(3 : Fin 6)]
  | 5 => d.lport.args[(4 : Fin 6)]
  | 6 => d.lport.args[(5 : Fin 6)]
  | 7 => BitVec.ofNat 32 d.lport.result.code
  | 8 => d.status
  | 9 => d.lport.notice[(0 : Fin 4)]
  | 10 => d.lport.notice[(1 : Fin 4)]
  | 11 => d.lport.notice[(2 : Fin 4)]
  | 12 => d.lport.notice[(3 : Fin 4)]
  | 13 => if d.lport.enable then 1 else 0
  | 14 => BitVec.ofNat 32 d.control.number.val
  | _ => 0

/-- R171: the ARG word at a word number of the window, if it is one. -/
def argWord (word : Fin 16) : Option (Fin 6) :=
  match word.val with
  | 1 => some 0
  | 2 => some 1
  | 3 => some 2
  | 4 => some 3
  | 5 => some 4
  | 6 => some 5
  | _ => none

/-- R171: a write to an ARG word; writes to the read-only words are ignored. -/
def Device.writeArg (d : Device) (word : Fin 16) (value : Word) : Device :=
  match argWord word with
  | some i => d.updLocal fun p => { p with args := p.args.set i value }
  | none => d

/-! ### Words the read commands return -/

/-- A word of four bytes, byte 0 in bits 7–0 (R174). -/
def packBytes (b0 b1 b2 b3 : Nat) : Word := BitVec.ofNat 32 (b0 + b1 * 2 ^ 8 + b2 * 2 ^ 16 + b3 * 2 ^ 24)

/-- R177: ARG0 to ARG5 of READ_CHANNEL. R177 gives no content for bits 7–3 of byte 2 of ARG0 and for byte 3 of ARG4; here they
are written as 0 (DESIGN CHOICE, log 27). -/
def Channel.words (c : Channel) : Vector Word 6 :=
  #v[packBytes c.state.code c.generation.val
       (c.latch.toNat + c.active.isSome.toNat * 2 + c.standby.isSome.toNat * 4) (c.retry % 16 + c.sends % 16 * 16),
     BitVec.ofNat 32 c.next,
     BitVec.ofNat 32 c.accepted,
     BitVec.ofNat 32 c.limit,
     packBytes (match c.last.outcome with | some o => o.code | none => 0)
       (match c.last.reason with | some r => r.code | none => 0) c.last.generation.val 0,
     BitVec.ofNat 32 c.last.bytes]

/-- R179: ARG1 to ARG5 of READ_WINDOW, in the arrangement of SET_WINDOW; ARG0 keeps the number. Bits 31–8 of ARG3 and byte 3 of
ARG4, in which that arrangement has no field, are written as 0 (DESIGN CHOICE, log 27). -/
def WindowEntry.words (e : WindowEntry) (number : Word) : Vector Word 6 :=
  #v[number, e.base, BitVec.ofNat 32 e.size, e.mask.zeroExtend 32,
     packBytes e.enabled.toNat e.mode.code e.pinned.toNat 0, 0]

/-- R179: ARG1 to ARG5 of READ_SIGNAL. Bits 31–8 of ARG3, in which the arrangement of SET_SIGNAL has no field, are written as 0
(DESIGN CHOICE, log 27). -/
def SignalEntry.words (e : SignalEntry) (number : Word) : Vector Word 6 :=
  #v[number, BitVec.ofNat 32 e.action.code, BitVec.ofNat 32 e.channel.val, e.mask.zeroExtend 32, 0, 0]

end Sys2Proof.Machine
end

