-- ==== Sys2Proof/Machine/Ops.lean ====
section
/-! DEFINITION. The shared operations over the transmit queues of the Span Interface (R12 to R18), the fetch
buffers, read requests and write queue of the Memory Port (R89, R139 to R142) and the block pool (R92). -/

namespace Sys2Proof.Machine

/-! ### Choosing from an ordered list -/

/-- The earliest element with the smallest value of f. -/
def firstMin {α : Type} (f : α → Nat) : List α → Option α
  | [] => none
  | a :: as =>
    match firstMin f as with
    | none => some a
    | some b => if f a ≤ f b then some a else some b

/-- The latest element with the largest value of f. -/
def lastMax {α : Type} (f : α → Nat) : List α → Option α
  | [] => none
  | a :: as =>
    match lastMax f as with
    | none => some a
    | some b => if f a ≤ f b then some b else some a

/-- The channels in order of channel number, and the stations in order of station number. -/
def eight : List (Fin 8) := [0, 1, 2, 3, 4, 5, 6, 7]

/-! ### Due flags (R12) -/

/-- R12, R18: a claim of a station frame; while a soft reset is owed it is dropped. -/
def Device.claimDue (d : Device) (f : SpanInterface → SpanInterface) : Device :=
  if d.control.owed then d else d.updSpan f

/-- R12, R22, R23. -/
def Device.makeJoinDue (d : Device) : Device := d.claimDue fun s => { s with joinDue := true }

/-- R12: making HALT due clears a due RESUME. -/
def Device.makeHaltDue (d : Device) : Device := d.claimDue fun s => { s with haltDue := true, resumeDue := false }

/-- R12: making RESUME due clears a due HALT. -/
def Device.makeResumeDue (d : Device) : Device :=
  d.claimDue fun s => { s with haltDue := false, resumeDue := true }

/-! ### The reply queue (R13) -/

/-- R13: a REFUSE. -/
def ReplyKind.isRefuse : ReplyKind → Bool
  | .refuse _ => true
  | .wait | .grant .. | .receipt .. | .pause _ => false

/-- R13: a GRANT. -/
def ReplyKind.isGrant : ReplyKind → Bool
  | .grant .. => true
  | .wait | .refuse _ | .receipt .. | .pause _ => false

/-- R13: a new reply joins at the tail, or takes the place of the waiting reply of its key, but a waiting REFUSE of
the same generation stays. -/
def placeReply : List Reply → Reply → List Reply
  | [], r => [r]
  | q :: qs, r =>
    if q.key = r.key then
      if q.kind.isRefuse ∧ q.generation = r.generation then q :: qs else r :: qs
    else q :: placeReply qs r

/-- R13, R18: claim a reply; while a soft reset is owed the claim is dropped. -/
def Device.claimReply (d : Device) (key : Key) (generation : Generation) (kind : ReplyKind) : Device :=
  if d.control.owed then d
  else d.updSpan fun s => { s with replies := placeReply s.replies { key, generation, kind } }

/-- R96: a GRANT of this key and generation is waiting to be sent. -/
def Device.grantWaits (d : Device) (key : Key) (generation : Generation) : Bool :=
  d.span.replies.any fun r => decide (r.key = key) && decide (r.generation = generation) && r.kind.isGrant

/-! ### The initiation queue (R14) -/

/-- R14: put a current frame into a channel's slot, opening one at the tail if it has none. -/
def placeCurrent (channel : ChannelNo) (frame : SlotFrame) : List InitEntry → List InitEntry
  | [] => [.slot channel none (some frame)]
  | .slot c e cur :: qs =>
    if c = channel then .slot c e (some frame) :: qs else .slot c e cur :: placeCurrent channel frame qs
  | .signal t e a :: qs => .signal t e a :: placeCurrent channel frame qs

/-- R14: put an earlier WITHDRAW into a channel's slot, opening one at the tail if it has none. -/
def placeEarlier (channel : ChannelNo) (w : Withdrawal) : List InitEntry → List InitEntry
  | [] => [.slot channel (some w) none]
  | .slot c e cur :: qs =>
    if c = channel then .slot c (some w) cur :: qs else .slot c e cur :: placeEarlier channel w qs
  | .signal t e a :: qs => .signal t e a :: placeEarlier channel w qs

/-- R14: a slot left empty leaves the queue. -/
def InitEntry.nonEmpty : InitEntry → Bool
  | .slot _ none none => false
  | .slot _ (some _) _ | .slot _ none (some _) | .signal .. => true

/-- R14: change the frames of a channel's slot; a slot left empty leaves the queue, any other keeps its place. -/
def changeSlot (channel : ChannelNo)
    (f : Option Withdrawal → Option SlotFrame → Option Withdrawal × Option SlotFrame)
    (q : List InitEntry) : List InitEntry :=
  (q.map fun entry =>
    match entry with
    | .slot c e cur => if c = channel then .slot c (f e cur).1 (f e cur).2 else .slot c e cur
    | .signal t e a => .signal t e a).filter InitEntry.nonEmpty

/-- R14: when the channel advances its generation, its current WITHDRAW becomes the earlier one. -/
def demoteCurrent (e : Option Withdrawal) (cur : Option SlotFrame) : Option Withdrawal × Option SlotFrame :=
  match cur with
  | some (.withdraw w) => (some w, none)
  | some (.offer t g f) => (e, some (.offer t g f))
  | none => (e, none)

/-- R14: when the channel leaves OFFERING, its current OFFER is removed. -/
def dropOffer (e : Option Withdrawal) (cur : Option SlotFrame) : Option Withdrawal × Option SlotFrame :=
  match cur with
  | some (.offer ..) => (e, none)
  | some (.withdraw w) => (e, some (.withdraw w))
  | none => (e, none)

/-- The target of a slot's current frame. -/
def SlotFrame.target : SlotFrame → Station
  | .offer t _ _ => t
  | .withdraw w => w.target

/-- R17: the frames of a slot that wait for peer x are removed. -/
def dropFor (x : Station) (e : Option Withdrawal) (cur : Option SlotFrame) :
    Option Withdrawal × Option SlotFrame :=
  (e.filter fun w => decide (w.target ≠ x), cur.filter fun f => decide (f.target ≠ x))

/-- R18: a change of the initiation queue by a claim; while a soft reset is owed it is dropped. -/
def Device.claimInitiation (d : Device) (f : List InitEntry → List InitEntry) : Device :=
  if d.control.owed then d else d.updSpan fun s => { s with initiation := f s.initiation }

/-- R14: a WITHDRAW claim of a channel, current or earlier by its generation. -/
def Device.claimWithdraw (d : Device) (c : ChannelNo) (w : Withdrawal) : Device :=
  if w.generation = d.channels[c].generation then d.claimInitiation (placeCurrent c (.withdraw w))
  else d.claimInitiation (placeEarlier c w)

/-- R14: an OFFER claim of a channel for its current generation, with the fields of its active descriptor (R50). -/
def Device.claimOffer (d : Device) (c : ChannelNo) (a : Descriptor) : Device :=
  d.claimInitiation (placeCurrent c (.offer a.target d.channels[c].generation
    { level := a.level, window := a.window, offset := a.offset, length := a.length,
      landingEvent := a.landingEvent }))

/-- R14: the channel leaves OFFERING. -/
def Device.removeOffer (d : Device) (c : ChannelNo) : Device :=
  d.updSpan fun s => { s with initiation := changeSlot c dropOffer s.initiation }

/-- R14: a SIGNAL entry. -/
def InitEntry.isSignal : InitEntry → Bool
  | .signal .. => true
  | .slot .. => false

/-- R149: the SIGNAL entries waiting. -/
def SpanInterface.signalCount (s : SpanInterface) : Nat := (s.initiation.filter InitEntry.isSignal).length

/-- R178: the channel slots in the initiation queue. -/
def SpanInterface.slotCount (s : SpanInterface) : Nat :=
  (s.initiation.filter fun e => !e.isSignal).length

/-- R17: remove every frame waiting for peer x; SIGNAL entries stay. -/
def Device.removeFramesFor (d : Device) (x : Station) : Device :=
  d.updSpan fun s =>
    { s with
      replies := s.replies.filter fun r => decide (r.key.source ≠ x)
      initiation := eight.foldl (fun q c => changeSlot c (dropFor x) q) s.initiation }

/-- R18: clear the lane of everything but one LEAVE. -/
def SpanInterface.clearForLeave (s : SpanInterface) : SpanInterface :=
  { s with replies := [], initiation := [], joinDue := false, haltDue := false, resumeDue := false,
           leaveDue := true }

/-! ### Blocks of a transfer (R5) -/

/-- R5: the block count of a length. -/
def blockCount (length : Nat) : Nat := (length + 63) / 64

/-- R5: the payload length of block s of a transfer of this length. -/
def blockLength (length s : Nat) : Nat :=
  if s + 1 = blockCount length then length - 64 * s else Config.blockBytes

/-- R55, R83: the bytes of this many blocks of a transfer of this length. -/
def confirmedBytes (blocks length : Nat) : Nat := min (64 * blocks) length

/-! ### Fetch buffers and read requests (R89, R140, R142) -/

/-- R140, R142: the port's side of a fetch buffer being emptied: its waiting request is removed, its read in flight
is marked abandoned. -/
def MemoryPort.giveUp (p : MemoryPort) (c : ChannelNo) (b : Fin 2) : MemoryPort :=
  { p with
    reads := p.reads.filter fun r => !(decide (r.channel = c) && decide (r.buffer = b))
    access :=
      match p.access with
      | some (.read r ab) => some (.read r (ab || (decide (r.channel = c) && decide (r.buffer = b))))
      | some .write => some .write
      | none => none }

/-- Empty one fetch buffer of a channel. -/
def Device.emptyBuffer (d : Device) (c : ChannelNo) (b : Fin 2) : Device :=
  (d.updChannel c fun ch => { ch with buffers := ch.buffers.set b .empty }).updPort (·.giveUp c b)

/-- Empty the fetch buffers of a channel that do not pass `keep`. -/
def Device.emptyBuffers (d : Device) (c : ChannelNo) (keep : FetchBuffer → Bool) : Device :=
  let d := if keep d.channels[c].buffers[(0 : Fin 2)] then d else d.emptyBuffer c 0
  if keep d.channels[c].buffers[(1 : Fin 2)] then d else d.emptyBuffer c 1

/-- R89: a buffer that holds or is fetching this block. -/
def FetchBuffer.has (block : Nat) : FetchBuffer → Bool
  | .empty => false
  | .fetching s => s == block
  | .holding s _ => s == block

/-- R108: a buffer that holds a block wanted when next-to-send is this. -/
def FetchBuffer.holdsWanted (next : Nat) : FetchBuffer → Bool
  | .holding s _ => s == next || s == next + 1
  | .empty | .fetching _ => false

/-- R104 step 2: a buffer that holds or fetches no block below this one. -/
def FetchBuffer.notBelow (next : Nat) : FetchBuffer → Bool
  | .holding s _ | .fetching s => decide (next ≤ s)
  | .empty => true

/-- The empty fetch buffer that takes the next read (log 15: the lower numbered). -/
def Channel.emptySlot (ch : Channel) : Option (Fin 2) :=
  if ch.buffers[(0 : Fin 2)] = .empty then some 0
  else if ch.buffers[(1 : Fin 2)] = .empty then some 1 else none

/-- R89, R140: request a read of this block if the channel wants it, no buffer has it and a buffer is empty. -/
def Device.requestRead (d : Device) (c : ChannelNo) (block : Nat) : Device :=
  match d.channels[c].active, d.channels[c].emptySlot with
  | some a, some b =>
    if d.channels[c].state = .streaming ∧ block < d.channels[c].limit ∧ block < blockCount a.length ∧
        !(d.channels[c].buffers.toList.any (FetchBuffer.has block)) then
      (d.updChannel c fun ch => { ch with buffers := ch.buffers.set b (.fetching block) }).updPort fun p =>
        { p with reads := p.reads ++ [{ channel := c, buffer := b, block := block,
                                        address := a.source.toNat + 64 * block,
                                        bytes := blockLength a.length block, level := a.level }] }
    else d
  | _, _ => d

/-- R89: the wanted blocks are next-to-send and the one after it; the lower is requested first. -/
def Device.requestReads (d : Device) (c : ChannelNo) : Device :=
  let next := d.channels[c].next
  (d.requestRead c next).requestRead c (next + 1)

/-- R141 step 2: lowest level number, then lower channel number, then placed earlier. -/
def bestRead (reads : List ReadRequest) : Option ReadRequest :=
  firstMin (fun r => 8 * r.level.val + r.channel.val) reads

/-- R141: the port issues an access when it is free and a client waits. -/
def MemoryPort.issue (p : MemoryPort) : MemoryPort :=
  match p.access with
  | some _ => p
  | none =>
    match p.writes with
    | _ :: _ => { p with access := some .write }
    | [] =>
      match bestRead p.reads with
      | some r => { p with access := some (.read r false), reads := p.reads.erase r }
      | none => p

/-- R141: the bus transfers of an access, (address, bytes) in ascending order, each within one aligned word. R141 does not
say how many bytes each carries; here each is as wide as its word lets it be, one for each word touched (DESIGN CHOICE,
log 25). -/
def busTransfers : Nat → Nat → Nat → List (Nat × Nat)
  | 0, _, _ => []
  | fuel + 1, address, bytes =>
    if bytes = 0 then []
    else
      let n := min bytes (4 - address % 4)
      (address, n) :: busTransfers fuel (address + n) (bytes - n)

/-! ### The block pool (R92) -/

/-- R67: the block count of a landing. -/
def Landing.blocks (l : Landing) : Nat := blockCount l.offer.fields.length

/-- R92: the reservations of a record; only an ACTIVE one has any. -/
def Landing.reserved (l : Landing) : Nat :=
  match l.phase with
  | .active => l.limit - l.accepted
  | .settling | .suspended => 0

/-- R92: buffers reserved. -/
def AdmissionUnit.reserved (a : AdmissionUnit) : Nat := (a.landings.map Landing.reserved).sum

/-- R92, R139: buffers holding a block. -/
def Device.holding (d : Device) : Nat := d.port.writes.length

/-- R92: buffers free. -/
def Device.free (d : Device) : Nat := Config.poolBuffers - (d.holding + d.admission.reserved)

/-- R67: the buffers a record holds. -/
def Device.buffersHeld (d : Device) (k : Key) : Nat := d.port.writes.countP fun w => decide (w.owner = some k)

/-- R139: the references to a removed record are cleared. -/
def MemoryPort.clearOwner (p : MemoryPort) (k : Key) : MemoryPort :=
  { p with writes := p.writes.map fun w => if w.owner = some k then { w with owner := none } else w }

end Sys2Proof.Machine
end

