-- ==== Sys2Proof/Machine/Transfers.lean ====
section
/-! DEFINITION. The shared operations of the Channel Unit: starts, the latch, the beginning and the ending of a
transfer (R48 to R57), and the Signal Unit's application of a signal table entry (R153 to R156). -/

namespace Sys2Proof.Machine

/-- R39: the transfer states. -/
def ChannelState.inTransfer : ChannelState → Bool
  | .offering | .queued | .streaming | .draining | .paused => true
  | .empty | .ready => false

/-- R50: the transfer of the active descriptor begins. -/
def Device.beginTransfer (d : Device) (c : ChannelNo) : Device :=
  match d.channels[c].active with
  | none => d
  | some a =>
    let d := d.emptyBuffers c fun _ => false
    let d := d.updChannel c fun ch =>
      { ch with generation := ch.generation + 1, next := 0, accepted := 0, limit := 0, retry := 0, sends := 1,
                latch := false }
    let d := d.updSpan fun s => { s with initiation := changeSlot c demoteCurrent s.initiation }
    let d := d.claimOffer c a
    d.updChannel c fun ch => { ch with state := .offering, timer := some d.config.tReply }

/-- R49, R51: the start latch is set. -/
def Device.setLatch (d : Device) (c : ChannelNo) : Device := d.updChannel c fun ch => { ch with latch := true }

/-- R49: what a start does at a channel; `none` when it is dropped (or, for START, refused). -/
def Device.tryStart (d : Device) (c : ChannelNo) : Option Device :=
  match d.control.state with
  | .joined =>
    match d.channels[c].state with
    | .empty => none
    | .ready => some (d.beginTransfer c)
    | .offering | .queued | .streaming | .draining | .paused => some (d.setLatch c)
  | .joining =>
    match d.channels[c].state with
    | .empty => none
    | .ready | .offering | .queued | .streaming | .draining | .paused => some (d.setLatch c)
  | .config | .leaving => none

/-- R49, R53: a line or signal start; when it is dropped, START_MISSED is posted. -/
def Device.startOrMiss (d : Device) (c : ChannelNo) (cause : MissedCause) : Device :=
  match d.tryStart c with
  | some d' => d'
  | none => d.post (.startMissed c cause)

/-- R153: the actions that post a notice. -/
def SignalAction.notices : SignalAction → Bool
  | .notice | .noticeAndStart => true
  | .none | .start => false

/-- R153: the actions that make a start. -/
def SignalAction.starts : SignalAction → Bool
  | .start | .noticeAndStart => true
  | .none | .notice => false

/-- R153, R154: apply a signal table entry for a signal of this source, cause and argument. -/
def Device.applySignal (d : Device) (source : Station) (cause : SignalCause) (event : EventNo)
    (argument : BitVec 16) : Device :=
  let e := d.config.signals[event]
  let d := if e.action.notices then d.post (.signal source cause event argument) else d
  if e.action.starts then d.startOrMiss e.channel (.signal event source) else d

/-- R56: the standby descriptor is promoted. -/
def Channel.promote (ch : Channel) : Channel :=
  match ch.standby with
  | some a => { ch with active := some a, standby := none, state := .ready }
  | none => { ch with active := none, state := .empty }

/-- R54 step 1: the timer stops and both fetch buffers are emptied. -/
def Device.stopMachinery (d : Device) (c : ChannelNo) : Device :=
  (d.emptyBuffers c fun _ => false).updChannel c fun ch => { ch with timer := none }

/-- R56, R57: what follows promotion: after DONE the chain flag or the latch may begin the promoted descriptor, or
the latch is missed; after any other outcome the latch is cleared. -/
def Device.afterPromotion (d : Device) (c : ChannelNo) (outcome : TransferOutcome) (chain : Bool) : Device :=
  if outcome = .done then
    match d.channels[c].state with
    | .ready => if chain || d.channels[c].latch then d.beginTransfer c else d
    | .empty | .offering | .queued | .streaming | .draining | .paused =>
      if d.channels[c].latch then
        (d.updChannel c fun ch => { ch with latch := false }).post (.startMissed c .latch)
      else d
  else d.updChannel c fun ch => { ch with latch := false }

/-- R54: the WITHDRAW an outcome claims, if any. -/
def TransferOutcome.withdraw : TransferOutcome → Option WithdrawReason
  | .noReply => some .noReply
  | .queueExpired => some .queueExpired
  | .pauseExpired => some .pauseExpired
  | .fault => some .fault
  | .aborted => some .aborted
  | .left => some .leaving
  | .done | .refused | .peerLeft | .peerRestart => none

/-- R54: the reason recorded with an outcome; REFUSED records the REFUSE's. -/
def outcomeReason (outcome : TransferOutcome) (refused : Option RefuseReason) : Option Reason :=
  match outcome with
  | .refused => refused.map .refuse
  | .noReply | .queueExpired | .pauseExpired | .fault | .aborted | .left => outcome.withdraw.map .withdraw
  | .done | .peerLeft | .peerRestart => none

/-- R54 steps 1 and 2: stop the machinery, claim the WITHDRAW the outcome calls for, and let a current OFFER go. -/
def Device.closeTransfer (d : Device) (c : ChannelNo) (a : Descriptor) (outcome : TransferOutcome) : Device :=
  let d := d.stopMachinery c
  let d :=
    match outcome.withdraw with
    | some r => d.claimWithdraw c { target := a.target, generation := d.channels[c].generation, reason := r }
    | none => d
  d.removeOffer c

/-- R54 steps 3 and 4, R55: write the last outcome record and post CHANNEL_ENDED. -/
def Device.recordOutcome (d : Device) (c : ChannelNo) (a : Descriptor) (outcome : TransferOutcome)
    (reason : Option Reason) : Device :=
  let bytes := confirmedBytes d.channels[c].accepted a.length
  let d := d.updChannel c fun ch =>
    { ch with last := { outcome := some outcome, reason := reason, generation := ch.generation, bytes := bytes } }
  d.post (.channelEnded c a.target a.window d.channels[c].generation outcome reason bytes)

/-- R54 step 5, R156: for DONE, the done event is applied. -/
def Device.applyDone (d : Device) (c : ChannelNo) (a : Descriptor) (outcome : TransferOutcome) : Device :=
  match outcome, a.doneEvent with
  | .done, some e => d.applySignal d.control.number (.done c d.channels[c].generation) e 0
  | _, _ => d

/-- R54: the transfer of a channel reaches this outcome. -/
def Device.endTransfer (d : Device) (c : ChannelNo) (outcome : TransferOutcome)
    (refused : Option RefuseReason) : Device :=
  match d.channels[c].active with
  | none => d
  | some a =>
    let d := d.closeTransfer c a outcome
    let d := d.recordOutcome c a outcome (outcomeReason outcome refused)
    let d := d.applyDone c a outcome
    let d := d.updChannel c Channel.promote
    d.afterPromotion c outcome a.chain

/-- R60: a reply matches a channel in a transfer state. -/
def Channel.matchesReply (ch : Channel) (source : Station) (generation : Generation) : Bool :=
  match ch.active with
  | some a => ch.state.inTransfer && decide (a.target = source) && decide (ch.generation = generation)
  | none => false

/-- R66: a GRANT that cannot be taken is answered with WITHDRAW(STALE); a joining station sends none. -/
def Device.answerStale (d : Device) (c : ChannelNo) (source : Station) (generation : Generation) : Device :=
  if d.control.state = .joining then d
  else d.claimWithdraw c { target := source, generation := generation, reason := .stale }

end Sys2Proof.Machine
end

