-- ==== Sys2Proof/Machine/Landings.lean ====
section
/-! DEFINITION. The shared operations of the Admission Unit: search and judgement of offers, admission, preemption,
the pending list, removals, admission runs, credit and completion (R67 to R83, R92 to R102, R113 to R128). -/

namespace Sys2Proof.Machine

/-! ### The collections -/

/-- R69: the search for a transfer key. -/
def AdmissionUnit.find (a : AdmissionUnit) (k : Key) : Found :=
  match (a.landings ++ a.suspended).find? fun l => decide (l.offer.key = k) with
  | some l => .landing l
  | none =>
    match a.waiting.find? fun e => decide (e.offer.key = k) with
    | some e => .pending e
    | none =>
      match a.recent.find? fun r => decide (r.key = k) with
      | some r => .recent r
      | none => .nothing

/-- The landing table's record of a key. -/
def AdmissionUnit.landing (a : AdmissionUnit) (k : Key) : Option Landing :=
  a.landings.find? fun l => decide (l.offer.key = k)

/-- Change the landing table's record of a key. -/
def AdmissionUnit.updLanding (a : AdmissionUnit) (k : Key) (f : Landing → Landing) : AdmissionUnit :=
  { a with landings := a.landings.map fun l => if l.offer.key = k then f l else l }

/-- Change the record of a key in the landing table or on the suspended list. -/
def AdmissionUnit.updRecord (a : AdmissionUnit) (k : Key) (f : Landing → Landing) : AdmissionUnit :=
  { a with
    landings := a.landings.map fun l => if l.offer.key = k then f l else l
    suspended := a.suspended.map fun l => if l.offer.key = k then f l else l }

/-- The record of a key leaves the landing table and the suspended list; the records behind it close up. -/
def AdmissionUnit.dropRecord (a : AdmissionUnit) (k : Key) : AdmissionUnit :=
  { a with
    landings := a.landings.filter fun l => decide (l.offer.key ≠ k)
    suspended := a.suspended.filter fun l => decide (l.offer.key ≠ k) }

/-- The pending entry of a key leaves the pending list. -/
def AdmissionUnit.dropWaiting (a : AdmissionUnit) (k : Key) : AdmissionUnit :=
  { a with waiting := a.waiting.filter fun e => decide (e.offer.key ≠ k) }

/-- R72: the recently landed entry of a key is removed. -/
def AdmissionUnit.dropRecent (a : AdmissionUnit) (k : Key) : AdmissionUnit :=
  { a with recent := a.recent.filter fun r => decide (r.key ≠ k) }

/-- R110: add a recently landed entry at the tail; a full list drops its oldest. -/
def AdmissionUnit.addRecent (a : AdmissionUnit) (r : RecentEntry) : AdmissionUnit :=
  { a with recent := (if a.recent.length < Config.recentMax then a.recent else a.recent.drop 1) ++ [r] }

/-- R68, R113: insert behind every entry that is as urgent or more urgent. -/
def insertByLevel {α : Type} (level : α → Nat) (x : α) : List α → List α
  | [] => [x]
  | y :: ys => if level y ≤ level x then y :: insertByLevel level x ys else x :: y :: ys

/-- R83: accepted bytes of a record. -/
def Landing.byteCount (l : Landing) : Nat := confirmedBytes l.accepted l.offer.fields.length

/-- R83, R183: the LANDING_ENDED notice of an offer. -/
def Offer.ended (o : Offer) (ending : Ending) (bytes : Nat) : Notice :=
  .landingEnded o.key o.fields.window o.generation ending bytes

/-- R71, R82, R102: a record is removed: its reservations and its slot go with it, and the references of its write
queue entries are cleared, so its blocks are still written (R139). -/
def Device.removeRecord (d : Device) (k : Key) : Device :=
  (d.updAdmission (·.dropRecord k)).updPort (·.clearOwner k)

/-! ### Capacity (R74, R80, R98) -/

/-- R74, R137: a window is EXCLUSIVE and a landing in the table occupies it. -/
def Device.occupied (d : Device) (w : WindowNo) : Bool :=
  decide (d.config.windows[w].mode = .exclusive) &&
    d.admission.landings.any fun l => decide (l.offer.fields.window = w)

/-- R74: the landing table holds 8 landings. -/
def Device.tableFull (d : Device) : Bool := decide (Config.landingSlots ≤ d.admission.landings.length)

/-- R74, R80: a slot, the window and a buffer are free. -/
def Device.canAdmit (d : Device) (w : WindowNo) : Bool :=
  !d.tableFull && !d.occupied w && decide (0 < d.free)

/-- The level number of a landing. -/
def Landing.level (l : Landing) : Nat := l.offer.fields.level.val

/-- The level number of a pending entry. -/
def PendingEntry.level (e : PendingEntry) : Nat := e.offer.fields.level.val

/-- R98: an ACTIVE landing that can take a buffer. -/
def Landing.isTaker (credit : Nat) (l : Landing) : Bool :=
  decide (l.phase = .active) && decide (l.limit < l.blocks) && decide (l.limit - l.accepted < credit)

/-- R98: the ACTIVE landing that goes first. -/
def Device.bestTaker (d : Device) : Option Landing :=
  firstMin Landing.level (d.admission.landings.filter (Landing.isTaker d.config.credit))

/-- R80: the candidate that goes first among those that qualify. -/
def Device.bestCandidate (d : Device) : Option Candidate :=
  let s := firstMin Landing.level (d.admission.suspended.filter fun l => d.canAdmit l.offer.fields.window)
  let p := firstMin PendingEntry.level (d.admission.waiting.filter fun e => d.canAdmit e.offer.fields.window)
  match s, p with
  | some l, some e => if l.level ≤ e.level then some (.resume l) else some (.enter e)
  | some l, none => some (.resume l)
  | none, some e => some (.enter e)
  | none, none => none

/-- The level number of a candidate. -/
def Candidate.level : Candidate → Nat
  | .resume l => l.level
  | .enter e => e.level

/-! ### Replies of a landing -/

/-- R96: claim RECEIPT for a record, as a GRANT when an unsent GRANT of an ACTIVE one is waiting. -/
def Device.claimReceipt (d : Device) (l : Landing) (final : Bool) : Device :=
  if l.phase = .active ∧ d.grantWaits l.offer.key l.offer.generation = true then
    d.claimReply l.offer.key l.offer.generation (.grant l.accepted l.limit)
  else d.claimReply l.offer.key l.offer.generation (.receipt l.accepted l.limit final)

/-- R70: the reply that a repeated OFFER of a record draws. -/
def Landing.repeatReply (l : Landing) : ReplyKind :=
  match l.phase with
  | .active => .grant l.accepted l.limit
  | .settling => .receipt l.blocks l.blocks false
  | .suspended => .pause l.accepted

/-! ### Admission and resume (R75, R81) -/

/-- R75. -/
def Device.admitOffer (d : Device) (o : Offer) : Device :=
  let r := min (min d.config.credit (blockCount o.fields.length)) d.free
  let l : Landing := { offer := o, accepted := 0, written := 0, limit := r, phase := .active,
                       timer := some d.config.tLand }
  (d.updAdmission fun a => { a with landings := a.landings ++ [l] }).claimReply o.key o.generation (.grant 0 r)

/-- R81. -/
def Device.resumeLanding (d : Device) (l : Landing) : Device :=
  let r := min (min d.config.credit (l.blocks - l.accepted)) d.free
  let l' : Landing := { l with limit := l.accepted + r, phase := .active, timer := some d.config.tLand }
  let d := d.updAdmission fun a =>
    { a with suspended := a.suspended.filter fun m => decide (m.offer.key ≠ l.offer.key)
             landings := a.landings ++ [l'] }
  (d.claimReply l.offer.key l.offer.generation (.grant l'.accepted l'.limit)).post
    (.landingResumed l.offer.key l.offer.fields.window l.offer.generation l.byteCount)

/-- R80: the candidate chosen by a run or by credit distribution. -/
def Device.takeCandidate (d : Device) (c : Candidate) : Device :=
  match c with
  | .resume l => d.resumeLanding l
  | .enter e => (d.updAdmission (·.dropWaiting e.offer.key)).admitOffer e.offer

/-- R98: an ACTIVE landing takes a buffer; a RECEIPT with its new limit is claimed for it. -/
def Device.raiseLimit (d : Device) (l : Landing) : Device :=
  (d.updAdmission (·.updLanding l.offer.key fun m => { m with limit := m.limit + 1 })).claimReceipt
    { l with limit := l.limit + 1 } false

/-- R98: credit distribution places one free buffer. -/
def Device.distribute (d : Device) : Device :=
  if d.free = 0 then d
  else
    match d.bestTaker, d.bestCandidate with
    | some l, some c => if l.level ≤ c.level then d.raiseLimit l else d.takeCandidate c
    | some l, none => d.raiseLimit l
    | none, some c => d.takeCandidate c
    | none, none => d

/-- R80: the admission run; each admission takes a slot, so eight rounds end it. -/
def Device.admissionRun : Nat → Device → Device
  | 0, d => d
  | fuel + 1, d =>
    match d.bestCandidate with
    | some c => Device.admissionRun fuel (d.takeCandidate c)
    | none => d

/-- R99: the distribution sweep; each round takes a free buffer, so thirty-two rounds end it. -/
def Device.sweep : Nat → Device → Device
  | 0, d => d
  | fuel + 1, d =>
    if d.free = 0 then d
    else
      match d.bestTaker with
      | some l => Device.sweep fuel (d.raiseLimit l)
      | none => d

/-- R79: the station states in which a run is made. -/
def StationControl.runs (c : StationControl) : Bool :=
  match c.state with
  | .joining | .joined => true
  | .leaving => c.owed
  | .config => false

/-- R79, R99: the admission run and distribution sweep that end an event. -/
def Device.runAndSweep (d : Device) : Device :=
  if d.control.runs then
    Device.sweep Config.poolBuffers (Device.admissionRun Config.landingSlots d)
  else d

/-! ### An OFFER (R69 to R77, R114 to R118) -/

/-- R73: the reason an offer fails judgement for, if any. -/
def Device.judge (d : Device) (o : Offer) : Option RefuseReason :=
  let w := d.config.windows[o.fields.window]
  if !w.enabled then some .noWindow
  else if !w.mask.getLsbD o.key.source.val then some .access
  else if w.size < o.fields.offset + o.fields.length then some .range
  else none

/-- R114, R115: the landing named as victim. -/
def Device.namedVictim (d : Device) (o : Offer) : Option Landing :=
  if d.occupied o.fields.window then
    d.admission.landings.find? fun l => decide (l.offer.fields.window = o.fields.window)
  else
    lastMax Landing.level (d.admission.landings.filter fun l =>
      decide (l.phase = .active) && !d.config.windows[l.offer.fields.window].pinned)

/-- R116: the named victim may be suspended for this offer. -/
def Device.maySuspend (d : Device) (o : Offer) (l : Landing) : Bool :=
  decide (l.phase = .active) && !d.config.windows[l.offer.fields.window].pinned &&
    decide (o.fields.level.val < l.level) && decide (d.admission.suspended.length < Config.suspendedMax)

/-- R117: a landing is suspended. -/
def Device.suspend (d : Device) (l : Landing) : Device :=
  let l' : Landing := { l with limit := l.accepted, phase := .suspended, timer := none }
  let d := d.claimReply l.offer.key l.offer.generation (.pause l.accepted)
  let d := d.updAdmission fun a =>
    { a with landings := a.landings.filter fun m => decide (m.offer.key ≠ l.offer.key)
             suspended := insertByLevel Landing.level l' a.suspended }
  d.post (.landingSuspended l.offer.key l.offer.fields.window l.offer.generation l.byteCount)

/-- R77: a pending entry is created from an offer and answered with WAIT. -/
def Device.placeWaiting (d : Device) (o : Offer) : Device :=
  (d.updAdmission fun a =>
    { a with waiting := insertByLevel PendingEntry.level { offer := o, lifetime := some d.config.tQueue }
                          a.waiting }).claimReply o.key o.generation .wait

/-- R77: the entry at the tail is evicted. -/
def Device.evict (d : Device) (t : PendingEntry) : Device :=
  ((d.updAdmission fun a => { a with waiting := a.waiting.dropLast }).claimReply t.offer.key t.offer.generation
    (.refuse .busy)).post (t.offer.ended .busy 0)

/-- R77: an offer that is neither refused nor admitted. -/
def Device.queueOffer (d : Device) (o : Offer) : Device :=
  if d.admission.waiting.length < Config.pendingMax then d.placeWaiting o
  else
    match d.admission.waiting.getLast? with
    | some t =>
      if o.fields.level.val < t.level then (d.evict t).placeWaiting o
      else d.claimReply o.key o.generation (.refuse .busy)
    | none => d.placeWaiting o

/-- R74, R77: admit if the three conditions hold, else queue. -/
def Device.admitOrQueue (d : Device) (o : Offer) : Device :=
  if d.canAdmit o.fields.window then d.admitOffer o else d.queueOffer o

/-- R76, R114 to R116: the victim that is suspended for an offer whose admission attempt failed, if any. -/
def Device.victim (d : Device) (o : Offer) : Option Landing :=
  if d.tableFull || d.occupied o.fields.window then
    (d.namedVictim o).filter (d.maySuspend o)
  else none

/-- R73 to R77, R118: judge an offer and answer it; `true` when an admission run is called for. -/
def Device.judgeAndPlace (d : Device) (o : Offer) : Device × Bool :=
  match d.judge o with
  | some r => (d.claimReply o.key o.generation (.refuse r), false)
  | none =>
    match d.victim o with
    | some l => ((d.suspend l).admitOrQueue o, true)
    | none => (d.admitOrQueue o, false)

/-- R79: the run of an OFFER's handling. -/
def runIf (calledFor : Bool) (d : Device) : Device := if calledFor then d.runAndSweep else d

/-- R71: a record is superseded. -/
def Device.supersedeRecord (d : Device) (l : Landing) : Device :=
  (d.removeRecord l.offer.key).post (l.offer.ended .superseded l.byteCount)

/-- R71: a pending entry is superseded. -/
def Device.supersedeWaiting (d : Device) (e : PendingEntry) : Device :=
  (d.updAdmission (·.dropWaiting e.offer.key)).post (e.offer.ended .superseded 0)

/-- R69: an OFFER is handled. DEDUCED (log 8): every supersession calls for an admission run. -/
def Device.handleOffer (d : Device) (o : Offer) : Device :=
  match d.admission.find o.key with
  | .landing l =>
    if l.offer.generation = o.generation then d.claimReply o.key o.generation l.repeatReply
    else runIf true ((d.supersedeRecord l).judgeAndPlace o).1
  | .pending e =>
    if e.offer.generation = o.generation then d.claimReply o.key o.generation .wait
    else runIf true ((d.supersedeWaiting e).judgeAndPlace o).1
  | .recent _ =>
    let r := (d.updAdmission (·.dropRecent o.key)).judgeAndPlace o
    runIf r.2 r.1
  | .nothing =>
    let r := d.judgeAndPlace o
    runIf r.2 r.1

/-! ### A WITHDRAW (R82) -/

/-- R82. -/
def Device.handleWithdraw (d : Device) (k : Key) (g : Generation) (reason : WithdrawReason) : Device :=
  match d.admission.find k with
  | .landing l =>
    if l.offer.generation = g then
      ((d.removeRecord k).post (l.offer.ended (.withdrawn reason) l.byteCount)).runAndSweep
    else d
  | .pending e =>
    if e.offer.generation = g then
      ((d.updAdmission (·.dropWaiting k)).post (e.offer.ended (.withdrawn reason) 0)).runAndSweep
    else d
  | .recent _ | .nothing => d

/-! ### A BLOCK (R94, R95) -/

/-- R94: the conditions on which a BLOCK is accepted. -/
def Landing.accepts (l : Landing) (g : Generation) (number : Nat) (payload : List Byte) : Bool :=
  decide (l.phase = .active) && decide (l.offer.generation = g) && decide (number = l.accepted) &&
    decide (number < l.limit) && decide (payload.length = blockLength l.offer.fields.length number)

/-- R136: where block s of a landing is written. -/
def Device.landingAddress (d : Device) (l : Landing) (s : Nat) : Nat :=
  d.config.windows[l.offer.fields.window].base.toNat + l.offer.fields.offset + 64 * s

/-- R94 steps 2, 4 and 5: the record after it accepts a block. -/
def Landing.accept (tLand : Nat) (l : Landing) : Landing :=
  { l with accepted := l.accepted + 1, timer := some tLand,
           phase := if l.accepted + 1 = l.blocks then .settling else l.phase }

/-- R94. -/
def Device.acceptBlock (d : Device) (l : Landing) (payload : List Byte) : Device :=
  let address := d.landingAddress l l.accepted
  (d.updAdmission (·.updLanding l.offer.key (Landing.accept d.config.tLand))).updPort fun p =>
    { p with writes := p.writes ++ [{ address := address, payload := payload, owner := some l.offer.key }] }

/-- R95: the reply a discarded BLOCK draws. -/
def Device.answerBlock (d : Device) (k : Key) (g : Generation) : Device :=
  match d.admission.find k with
  | .landing l =>
    if l.offer.generation = g then
      match l.phase with
      | .active => d.claimReceipt l false
      | .settling => d.claimReply k g (.receipt l.blocks l.blocks false)
      | .suspended => d.claimReply k g (.pause l.accepted)
    else d.claimReply k g (.refuse .unknown)
  | .pending e =>
    if e.offer.generation = g then d.claimReply k g .wait else d.claimReply k g (.refuse .unknown)
  | .recent r =>
    if r.generation = g then d.claimReply k g (.receipt r.blocks r.blocks true)
    else d.claimReply k g (.refuse .unknown)
  | .nothing => d.claimReply k g (.refuse .unknown)

/-- R94, R95. -/
def Device.handleBlock (d : Device) (k : Key) (g : Generation) (number : Nat) (payload : List Byte) : Device :=
  match d.admission.landing k with
  | some l => if l.accepts g number payload then d.acceptBlock l payload else d.answerBlock k g
  | none => d.answerBlock k g

/-! ### Write completions (R97, R100, R101) -/

/-- R97 steps 1 and 2: the freed buffer returns to its own ACTIVE landing. -/
def Landing.returns (credit : Nat) (l : Landing) : Bool := l.isTaker credit

/-- R100: the landing completes. -/
def Device.completeLanding (d : Device) (l : Landing) : Device :=
  let o := l.offer
  let d := d.removeRecord o.key
  let d := d.updAdmission (·.addRecent { key := o.key, generation := o.generation, blocks := l.blocks })
  let d := d.post (o.ended .landed o.fields.length)
  match o.fields.landingEvent with
  | some e => d.applySignal o.key.source (.landing o.key.channel o.fields.window o.generation) e 0
  | none => d

/-- R97 steps 2 and 3: the freed buffer returns to the record of this key, or credit distribution places it. -/
def Device.placeFreed (d : Device) (k : Key) : Device :=
  match d.admission.landing k with
  | some l =>
    if l.returns d.config.credit then
      d.updAdmission (·.updLanding k fun m => { m with limit := m.limit + 1 })
    else d.distribute
  | none => d.distribute

/-- R97 steps 4 and 5: RECEIPT for the record, if it is ACTIVE or SETTLING, and completion. -/
def Device.reportWrite (d : Device) (k : Key) : Device :=
  match d.admission.landing k with
  | some l =>
    let final := decide (l.written = l.blocks)
    let d := d.claimReceipt l final
    if final then d.completeLanding l else d
  | none => d

/-- R97, R143: a write completes OK for the buffer of this owner; the buffer is already free. -/
def Device.writeDone (d : Device) (owner : Option Key) : Device :=
  match owner with
  | some k =>
    let d := d.updAdmission (·.updRecord k fun l => { l with written := l.written + 1 })
    ((d.placeFreed k).reportWrite k).runAndSweep
  | none => d.distribute.runAndSweep

/-- R101, R143: a write ends with a bus error for the buffer of this owner; the buffer is already free. That the run and
sweep follow where no record is named is DEDUCED (log 23). -/
def Device.writeFailed (d : Device) (owner : Option Key) : Device :=
  match owner with
  | some k =>
    match d.admission.find k with
    | .landing l =>
      let d := d.updPort fun p => { p with writes := p.writes.filter fun w => decide (w.owner ≠ some k) }
      let d := d.claimReply k l.offer.generation (.refuse .fault)
      let d := d.updAdmission (·.dropRecord k)
      (d.post (l.offer.ended .fault l.byteCount)).runAndSweep
    | .pending _ | .recent _ | .nothing => d.distribute.runAndSweep
  | none => d.distribute.runAndSweep

/-- R102: the landing timer of a record expires. -/
def Device.landTimeout (d : Device) (l : Landing) : Device :=
  let d := d.claimReply l.offer.key l.offer.generation (.refuse .timeout)
  ((d.removeRecord l.offer.key).post (l.offer.ended .timeout l.byteCount)).runAndSweep

/-- R78: the lifetime of a pending entry runs out. -/
def Device.expireWaiting (d : Device) (e : PendingEntry) : Device :=
  ((d.updAdmission (·.dropWaiting e.offer.key)).claimReply e.offer.key e.offer.generation (.refuse .expired)).post
    (e.offer.ended .expired 0)

/-! ### Leaving and teardown (R26, R33) -/

/-- R26 step 2: one record or entry is refused LEAVING. -/
def Device.refuseLeaving (d : Device) (o : Offer) (bytes : Nat) : Device :=
  (((d.claimReply o.key o.generation (.refuse .leaving)).removeRecord o.key).updAdmission
    (·.dropWaiting o.key)).post (o.ended .leaving bytes)

/-- R26 step 2. -/
def Device.leaveLandings (d : Device) : Device :=
  let a := d.admission
  let d := (a.landings ++ a.suspended).foldl (fun d l => d.refuseLeaving l.offer l.byteCount) d
  let d := a.waiting.foldl (fun d e => d.refuseLeaving e.offer 0) d
  d.updAdmission fun a => { a with recent := [] }

/-- R33 step 2: one record or entry of a torn down peer is removed. -/
def Device.tearRecord (d : Device) (ending : Ending) (o : Offer) (bytes : Nat) : Device :=
  ((d.removeRecord o.key).updAdmission (·.dropWaiting o.key)).post (o.ended ending bytes)

/-- R33: whether the Admission Unit holds anything of peer x. -/
def AdmissionUnit.holdsOf (a : AdmissionUnit) (x : Station) : Bool :=
  (a.landings ++ a.suspended).any (fun l => decide (l.offer.key.source = x)) ||
    a.waiting.any (fun e => decide (e.offer.key.source = x)) || a.recent.any fun r => decide (r.key.source = x)

/-- R33 step 2, but for the run it calls for, which ends the event (R79, log 9). -/
def Device.tearLandings (d : Device) (x : Station) (ending : Ending) : Device :=
  let a := d.admission
  let d := ((a.landings ++ a.suspended).filter fun l => decide (l.offer.key.source = x)).foldl
    (fun d l => d.tearRecord ending l.offer l.byteCount) d
  let d := (a.waiting.filter fun e => decide (e.offer.key.source = x)).foldl
    (fun d e => d.tearRecord ending e.offer 0) d
  d.updAdmission fun b => { b with recent := b.recent.filter fun r => decide (r.key.source ≠ x) }

end Sys2Proof.Machine
end

