-- ==== Sys2Proof/Machine/Station.lean ====
section
/-! DEFINITION. The Halt Unit (R160 to R169), Station Control's joining, leaving, peer table, teardown and resets
(R22 to R37), the lane arbiter (R15, R16), and what ends every event: the arbiter's choice and the memory port's
(log 6). -/

namespace Sys2Proof.Machine

/-! ### The halt set (R160 to R165) -/

/-- R160: put a station into the set, or take it out. -/
def HaltUnit.setMember (h : HaltUnit) (x : Station) (member : Bool) : HaltUnit :=
  { h with members := h.members.set x member }

/-- R160, R165: a station enters the halt set; HALT_CHANGE if the set was empty. -/
def Device.enterHalt (d : Device) (x : Station) (cause : HaltCause) : Device :=
  let d' := d.updHalt (·.setMember x true)
  if d.halted then d' else d'.post (.haltChange x cause)

/-- R160, R165: a member leaves the halt set, its lapse timer stopped; HALT_CHANGE if the set becomes empty. -/
def Device.leaveHalt (d : Device) (x : Station) (cause : HaltCause) : Device :=
  if d.halt.members[x] then
    let d := d.updHalt fun h => { h.setMember x false with lapse := h.lapse.set x none }
    if d.halted then d else d.post (.haltChange x cause)
  else d

/-- R162: the station begins holding. -/
def Device.beginHold (d : Device) : Device :=
  let d := d.enterHalt d.control.number .hold
  d.makeHaltDue.updHalt fun h => { h with holding := true, repeatTimer := some Config.haltRepeat }

/-- R163: the station ends holding. -/
def Device.endHold (d : Device) (cause : HaltCause) : Device :=
  let d := d.leaveHalt d.control.number cause
  d.makeResumeDue.updHalt fun h => { h with holding := false, repeatTimer := none }

/-- R161: at least one request stands at a JOINED station. -/
def Device.wantsHold (d : Device) : Bool :=
  decide (d.control.state = .joined) && (d.halt.line || d.halt.request)

/-- R161: holding begins with the first standing request and ends with the last. -/
def Device.updateHold (d : Device) : Device :=
  if d.wantsHold then (if d.halt.holding then d else d.beginHold)
  else if d.halt.holding then d.endHold .release else d

/-- R26 step 3, R169: holding ends and the command request is cleared as the station leaves the span. -/
def Device.leaveHold (d : Device) : Device :=
  let d := d.updHalt fun h => { h with request := false }
  if d.halt.holding then d.endHold .leaving else d

/-- R160: a HALT from peer x. -/
def Device.haltFrom (d : Device) (x : Station) : Device :=
  let d := if d.halt.members[x] then d else d.enterHalt x .halt
  d.updHalt fun h => { h with lapse := h.lapse.set x (some Config.haltLapse) }

/-! ### The peer table (R29 to R32) and teardown (R33) -/

/-- Set a peer table entry. -/
def Device.setPeer (d : Device) (x : Station) (p : Presence) (window : Timer) : Device :=
  d.updControl fun c => { c with peers := c.peers.set x { presence := p, window := window } }

/-- R30: a delivered frame is noted against its source's entry. -/
def Device.notePeer (d : Device) (x : Station) : Device :=
  match d.control.peers[x].presence with
  | .absent => (d.setPeer x .present (some Config.joinWindow)).post (.peerChange x .joined)
  | .present | .self => d

/-- R33 step 1: the channels whose transfers target peer x end. -/
def Device.tearChannels (d : Device) (x : Station) (outcome : TransferOutcome) : Device :=
  eight.foldl (fun d c =>
    match d.channels[c].active with
    | some a => if d.channels[c].state.inTransfer && decide (a.target = x) then d.endTransfer c outcome none else d
    | none => d) d

/-- R33: the teardown of peer x for this reason; the admission run that follows if anything was removed ends the event,
its notices after the event's own (R79, log 9). -/
def Device.teardown (d : Device) (x : Station) (outcome : TransferOutcome) (ending : Ending) : Device :=
  let held := d.admission.holdsOf x
  let d := d.tearChannels x outcome
  let d := d.tearLandings x ending
  let d := d.leaveHalt x .teardown
  runIf held (d.removeFramesFor x)

/-! ### Joining (R22, R23) -/

/-- R52: at JOINED, every READY channel whose latch is set begins its transfer. -/
def Device.releaseLatches (d : Device) : Device :=
  eight.foldl (fun d c =>
    if d.channels[c].state = .ready ∧ d.channels[c].latch = true then d.beginTransfer c else d) d

/-- R23: the station becomes JOINED. -/
def Device.becomeJoined (d : Device) : Device :=
  ((d.updControl fun c => { c with state := .joined }).releaseLatches).updateHold

/-- R24: joining ends. -/
def Device.endJoining (d : Device) : Device :=
  if d.control.state = .joining then
    (d.updControl fun c => { c with spacing := none }).updSpan fun s => { s with joinDue := false }
  else d

/-! ### Leaving (R25 to R28) -/

/-- R26 step 1, for one channel. -/
def Device.leaveChannel (d : Device) (c : ChannelNo) : Device :=
  if d.channels[c].state.inTransfer then d.endTransfer c .left none
  else if d.channels[c].state = .ready ∧ d.channels[c].latch = true then
    (d.updChannel c fun ch => { ch with latch := false }).post (.startMissed c .latch)
  else d

/-- R25, R26: the start of leaving. -/
def Device.startLeaving (d : Device) : Device :=
  let d := d.endJoining.updControl fun c => { c with state := .leaving }
  let d := eight.foldl Device.leaveChannel d
  d.leaveLandings.leaveHold

/-- R28, R29: every entry but the own is ABSENT, every window closed. -/
def PeerEntry.forget (e : PeerEntry) : PeerEntry :=
  match e.presence with
  | .self => { presence := .self, window := none }
  | .absent | .present => { presence := .absent, window := none }

/-- R169: the last member in order of station number. -/
def HaltUnit.lastMember (h : HaltUnit) : Option Station := (eight.filter fun x => h.members[x]).getLast?

/-- R28, R169: the return to CONFIG at the completion of the LEAVE. -/
def Device.returnToConfig (d : Device) : Device :=
  let last := d.halt.lastMember
  let d := d.updControl fun c =>
    { c with state := .config, joinCount := 0, peers := c.peers.map PeerEntry.forget }
  let d := d.post (.leftSpan d.control.number)
  let d := d.updHalt fun h => { h with members := Vector.replicate 8 false, lapse := Vector.replicate 8 none }
  match last with
  | some x => d.post (.haltChange x .leaving)
  | none => d

/-! ### Resets (R18, R35 to R37) -/

/-- R36 and the soft reset columns of R19, R59, R146, R159, R170, R186: the values of a power-on reset, but the
configuration record, the station number and the channels' generations are kept. -/
def Device.softReset (d : Device) : Device :=
  { Device.powerOn d.control.number d.halt.line with
    config := d.config
    channels := d.channels.map fun ch => Channel.afterReset ch.generation }

/-- R2: the frame on the lane is a LEAVE. -/
def SpanInterface.leaveOnLane (s : SpanInterface) : Bool :=
  match s.lane with
  | some f => decide (f.body = .leave)
  | none => false

/-- R35: a soft reset is taken in JOINING or JOINED. -/
def Device.takeReset (d : Device) : Device :=
  let d := d.endJoining.updControl fun c => { c with state := .leaving, owed := true }
  (d.updSpan SpanInterface.clearForLeave).leaveHold

/-- R35: a soft reset is taken in LEAVING. -/
def Device.takeResetLeaving (d : Device) : Device :=
  let d' := d.updControl fun c => { c with owed := true }
  if d.control.owed then d
  else if d.span.leaveOnLane then d' else d'.updSpan SpanInterface.clearForLeave

/-- R35. -/
def Device.resetStation (d : Device) : Device :=
  match d.control.state with
  | .config => d.softReset
  | .joining | .joined => d.takeReset
  | .leaving => d.takeResetLeaving

/-! ### The lane arbiter (R15, R16) -/

/-- R13: the frame of a reply. -/
def Reply.frame (own : Station) (r : Reply) : Frame :=
  { source := own, dest := .station r.key.source,
    body :=
      match r.kind with
      | .wait => .wait r.key.channel r.generation
      | .grant start limit => .grant r.key.channel r.generation start limit
      | .refuse reason => .refuse r.key.channel r.generation reason
      | .receipt accepted limit final => .receipt r.key.channel r.generation accepted limit final
      | .pause block => .pause r.key.channel r.generation block }

/-- R14: the frame of a WITHDRAW of channel c. -/
def Withdrawal.frame (own : Station) (c : ChannelNo) (w : Withdrawal) : Frame :=
  { source := own, dest := .station w.target, body := .withdraw c w.generation w.reason }

/-- R14: the frame of a slot's current claim. -/
def SlotFrame.frame (own : Station) (c : ChannelNo) : SlotFrame → Frame
  | .offer t g f => { source := own, dest := .station t, body := .offer c g f }
  | .withdraw w => w.frame own c

/-- R16: an OFFER. -/
def SlotFrame.isOffer : SlotFrame → Bool
  | .offer .. => true
  | .withdraw _ => false

/-- R14, R16: the frame a position sends next, with what is left of the position; `none` when it is passed over. -/
def InitEntry.next (own : Station) (halted : Bool) : InitEntry → Option (Frame × Option InitEntry)
  | .slot c (some w) none => some (w.frame own c, none)
  | .slot c (some w) (some f) => some (w.frame own c, some (.slot c none (some f)))
  | .slot c none (some f) => if halted && f.isOffer then none else some (f.frame own c, none)
  | .slot _ none none => none
  | .signal t e a => some ({ source := own, dest := t, body := .signal e a }, none)

/-- R14 to R16: the walk of the initiation queue: the frame of the oldest position that may be sent, and the queue
without it; a slot that still holds a frame moves to the tail. -/
def pickInitiation (own : Station) (halted : Bool) : List InitEntry → Option (Frame × List InitEntry)
  | [] => none
  | e :: es =>
    match e.next own halted with
    | some (f, none) => some (f, es)
    | some (f, some e') => some (f, es ++ [e'])
    | none => (pickInitiation own halted es).map fun p => (p.1, e :: p.2)

/-- R15 step 1: the due station frame that goes first, and the flags without it. -/
def SpanInterface.pickStation (s : SpanInterface) : Option (FrameBody × SpanInterface) :=
  if s.joinDue then some (.join, { s with joinDue := false })
  else if s.haltDue then some (.halt, { s with haltDue := false })
  else if s.resumeDue then some (.resume, { s with resumeDue := false })
  else if s.leaveDue then some (.leave, { s with leaveDue := false })
  else none

/-- The bytes of a fetch buffer that holds this block. -/
def FetchBuffer.dataOf (block : Nat) : FetchBuffer → Option (List Byte)
  | .holding s data => if s = block then some data else none
  | .empty | .fetching _ => none

/-- R15, R91: the block a STREAMING channel has ready and is entitled to send, with its descriptor. -/
def Channel.readyBlock (ch : Channel) : Option (Descriptor × List Byte) :=
  match ch.active, ch.buffers.toList.findSome? (FetchBuffer.dataOf ch.next) with
  | some a, some data => if ch.state = .streaming ∧ ch.next < ch.limit then some (a, data) else none
  | _, _ => none

/-- The level number of a channel's active descriptor. -/
def Channel.level (ch : Channel) : Nat :=
  match ch.active with
  | some a => a.level.val
  | none => 0

/-- R15 step 4: among ready channels the lowest level number wins, then the lower channel number. -/
def Device.readyChannel (d : Device) : Option ChannelNo :=
  firstMin (fun c => d.channels[c].level) (eight.filter fun c => d.channels[c].readyBlock.isSome)

/-- R91: the BLOCK of a channel is chosen: next-to-send advances, the buffer is emptied, and reads are requested. -/
def Device.sendBlock (d : Device) (c : ChannelNo) : Device :=
  match d.channels[c].readyBlock with
  | none => d
  | some (a, data) =>
    let ch := d.channels[c]
    let f : Frame := { source := d.control.number, dest := .station a.target,
                       body := .block c ch.generation ch.next data }
    let d := d.updSpan fun s => { s with lane := some f }
    let d := d.emptyBuffers c fun b => !(b.has ch.next)
    let d := d.updChannel c fun ch =>
      { ch with next := ch.next + 1,
                state := if ch.next + 1 = blockCount a.length then .draining else ch.state }
    d.requestReads c

/-- R15, R16: a free lane takes the first frame that may be sent. -/
def Device.chooseFrame (d : Device) : Device :=
  match d.span.lane with
  | some _ => d
  | none =>
    match d.span.pickStation with
    | some (b, s) => d.updSpan fun _ => { s with lane := some { source := d.control.number, dest := .all, body := b } }
    | none =>
      match d.span.replies with
      | r :: rs => d.updSpan fun s => { s with replies := rs, lane := some (r.frame d.control.number) }
      | [] =>
        match pickInitiation d.control.number d.halted d.span.initiation with
        | some (f, q) => d.updSpan fun s => { s with initiation := q, lane := some f }
        | none =>
          if d.halted || d.control.owed then d
          else
            match d.readyChannel with
            | some c => d.sendBlock c
            | none => d

/-- R15, R27: with the lane free and both queues empty, the drained report makes LEAVE due in LEAVING. -/
def Device.reportDrained (d : Device) : Device :=
  if d.span.lane = none ∧ d.span.replies = [] ∧ d.span.initiation = [] ∧ d.control.state = .leaving ∧
      d.control.owed = false then
    d.updSpan fun s => { s with leaveDue := true }
  else d

/-- What ends an event (log 6): the drained report, the arbiter's choice, the memory port's choice. -/
def Device.settle (d : Device) : Device := d.reportDrained.chooseFrame.updPort MemoryPort.issue

/-! ### From an event to a step -/

/-- The block goes on from here; the queue of waiting commands is not the block's (log 1). -/
def State.next (s : State) (d : Device) : Host.Outcome State Fault Refusal := .next { s with dev := d }

/-- The block goes on from here, with the choices that end the event. -/
def State.event (s : State) (d : Device) : Host.Outcome State Fault Refusal := s.next d.settle

/-- R173: a write to COMMAND executes a command: the station state is checked before the command's own arguments, and
RESULT takes the result. COMMAND takes the number, as R171 reads, of a refused command too (DEDUCED, log 16). -/
def Device.command (d : Device) (number : Nat) (accepted : StationState → Bool)
    (body : Device → Device × ResultCode) : Device :=
  let d := d.updLocal fun p => { p with command := BitVec.ofNat 8 number }
  let r := if accepted d.control.state then body d else (d, .state)
  r.1.updLocal fun p => { p with result := r.2 }

/-- R9, R30: a frame that is delivered: it is discarded while frames are not received (R8), when a field is out of
range (R9), and taken as R10 gives when it bears the own number (log 5); otherwise its source is noted, its owner
handles it and the event ends. -/
def Device.arrive (d : Device) (source : Station) (inRange : Bool) (handle : Device → Device) : Device :=
  if !d.control.receiving || !inRange then d
  else if source = d.control.number then d.noteOwnNumber source
  else (handle (d.notePeer source)).settle

end Sys2Proof.Machine
end

