-- ==== Sys2Proof/WellFormed.lean ====
section
/-! DEFINITION. When a command or event is one the block can be given: its operands lie in the ranges of the
spec. A frame outside these ranges is discarded by R9, so it never arrives as a delivered frame. -/

namespace Sys2Proof

/-- R171: the word a write puts into the window: the bytes not written are zero. -/
def WordWrite.effective (w : WordWrite) : Word :=
  (if w.lanes.getLsbD 0 then w.value &&& 0x000000ff else 0) |||
  (if w.lanes.getLsbD 1 then w.value &&& 0x0000ff00 else 0) |||
  (if w.lanes.getLsbD 2 then w.value &&& 0x00ff0000 else 0) |||
  (if w.lanes.getLsbD 3 then w.value &&& 0xff000000 else 0)

/-- R173: bits 7–0 of the value written to COMMAND are the command number. -/
def WordWrite.commandNumber (w : WordWrite) : Nat := (w.effective.extractLsb' 0 8).toNat

/-- R5: the ranges of an OFFER's offset and length. -/
def OfferFields.inRange (f : OfferFields) : Bool :=
  decide (f.offset ≤ Config.offsetMax) && decide (1 ≤ f.length) && decide (f.length ≤ Config.lengthMax)

/-- R5: the ranges of a GRANT's start block and credit limit. -/
def grantInRange (start limit : Nat) : Bool :=
  decide (start ≤ Config.blockNumberMax) && decide (1 ≤ limit) && decide (limit ≤ Config.countMax)

/-- R5: the ranges of a BLOCK's number and payload length. -/
def blockInRange (number : Nat) (payload : List Byte) : Bool :=
  decide (number ≤ Config.blockNumberMax) && decide (1 ≤ payload.length) &&
    decide (payload.length ≤ Config.blockBytes)

/-- R5: the ranges of a RECEIPT's accepted count and credit limit. -/
def receiptInRange (accepted limit : Nat) : Bool :=
  decide (accepted ≤ Config.countMax) && decide (1 ≤ limit) && decide (limit ≤ Config.countMax)

/-- R5: the range of a PAUSE's resume block. -/
def pauseInRange (block : Nat) : Bool := decide (block ≤ Config.blockNumberMax)

/-- The well-formed commands and events. -/
def Instr.wellFormed : Instr → Bool
  | .unknownCommand w => decide (w.commandNumber = 0) || decide (20 < w.commandNumber)
  | .registerWrite word _ => decide (word ≠ 0) && decide (word ≠ 13)
  | .offerArrives _ _ _ f => f.inRange
  | .grantArrives _ _ _ first limit => grantInRange first limit
  | .blockArrives _ _ _ number payload => blockInRange number payload
  | .receiptArrives _ _ _ accepted limit _ => receiptInRange accepted limit
  | .pauseArrives _ _ _ block => pauseInRange block
  | .readCompletion data => decide (1 ≤ data.length) && decide (data.length ≤ Config.blockBytes)
  | .setWindow | .setSignal | .setLine | .setTimers | .join | .leave | .resetStation | .load | .start | .stop
  | .clear | .signal | .haltAssert | .haltRelease | .readChannel | .readLandings | .readWindow | .readSignal
  | .take | .clearFlags | .controlWrite _ | .powerOnReset _ | .triggerEdge _ | .haltLineChange _
  | .frameDiscard _ | .waitArrives .. | .refuseArrives .. | .withdrawArrives .. | .signalArrives ..
  | .joinArrives _ | .leaveArrives _ | .haltArrives _ | .resumeArrives _ | .joinTransmissionComplete
  | .leaveTransmissionComplete | .frameTransmissionComplete | .joinSpacingExpiry | .joinRepeatWindowExpiry _
  | .offerReplyTimerExpiry _ | .streamReplyTimerExpiry _ | .queueTimerExpiry _ | .pauseTimerExpiry _
  | .lifetimeExpiry .. | .landingTimerExpiry .. | .repeatTimerExpiry | .lapseTimerExpiry _ | .readError
  | .writeCompletion | .writeError => true

end Sys2Proof
end

