-- ==== Sys2Proof/Machine/Arrivals.lean ====
section
/-! DEFINITION. The meanings of arriving frames: those the receive checks discard (R8 to R11) and the thirteen
delivered kinds, each handled by its owner after its source is noted (R30). -/

namespace Sys2Proof.Machine

/-- FRAME_DISCARD (R8 to R11). -/
def execFrameDiscard (frame : ArrivingFrame) (s : State) : Host.Outcome State Fault Refusal :=
  match verdict s.dev frame with
  | .discard => s.next s.dev
  | .ownNumber => s.next (s.dev.noteOwnNumber frame.port)
  | .laneMismatch => s.next s.dev.noteLaneMismatch
  | .deliver => .fault .frameIsDelivered

/-! ### The Admission Unit's frames -/

/-- OFFER_ARRIVES (R69 to R77). -/
def execOfferArrives (source : Station) (channel : ChannelNo) (generation : Generation) (fields : OfferFields)
    (s : State) : Host.Outcome State Fault Refusal :=
  s.next (s.dev.arrive source fields.inRange fun d =>
    d.handleOffer { key := { source, channel }, generation, fields })

/-- BLOCK_ARRIVES (R94, R95). -/
def execBlockArrives (source : Station) (channel : ChannelNo) (generation : Generation) (number : Nat)
    (payload : List Byte) (s : State) : Host.Outcome State Fault Refusal :=
  s.next (s.dev.arrive source (blockInRange number payload) fun d =>
    d.handleBlock { source, channel } generation number payload)

/-- WITHDRAW_ARRIVES (R82). -/
def execWithdrawArrives (source : Station) (channel : ChannelNo) (generation : Generation)
    (reason : WithdrawReason) (s : State) : Host.Outcome State Fault Refusal :=
  s.next (s.dev.arrive source true fun d => d.handleWithdraw { source, channel } generation reason)

/-! ### The Channel Unit's frames -/

/-- R62: a WAIT at a channel. -/
def Device.handleWait (d : Device) (source : Station) (c : ChannelNo) (g : Generation) : Device :=
  if d.channels[c].matchesReply source g = true ∧ d.channels[c].state = .offering then
    (d.updChannel c fun ch => { ch with state := .queued, timer := some d.config.tQueue }).removeOffer c
  else d

/-- R63, R127: the channel takes a GRANT: a fresh admission from OFFERING or QUEUED, a resume from PAUSED. -/
def Device.takeGrant (d : Device) (c : ChannelNo) (start limit : Nat) : Device :=
  ((d.updChannel c fun ch =>
    { ch with next := start, accepted := start, limit := limit, retry := 0, timer := some d.config.tReply,
              state := .streaming }).removeOffer c).requestReads c

/-- R63, R127: a GRANT fits the transfer: its start block is below its limit, its limit at most n, and at a PAUSED
channel its start block is at least accepted. -/
def Channel.grantFits (ch : Channel) (start limit : Nat) : Bool :=
  match ch.active with
  | some a =>
    decide (start < limit) && decide (limit ≤ blockCount a.length) &&
      (!decide (ch.state = .paused) || decide (ch.accepted ≤ start))
  | none => false

/-- R63, R66, R125, R127: a GRANT at a channel. -/
def Device.handleGrant (d : Device) (source : Station) (c : ChannelNo) (g : Generation) (start limit : Nat) :
    Device :=
  let ch := d.channels[c]
  if ch.generation ≠ g then d.answerStale c source g
  else
    match ch.state with
    | .empty | .ready => d.answerStale c source g
    | .streaming | .draining => if ch.matchesReply source g then d.answerStale c source g else d
    | .offering | .queued | .paused =>
      if ch.matchesReply source g then
        if ch.grantFits start limit then d.takeGrant c start limit else d.answerStale c source g
      else d

/-- R64, R106, R125: a REFUSE at a channel. -/
def Device.handleRefuse (d : Device) (source : Station) (c : ChannelNo) (g : Generation) (reason : RefuseReason) :
    Device :=
  if d.channels[c].matchesReply source g then d.endTransfer c .refused (some reason) else d

/-- R103: a RECEIPT fits the transfer. -/
def Channel.receiptFits (ch : Channel) (accepted limit : Nat) (final : Bool) : Bool :=
  match ch.active with
  | some a =>
    decide (accepted ≤ limit) && decide (limit ≤ blockCount a.length) &&
      (!final || decide (accepted = blockCount a.length))
  | none => false

/-- R104 steps 1, 3 and 4. -/
def Channel.noteReceipt (ch : Channel) (tReply accepted limit : Nat) : Channel :=
  { ch with accepted := max ch.accepted accepted, limit := max ch.limit limit,
            retry := if ch.accepted < accepted ∨ ch.limit < limit then 0 else ch.retry, timer := some tReply }

/-- R104 step 2: next-to-send is lifted to accepted when that is above it. -/
def Device.liftNext (d : Device) (c : ChannelNo) : Device :=
  let ch := d.channels[c]
  if ch.next < ch.accepted then
    let d := d.emptyBuffers c (FetchBuffer.notBelow ch.accepted)
    d.updChannel c fun ch' =>
      { ch' with next := ch.accepted,
                 state := if (ch.active.map fun a => blockCount a.length) = some ch.accepted then .draining
                          else ch'.state }
  else d

/-- R104, R105: a RECEIPT that a STREAMING or DRAINING channel takes. -/
def Device.takeReceipt (d : Device) (c : ChannelNo) (accepted limit : Nat) (final : Bool) : Device :=
  let d := (d.updChannel c fun ch => ch.noteReceipt d.config.tReply accepted limit).liftNext c
  if final then d.endTransfer c .done none else d.requestReads c

/-- R60, R103, R104, R125: a RECEIPT at a channel. -/
def Device.handleReceipt (d : Device) (source : Station) (c : ChannelNo) (g : Generation) (accepted limit : Nat)
    (final : Bool) : Device :=
  if d.channels[c].matchesReply source g && d.channels[c].receiptFits accepted limit final then
    match d.channels[c].state with
    | .streaming | .draining => d.takeReceipt c accepted limit final
    | .paused => d.updChannel c fun ch => { ch with accepted := max ch.accepted accepted }
    | .empty | .ready | .offering | .queued => d
  else d

/-- R124: a PAUSE fits the transfer. -/
def Channel.pauseFits (ch : Channel) (block : Nat) : Bool :=
  match ch.active with
  | some a => decide (ch.accepted ≤ block) && decide (block ≤ ch.limit) && decide (block < blockCount a.length)
  | none => false

/-- R124: the channel is paused. -/
def Device.takePause (d : Device) (c : ChannelNo) (block : Nat) : Device :=
  (d.emptyBuffers c fun _ => false).updChannel c fun ch =>
    { ch with next := block, accepted := block, timer := some d.config.tPause, state := .paused }

/-- R60, R124, R125: a PAUSE at a channel. -/
def Device.handlePause (d : Device) (source : Station) (c : ChannelNo) (g : Generation) (block : Nat) : Device :=
  if d.channels[c].matchesReply source g && d.channels[c].pauseFits block then
    match d.channels[c].state with
    | .streaming | .draining => d.takePause c block
    | .empty | .ready | .offering | .queued | .paused => d
  else d

/-- WAIT_ARRIVES (R62). -/
def execWaitArrives (source : Station) (channel : ChannelNo) (generation : Generation) (s : State) :
    Host.Outcome State Fault Refusal :=
  s.next (s.dev.arrive source true fun d => d.handleWait source channel generation)

/-- GRANT_ARRIVES (R63, R66, R127). -/
def execGrantArrives (source : Station) (channel : ChannelNo) (generation : Generation) (start limit : Nat)
    (s : State) : Host.Outcome State Fault Refusal :=
  s.next (s.dev.arrive source (grantInRange start limit) fun d =>
    d.handleGrant source channel generation start limit)

/-- REFUSE_ARRIVES (R64, R106, R125). -/
def execRefuseArrives (source : Station) (channel : ChannelNo) (generation : Generation) (reason : RefuseReason)
    (s : State) : Host.Outcome State Fault Refusal :=
  s.next (s.dev.arrive source true fun d => d.handleRefuse source channel generation reason)

/-- RECEIPT_ARRIVES (R103 to R105, R125). -/
def execReceiptArrives (source : Station) (channel : ChannelNo) (generation : Generation) (accepted limit : Nat)
    (final : Bool) (s : State) : Host.Outcome State Fault Refusal :=
  s.next (s.dev.arrive source (receiptInRange accepted limit) fun d =>
    d.handleReceipt source channel generation accepted limit final)

/-- PAUSE_ARRIVES (R124, R125). -/
def execPauseArrives (source : Station) (channel : ChannelNo) (generation : Generation) (block : Nat)
    (s : State) : Host.Outcome State Fault Refusal :=
  s.next (s.dev.arrive source (pauseInRange block) fun d => d.handlePause source channel generation block)

/-! ### The Signal Unit's frame -/

/-- R152: a SIGNAL whose event's entry honours its source is applied. -/
def Device.handleSignal (d : Device) (source : Station) (event : EventNo) (argument : BitVec 16) : Device :=
  if d.config.signals[event].mask.getLsbD source.val then d.applySignal source .frame event argument else d

/-- SIGNAL_ARRIVES (R152). -/
def execSignalArrives (source : Station) (event : EventNo) (argument : BitVec 16) (s : State) :
    Host.Outcome State Fault Refusal :=
  s.next (s.dev.arrive source true fun d => d.handleSignal source event argument)

/-! ### Station Control's frames -/

/-- R30, R31: a JOIN: of an ABSENT peer, a repeat of the current joining, or a restart. -/
def Device.handleJoin (d : Device) (x : Station) : Device :=
  match d.control.peers[x].presence, d.control.peers[x].window with
  | .absent, _ => d.notePeer x
  | .present, some _ => d.setPeer x .present (some Config.joinWindow)
  | .present, none =>
    ((d.post (.peerChange x .restart)).teardown x .peerRestart .peerRestart).setPeer x .present
      (some Config.joinWindow)
  | .self, _ => d

/-- R30, R32: a LEAVE: ignored from an ABSENT peer, the teardown of a PRESENT one. -/
def Device.handleLeave (d : Device) (x : Station) : Device :=
  match d.control.peers[x].presence with
  | .present => ((d.post (.peerChange x .left)).teardown x .peerLeft .peerLeft).setPeer x .absent none
  | .absent | .self => d

/-- R30, R31, R32: JOIN and LEAVE are handled by Station Control, which does the noting itself. -/
def Device.arriveControl (d : Device) (source : Station) (handle : Device → Device) : Device :=
  if !d.control.receiving then d
  else if source = d.control.number then d.noteOwnNumber source
  else (handle d).settle

/-- JOIN_ARRIVES (R30, R31). -/
def execJoinArrives (source : Station) (s : State) : Host.Outcome State Fault Refusal :=
  s.next (s.dev.arriveControl source fun d => d.handleJoin source)

/-- LEAVE_ARRIVES (R30, R32). -/
def execLeaveArrives (source : Station) (s : State) : Host.Outcome State Fault Refusal :=
  s.next (s.dev.arriveControl source fun d => d.handleLeave source)

/-! ### The Halt Unit's frames -/

/-- HALT_ARRIVES (R160). -/
def execHaltArrives (source : Station) (s : State) : Host.Outcome State Fault Refusal :=
  s.next (s.dev.arrive source true fun d => d.haltFrom source)

/-- RESUME_ARRIVES (R160). -/
def execResumeArrives (source : Station) (s : State) : Host.Outcome State Fault Refusal :=
  s.next (s.dev.arrive source true fun d => d.leaveHalt source .resume)

end Sys2Proof.Machine
end

