-- ==== Sys2Proof/Machine/Lines.lean ====
section
/-! DEFINITION. The meanings of the events on the input lines: RESETn (R37), TRIG0 to TRIG3 (R48), HALT (R161). -/

namespace Sys2Proof.Machine

/-- R48: a start with cause LINE at every channel bound to the line, in order of channel number. -/
def Device.lineStarts (d : Device) (line : LineNo) : Device :=
  eight.foldl (fun d c => if d.config.lines[c] = some line then d.startOrMiss c .line else d) d

/-- POWER_ON_RESET (R37, R19, R59, R146, R170, R186), with the station number its straps give (R1). -/
def execPowerOnReset (straps : Station) (s : State) : Host.Outcome State Fault Refusal :=
  s.next (Device.powerOn straps s.dev.halt.line)

/-- TRIGGER_EDGE (R48, R49). -/
def execTriggerEdge (line : LineNo) (s : State) : Host.Outcome State Fault Refusal :=
  s.event (s.dev.lineStarts line)

/-- HALT_LINE_CHANGE (R161): the level is acted on while JOINED and kept in every state. -/
def execHaltLineChange (level : Bool) (s : State) : Host.Outcome State Fault Refusal :=
  s.event (s.dev.updHalt fun h => { h with line := level }).updateHold

end Sys2Proof.Machine
end

