-- ==== Sys2Proof/Machine/LocalCommands.lean ====
section
/-! DEFINITION. The meanings of the writes to the register window: the twenty commands of R173, a write to COMMAND
with another number, a write to CONTROL, and a write to any other word. -/

namespace Sys2Proof.Machine

/-! ### Station states that accept a command (R173) -/

/-- Accepted in CONFIG alone (R21). -/
def inConfig : StationState → Bool
  | .config => true
  | .joining | .joined | .leaving => false

/-- Accepted in JOINED alone. -/
def inJoined : StationState → Bool
  | .joined => true
  | .config | .joining | .leaving => false

/-- Accepted in JOINING and JOINED. -/
def onSpan : StationState → Bool
  | .joining | .joined => true
  | .config | .leaving => false

/-- Accepted in CONFIG, JOINING and JOINED. -/
def notLeaving : StationState → Bool
  | .config | .joining | .joined => true
  | .leaving => false

/-- Accepted in every state. -/
def always : StationState → Bool
  | .config | .joining | .joined | .leaving => true

/-! ### Bodies of the commands: what they do once the station state accepts them -/

/-- R135. -/
def setWindowBody (d : Device) : Device × ResultCode :=
  if h : d.arg 0 < 16 then
    match d.parseWindow with
    | some e => (d.updConfig fun c => { c with windows := c.windows.set (d.arg 0) e }, .ok)
    | none => (d, .badArgument)
  else (d, .badArgument)

/-- R148. -/
def setSignalBody (d : Device) : Device × ResultCode :=
  if h : d.arg 0 < 32 then
    match d.parseSignal with
    | some e => (d.updConfig fun c => { c with signals := c.signals.set (d.arg 0) e }, .ok)
    | none => (d, .badArgument)
  else (d, .badArgument)

/-- R47. -/
def setLineBody (d : Device) : Device × ResultCode :=
  if h : d.arg 0 < 8 then
    match parseBinding (d.arg 1) with
    | some b => (d.updConfig fun c => { c with lines := c.lines.set (d.arg 0) b }, .ok)
    | none => (d, .badArgument)
  else (d, .badArgument)

/-- R175. -/
def setTimersBody (d : Device) : Device × ResultCode :=
  if d.timersInRange then
    (d.updConfig fun c => { c with tReply := d.arg 0, tQueue := d.arg 1, tPause := d.arg 2, tLand := d.arg 3,
                                   credit := d.arg 4 }, .ok)
  else (d, .badArgument)

/-- R22. -/
def joinBody (d : Device) : Device × ResultCode :=
  ((d.updControl fun c => { c with state := .joining, joinCount := 0 }).makeJoinDue.settle, .ok)

/-- R25. -/
def leaveBody (d : Device) : Device × ResultCode := (d.startLeaving.settle, .ok)

/-- R35. -/
def resetBody (d : Device) : Device × ResultCode := (d.resetStation.settle, .ok)

/-- R43: where a checked descriptor goes. -/
def Channel.load (ch : Channel) (a : Descriptor) : Channel :=
  match ch.state with
  | .empty | .ready => { ch with active := some a, state := .ready }
  | .offering | .queued | .streaming | .draining | .paused => { ch with standby := some a }

/-- R42, R43. -/
def loadBody (d : Device) : Device × ResultCode :=
  if h : d.arg 0 < 8 then
    match d.parseDescriptor with
    | some a => (d.updChannel ⟨d.arg 0, h⟩ (·.load a), .ok)
    | none => (d, .badDescriptor)
  else (d, .badArgument)

/-- R49. -/
def startBody (d : Device) : Device × ResultCode :=
  if h : d.arg 0 < 8 then
    match d.tryStart ⟨d.arg 0, h⟩ with
    | some d' => (d'.settle, .ok)
    | none => (d, .empty)
  else (d, .badArgument)

/-- R46: STOP of a channel that is in no transfer. -/
def Channel.stopIdle (ch : Channel) : Channel :=
  match ch.state with
  | .ready => { ch.promote with latch := false }
  | .empty | .offering | .queued | .streaming | .draining | .paused => ch

/-- R45, R46. -/
def stopBody (d : Device) : Device × ResultCode :=
  if h : d.arg 0 < 8 then
    if d.channels[d.arg 0].state.inTransfer then ((d.endTransfer ⟨d.arg 0, h⟩ .aborted none).settle, .ok)
    else (d.updChannel ⟨d.arg 0, h⟩ Channel.stopIdle, .ok)
  else (d, .badArgument)

/-- R44. -/
def clearBody (d : Device) : Device × ResultCode :=
  if h : d.arg 0 < 8 then
    if d.channels[d.arg 0].state.inTransfer then (d, .busy)
    else
      (d.updChannel ⟨d.arg 0, h⟩ fun ch =>
        { ch with active := none, standby := none, latch := false, state := .empty }, .ok)
  else (d, .badArgument)

/-- R149. -/
def signalBody (d : Device) : Device × ResultCode :=
  match parseDest d.control.number (d.arg 0) with
  | some dest =>
    if h : d.arg 1 < 32 then
      if d.arg 2 ≤ 65535 then
        if d.span.signalCount < Config.signalMax then
          ((d.claimInitiation (· ++ [.signal dest ⟨d.arg 1, h⟩ (BitVec.ofNat 16 (d.arg 2))])).settle, .ok)
        else (d, .full)
      else (d, .badArgument)
    else (d, .badArgument)
  | none => (d, .badArgument)

/-- R161. -/
def haltAssertBody (d : Device) : Device × ResultCode :=
  ((d.updHalt fun h => { h with request := true }).updateHold.settle, .ok)

/-- R161. -/
def haltReleaseBody (d : Device) : Device × ResultCode :=
  ((d.updHalt fun h => { h with request := false }).updateHold.settle, .ok)

/-- R177. -/
def readChannelBody (d : Device) : Device × ResultCode :=
  if h : d.arg 0 < 8 then (d.updLocal fun p => { p with args := d.channels[d.arg 0].words }, .ok)
  else (d, .badArgument)

/-- R178: the six words of READ_LANDINGS. -/
def Device.landingWords (d : Device) : Vector Word 6 :=
  #v[packBytes (d.admission.landings.countP fun l => decide (l.phase = .active))
       (d.admission.landings.countP fun l => decide (l.phase = .settling)) d.admission.suspended.length
       d.admission.waiting.length,
     packBytes d.admission.recent.length d.holding d.admission.reserved d.free,
     packBytes d.span.signalCount d.span.slotCount d.span.replies.length 0, 0, 0, 0]

/-- R178. -/
def readLandingsBody (d : Device) : Device × ResultCode :=
  (d.updLocal fun p => { p with args := d.landingWords }, .ok)

/-- R179. -/
def readWindowBody (d : Device) : Device × ResultCode :=
  if h : d.arg 0 < 16 then
    (d.updLocal fun p => { p with args := d.config.windows[d.arg 0].words p.args[(0 : Fin 6)] }, .ok)
  else (d, .badArgument)

/-- R179. -/
def readSignalBody (d : Device) : Device × ResultCode :=
  if h : d.arg 0 < 32 then
    (d.updLocal fun p => { p with args := d.config.signals[d.arg 0].words p.args[(0 : Fin 6)] }, .ok)
  else (d, .badArgument)

/-- R181. -/
def takeBody (d : Device) : Device × ResultCode :=
  match d.lport.queue with
  | n :: ns => (d.updLocal fun p => { p with queue := ns, notice := n.words }, .ok)
  | [] => (d, .empty)

/-- R176. -/
def clearFlagsBody (d : Device) : Device × ResultCode := (d.clearFlags, .ok)

/-! ### The meanings -/

/-- SET_WINDOW (R135). -/
def execSetWindow (s : State) : Host.Outcome State Fault Refusal :=
  s.next (s.dev.command 1 inConfig setWindowBody)

/-- SET_SIGNAL (R148). -/
def execSetSignal (s : State) : Host.Outcome State Fault Refusal :=
  s.next (s.dev.command 2 inConfig setSignalBody)

/-- SET_LINE (R47). -/
def execSetLine (s : State) : Host.Outcome State Fault Refusal :=
  s.next (s.dev.command 3 inConfig setLineBody)

/-- SET_TIMERS (R175). -/
def execSetTimers (s : State) : Host.Outcome State Fault Refusal :=
  s.next (s.dev.command 4 inConfig setTimersBody)

/-- JOIN (R22). -/
def execJoin (s : State) : Host.Outcome State Fault Refusal :=
  s.next (s.dev.command 5 inConfig joinBody)

/-- LEAVE (R25). -/
def execLeave (s : State) : Host.Outcome State Fault Refusal :=
  s.next (s.dev.command 6 onSpan leaveBody)

/-- RESET_STATION (R35). -/
def execResetStation (s : State) : Host.Outcome State Fault Refusal :=
  s.next (s.dev.command 7 always resetBody)

/-- LOAD (R42, R43). -/
def execLoad (s : State) : Host.Outcome State Fault Refusal :=
  s.next (s.dev.command 8 notLeaving loadBody)

/-- START (R49). -/
def execStart (s : State) : Host.Outcome State Fault Refusal :=
  s.next (s.dev.command 9 onSpan startBody)

/-- STOP (R45, R46). -/
def execStop (s : State) : Host.Outcome State Fault Refusal :=
  s.next (s.dev.command 10 notLeaving stopBody)

/-- CLEAR (R44). -/
def execClear (s : State) : Host.Outcome State Fault Refusal :=
  s.next (s.dev.command 11 notLeaving clearBody)

/-- SIGNAL (R149). -/
def execSignal (s : State) : Host.Outcome State Fault Refusal :=
  s.next (s.dev.command 12 inJoined signalBody)

/-- HALT_ASSERT (R161). -/
def execHaltAssert (s : State) : Host.Outcome State Fault Refusal :=
  s.next (s.dev.command 13 inJoined haltAssertBody)

/-- HALT_RELEASE (R161). -/
def execHaltRelease (s : State) : Host.Outcome State Fault Refusal :=
  s.next (s.dev.command 14 inJoined haltReleaseBody)

/-- READ_CHANNEL (R177). -/
def execReadChannel (s : State) : Host.Outcome State Fault Refusal :=
  s.next (s.dev.command 15 always readChannelBody)

/-- READ_LANDINGS (R178). -/
def execReadLandings (s : State) : Host.Outcome State Fault Refusal :=
  s.next (s.dev.command 16 always readLandingsBody)

/-- READ_WINDOW (R179). -/
def execReadWindow (s : State) : Host.Outcome State Fault Refusal :=
  s.next (s.dev.command 17 always readWindowBody)

/-- READ_SIGNAL (R179). -/
def execReadSignal (s : State) : Host.Outcome State Fault Refusal :=
  s.next (s.dev.command 18 always readSignalBody)

/-- TAKE (R181). -/
def execTake (s : State) : Host.Outcome State Fault Refusal :=
  s.next (s.dev.command 19 always takeBody)

/-- CLEAR_FLAGS (R176). -/
def execClearFlags (s : State) : Host.Outcome State Fault Refusal :=
  s.next (s.dev.command 20 notLeaving clearFlagsBody)

/-- R173: the execution of the command of this number; a number that is no command's fails check 1. -/
def executeNumber (number : Nat) (s : State) : Host.Outcome State Fault Refusal :=
  match number with
  | 1 => execSetWindow s
  | 2 => execSetSignal s
  | 3 => execSetLine s
  | 4 => execSetTimers s
  | 5 => execJoin s
  | 6 => execLeave s
  | 7 => execResetStation s
  | 8 => execLoad s
  | 9 => execStart s
  | 10 => execStop s
  | 11 => execClear s
  | 12 => execSignal s
  | 13 => execHaltAssert s
  | 14 => execHaltRelease s
  | 15 => execReadChannel s
  | 16 => execReadLandings s
  | 17 => execReadWindow s
  | 18 => execReadSignal s
  | 19 => execTake s
  | 20 => execClearFlags s
  | _ => s.next (s.dev.command number always fun d => (d, .badArgument))

/-- R171, R173: a write to COMMAND executes the command whose number the written value carries. -/
def writeCommand (w : WordWrite) (s : State) : Host.Outcome State Fault Refusal := executeNumber w.commandNumber s

/-- R171, R185: a write to CONTROL. -/
def Device.writeControl (d : Device) (value : Word) : Device := d.updLocal fun p => { p with enable := value.getLsbD 0 }

/-- UNKNOWN_COMMAND (R173 check 1): a write to COMMAND, of this value whatever number it carries. -/
def execUnknownCommand (w : WordWrite) (s : State) : Host.Outcome State Fault Refusal := writeCommand w s

/-- CONTROL_WRITE (R171, R185). -/
def execControlWrite (w : WordWrite) (s : State) : Host.Outcome State Fault Refusal :=
  s.next (s.dev.writeControl w.effective)

/-- REGISTER_WRITE (R171): a write to a word of the window; one to COMMAND executes a command (R173), one to CONTROL
sets the notice line enable, and one to a read-only word is ignored. -/
def execRegisterWrite (word : Fin 16) (w : WordWrite) (s : State) : Host.Outcome State Fault Refusal :=
  if word = 0 then writeCommand w s
  else if word = 13 then s.next (s.dev.writeControl w.effective)
  else s.next (s.dev.writeArg word w.effective)

end Sys2Proof.Machine
end

