-- ==== Sys2Proof/Machine/MemoryEvents.lean ====
section
/-! DEFINITION. The meanings of the completions of memory accesses (R90, R97, R101, R142 to R144). -/

namespace Sys2Proof.Machine

/-- R141: the port is free at the completion event of its access. -/
def Device.freePort (d : Device) : Device := d.updPort fun p => { p with access := none }

/-- R90: the fetch buffer holds the block that was read. -/
def Device.fillBuffer (d : Device) (r : ReadRequest) (data : List Byte) : Device :=
  d.updChannel r.channel fun ch => { ch with buffers := ch.buffers.set r.buffer (.holding r.block data) }

/-- READ_COMPLETION (R90, R142). The bytes come from local memory, outside the block (log 13). -/
def execReadCompletion (data : List Byte) (s : State) : Host.Outcome State Fault Refusal :=
  match s.dev.port.access with
  | some (.read r abandoned) =>
    if data.length = r.bytes then
      s.event (if abandoned then s.dev.freePort else s.dev.freePort.fillBuffer r data)
    else .fault .wrongDataLength
  | some .write | none => .fault .noAccessInFlight

/-- READ_ERROR (R90, R142, R144). -/
def execReadError (s : State) : Host.Outcome State Fault Refusal :=
  match s.dev.port.access with
  | some (.read r abandoned) =>
    s.event (if abandoned then s.dev.freePort else s.dev.freePort.endTransfer r.channel .fault none)
  | some .write | none => .fault .noAccessInFlight

/-- R139, R143: the completed write's entry leaves the write queue; its buffer is free. -/
def Device.popWrite (d : Device) : Device := d.freePort.updPort fun p => { p with writes := p.writes.drop 1 }

/-- WRITE_COMPLETION (R97, R143). -/
def execWriteCompletion (s : State) : Host.Outcome State Fault Refusal :=
  match s.dev.port.access, s.dev.port.writes with
  | some .write, w :: _ => s.event (s.dev.popWrite.writeDone w.owner)
  | some .write, [] => .fault .noAccessInFlight
  | some (.read ..), _ => .fault .noAccessInFlight
  | none, _ => .fault .noAccessInFlight

/-- WRITE_ERROR (R101, R143). -/
def execWriteError (s : State) : Host.Outcome State Fault Refusal :=
  match s.dev.port.access, s.dev.port.writes with
  | some .write, w :: _ => s.event (s.dev.popWrite.writeFailed w.owner)
  | some .write, [] => .fault .noAccessInFlight
  | some (.read ..), _ => .fault .noAccessInFlight
  | none, _ => .fault .noAccessInFlight

end Sys2Proof.Machine
end

