-- ==== Sys2Proof/Machine/Timers.lean ====
section
/-! DEFINITION. The meanings of the timer expiries. An expiry is an event of a timer that runs and does not stand
still (section 1.8, R166); put to any other timer it faults (log 2, log 3). -/

namespace Sys2Proof.Machine

/-- R166: a timer of a transfer runs, and the halt set is empty. -/
def Device.transferTimerRuns (d : Device) (t : Timer) : Bool := t.isSome && !d.halted

/-- JOIN_SPACING_EXPIRY (R23). -/
def execJoinSpacingExpiry (s : State) : Host.Outcome State Fault Refusal :=
  if s.dev.control.spacing.isSome then
    s.event (s.dev.updControl fun c => { c with spacing := none }).makeJoinDue
  else .fault .timerNotRunning

/-- JOIN_REPEAT_WINDOW_EXPIRY (R31): the window closes. -/
def execJoinRepeatWindowExpiry (peer : Station) (s : State) : Host.Outcome State Fault Refusal :=
  if s.dev.control.peers[peer].window.isSome then
    s.next (s.dev.setPeer peer s.dev.control.peers[peer].presence none)
  else .fault .timerNotRunning

/-- R61: the OFFER is sent again, or the transfer ends NO_REPLY. -/
def Device.resendOffer (d : Device) (c : ChannelNo) : Device :=
  match d.channels[c].active with
  | some a =>
    if d.channels[c].sends < Config.offerSends then
      (d.claimOffer c a).updChannel c fun ch => { ch with sends := ch.sends + 1, timer := some d.config.tReply }
    else d.endTransfer c .noReply none
  | none => d

/-- OFFER_REPLY_TIMER_EXPIRY (R61). -/
def execOfferReplyTimerExpiry (channel : ChannelNo) (s : State) : Host.Outcome State Fault Refusal :=
  if s.dev.channels[channel].state = .offering ∧ s.dev.transferTimerRuns s.dev.channels[channel].timer = true then
    s.event (s.dev.resendOffer channel)
  else .fault .timerNotRunning

/-- R108, R109: next-to-send falls back to this block: fetch buffers are emptied except those holding it or the
block after it, the state is STREAMING, and the wanted reads are requested. -/
def Device.fallBack (d : Device) (c : ChannelNo) (block : Nat) : Device :=
  let d := d.emptyBuffers c (FetchBuffer.holdsWanted block)
  (d.updChannel c fun ch => { ch with next := block, state := .streaming }).requestReads c

/-- R108, R109: the channel goes back, or probes; with next-to-send below accepted the probe is still to be sent and
nothing moves (DESIGN CHOICE, log 10). -/
def Device.goBackOrProbe (d : Device) (c : ChannelNo) : Device :=
  let ch := d.channels[c]
  if ch.accepted < ch.next then d.fallBack c ch.accepted
  else if ch.next = ch.accepted ∧ 1 ≤ ch.accepted then d.fallBack c (ch.accepted - 1)
  else d

/-- R107: the retry count is tested. -/
def Device.streamExpiry (d : Device) (c : ChannelNo) : Device :=
  if Config.retryMax ≤ d.channels[c].retry then d.endTransfer c .noReply none
  else
    (d.updChannel c fun ch => { ch with retry := ch.retry + 1, timer := some d.config.tReply }).goBackOrProbe c

/-- STREAM_REPLY_TIMER_EXPIRY (R107 to R109). -/
def execStreamReplyTimerExpiry (channel : ChannelNo) (s : State) : Host.Outcome State Fault Refusal :=
  if (s.dev.channels[channel].state = .streaming ∨ s.dev.channels[channel].state = .draining) ∧
      s.dev.transferTimerRuns s.dev.channels[channel].timer = true then
    s.event (s.dev.streamExpiry channel)
  else .fault .timerNotRunning

/-- QUEUE_TIMER_EXPIRY (R65). -/
def execQueueTimerExpiry (channel : ChannelNo) (s : State) : Host.Outcome State Fault Refusal :=
  if s.dev.channels[channel].state = .queued ∧ s.dev.transferTimerRuns s.dev.channels[channel].timer = true then
    s.event (s.dev.endTransfer channel .queueExpired none)
  else .fault .timerNotRunning

/-- PAUSE_TIMER_EXPIRY (R126). -/
def execPauseTimerExpiry (channel : ChannelNo) (s : State) : Host.Outcome State Fault Refusal :=
  if s.dev.channels[channel].state = .paused ∧ s.dev.transferTimerRuns s.dev.channels[channel].timer = true then
    s.event (s.dev.endTransfer channel .pauseExpired none)
  else .fault .timerNotRunning

/-- LIFETIME_EXPIRY (R78). -/
def execLifetimeExpiry (source : Station) (channel : ChannelNo) (s : State) :
    Host.Outcome State Fault Refusal :=
  match s.dev.admission.waiting.find? fun e => decide (e.offer.key = { source, channel }) with
  | some e =>
    if s.dev.transferTimerRuns e.lifetime then s.event (s.dev.expireWaiting e) else .fault .timerNotRunning
  | none => .fault .timerNotRunning

/-- LANDING_TIMER_EXPIRY (R102). -/
def execLandingTimerExpiry (source : Station) (channel : ChannelNo) (s : State) :
    Host.Outcome State Fault Refusal :=
  match s.dev.admission.landing { source, channel } with
  | some l => if s.dev.transferTimerRuns l.timer then s.event (s.dev.landTimeout l) else .fault .timerNotRunning
  | none => .fault .timerNotRunning

/-- REPEAT_TIMER_EXPIRY (R162). -/
def execRepeatTimerExpiry (s : State) : Host.Outcome State Fault Refusal :=
  if s.dev.halt.repeatTimer.isSome then
    s.event (s.dev.makeHaltDue.updHalt fun h => { h with repeatTimer := some Config.haltRepeat })
  else .fault .timerNotRunning

/-- LAPSE_TIMER_EXPIRY (R164). -/
def execLapseTimerExpiry (peer : Station) (s : State) : Host.Outcome State Fault Refusal :=
  if s.dev.halt.lapse[peer].isSome then s.event (s.dev.leaveHalt peer .lapse) else .fault .timerNotRunning

end Sys2Proof.Machine
end

