-- ==== Sys2Proof/Machine/Transmission.lean ====
section
/-! DEFINITION. The meanings of the completions of frame transmissions (R15, R23, R28, R36). -/

namespace Sys2Proof.Machine

/-- R15: the lane becomes free. -/
def Device.freeLane (d : Device) : Device := d.updSpan fun s => { s with lane := none }

/-- R23, R24: Station Control counts a JOIN completion in JOINING and takes no action on it in any other state. -/
def Device.countJoin (d : Device) : Device :=
  if d.control.state = .joining then
    let d := d.updControl fun c => { c with joinCount := c.joinCount + 1 }
    if d.control.joinCount < Config.joinTransmissions then
      d.updControl fun c => { c with spacing := some Config.joinSpacing }
    else d.becomeJoined
  else d

/-- JOIN_TRANSMISSION_COMPLETE (R23). -/
def execJoinTransmissionComplete (s : State) : Host.Outcome State Fault Refusal :=
  match s.dev.span.lane with
  | some f => if f.body = .join then s.event s.dev.freeLane.countJoin else .fault .nothingTransmitted
  | none => .fault .nothingTransmitted

/-- LEAVE_TRANSMISSION_COMPLETE (R28, R36). -/
def execLeaveTransmissionComplete (s : State) : Host.Outcome State Fault Refusal :=
  match s.dev.span.lane with
  | some f =>
    if f.body = .leave then
      s.event (if s.dev.control.owed then s.dev.softReset else s.dev.freeLane.returnToConfig)
    else .fault .nothingTransmitted
  | none => .fault .nothingTransmitted

/-- FRAME_TRANSMISSION_COMPLETE (R15): any frame but JOIN and LEAVE. -/
def execFrameTransmissionComplete (s : State) : Host.Outcome State Fault Refusal :=
  match s.dev.span.lane with
  | some f =>
    if f.body = .join ∨ f.body = .leave then .fault .nothingTransmitted else s.event s.dev.freeLane
  | none => .fault .nothingTransmitted

end Sys2Proof.Machine
end

