-- ==== Sys2Proof/Machine/Dispatch.lean ====
section
/-! DEFINITION. The dispatch of every command and event to its meaning, in the table's order. -/

namespace Sys2Proof.Machine

def exec (i : Instr) (s : State) : Host.Outcome State Fault Refusal :=
  match i with
  | .setWindow => Sys2Proof.Machine.execSetWindow s
  | .setSignal => Sys2Proof.Machine.execSetSignal s
  | .setLine => Sys2Proof.Machine.execSetLine s
  | .setTimers => Sys2Proof.Machine.execSetTimers s
  | .join => Sys2Proof.Machine.execJoin s
  | .leave => Sys2Proof.Machine.execLeave s
  | .resetStation => Sys2Proof.Machine.execResetStation s
  | .load => Sys2Proof.Machine.execLoad s
  | .start => Sys2Proof.Machine.execStart s
  | .stop => Sys2Proof.Machine.execStop s
  | .clear => Sys2Proof.Machine.execClear s
  | .signal => Sys2Proof.Machine.execSignal s
  | .haltAssert => Sys2Proof.Machine.execHaltAssert s
  | .haltRelease => Sys2Proof.Machine.execHaltRelease s
  | .readChannel => Sys2Proof.Machine.execReadChannel s
  | .readLandings => Sys2Proof.Machine.execReadLandings s
  | .readWindow => Sys2Proof.Machine.execReadWindow s
  | .readSignal => Sys2Proof.Machine.execReadSignal s
  | .take => Sys2Proof.Machine.execTake s
  | .clearFlags => Sys2Proof.Machine.execClearFlags s
  | .unknownCommand w => Sys2Proof.Machine.execUnknownCommand w s
  | .controlWrite w => Sys2Proof.Machine.execControlWrite w s
  | .registerWrite word w => Sys2Proof.Machine.execRegisterWrite word w s
  | .powerOnReset straps => Sys2Proof.Machine.execPowerOnReset straps s
  | .triggerEdge line => Sys2Proof.Machine.execTriggerEdge line s
  | .haltLineChange level => Sys2Proof.Machine.execHaltLineChange level s
  | .frameDiscard frame => Sys2Proof.Machine.execFrameDiscard frame s
  | .offerArrives source channel generation fields => Sys2Proof.Machine.execOfferArrives source channel generation fields s
  | .waitArrives source channel generation => Sys2Proof.Machine.execWaitArrives source channel generation s
  | .grantArrives source channel generation start limit => Sys2Proof.Machine.execGrantArrives source channel generation start limit s
  | .refuseArrives source channel generation reason => Sys2Proof.Machine.execRefuseArrives source channel generation reason s
  | .blockArrives source channel generation number payload => Sys2Proof.Machine.execBlockArrives source channel generation number payload s
  | .receiptArrives source channel generation accepted limit final => Sys2Proof.Machine.execReceiptArrives source channel generation accepted limit final s
  | .pauseArrives source channel generation block => Sys2Proof.Machine.execPauseArrives source channel generation block s
  | .withdrawArrives source channel generation reason => Sys2Proof.Machine.execWithdrawArrives source channel generation reason s
  | .signalArrives source event argument => Sys2Proof.Machine.execSignalArrives source event argument s
  | .joinArrives source => Sys2Proof.Machine.execJoinArrives source s
  | .leaveArrives source => Sys2Proof.Machine.execLeaveArrives source s
  | .haltArrives source => Sys2Proof.Machine.execHaltArrives source s
  | .resumeArrives source => Sys2Proof.Machine.execResumeArrives source s
  | .joinTransmissionComplete => Sys2Proof.Machine.execJoinTransmissionComplete s
  | .leaveTransmissionComplete => Sys2Proof.Machine.execLeaveTransmissionComplete s
  | .frameTransmissionComplete => Sys2Proof.Machine.execFrameTransmissionComplete s
  | .joinSpacingExpiry => Sys2Proof.Machine.execJoinSpacingExpiry s
  | .joinRepeatWindowExpiry peer => Sys2Proof.Machine.execJoinRepeatWindowExpiry peer s
  | .offerReplyTimerExpiry channel => Sys2Proof.Machine.execOfferReplyTimerExpiry channel s
  | .streamReplyTimerExpiry channel => Sys2Proof.Machine.execStreamReplyTimerExpiry channel s
  | .queueTimerExpiry channel => Sys2Proof.Machine.execQueueTimerExpiry channel s
  | .pauseTimerExpiry channel => Sys2Proof.Machine.execPauseTimerExpiry channel s
  | .lifetimeExpiry source channel => Sys2Proof.Machine.execLifetimeExpiry source channel s
  | .landingTimerExpiry source channel => Sys2Proof.Machine.execLandingTimerExpiry source channel s
  | .repeatTimerExpiry => Sys2Proof.Machine.execRepeatTimerExpiry s
  | .lapseTimerExpiry peer => Sys2Proof.Machine.execLapseTimerExpiry peer s
  | .readCompletion data => Sys2Proof.Machine.execReadCompletion data s
  | .readError => Sys2Proof.Machine.execReadError s
  | .writeCompletion => Sys2Proof.Machine.execWriteCompletion s
  | .writeError => Sys2Proof.Machine.execWriteError s

end Sys2Proof.Machine
end

