-- ==== Sys2Proof/Machine/Step.lean ====
section
/-! DEFINITION. One step: the command or event at the front of the queue is taken; an empty queue idles (log 1). -/

namespace Sys2Proof.Machine

/-- One step of the machine. DESIGN CHOICE (log 1): on an empty queue the block idles. -/
def step (s : State) : Host.Outcome State Fault Refusal :=
  match s.pending with
  | [] => .next s
  | c :: rest => exec c { s with pending := rest }

/-- The state with the command that a word spells put at the front of its queue; no row of the table has bits, so no
word spells one and the state is unchanged (log 21). -/
def State.withFetchWord (s : State) (nbits w : Nat) : State :=
  match decodeTableWord nbits w with
  | some c => { s with pending := c :: s.pending }
  | none => s

end Sys2Proof.Machine
end

