-- ==== Sys2Proof/Safety.lean ====
section
/-! DEFINITION. What is meant by a block in order: the bounds, orders and agreements the rules give its state. Each is
stated by name in Sys2Proof/Certificates/Slice0/Obligations.lean as something every step keeps. -/

namespace Sys2Proof.Machine

/-! ### Local Port and Span Interface -/

/-- R180: the notice queue holds at most 32 notices. -/
abbrev Device.noticesOk (d : Device) : Prop := d.lport.queue.length ≤ Config.noticeMax

/-- R14: the channel whose slot a position of the initiation queue is. -/
def InitEntry.slotChannel : InitEntry → Option ChannelNo
  | .slot c _ _ => some c
  | .signal .. => none

/-- R12 to R14: HALT and RESUME are not both due; the reply queue holds at most one frame for each key; the initiation
queue holds at most one slot for each channel, no empty slot, and at most 8 SIGNAL entries. -/
abbrev SpanInterface.queuesOk (s : SpanInterface) : Prop :=
  ¬(s.haltDue = true ∧ s.resumeDue = true) ∧
  (s.replies.map Reply.key).Nodup ∧
  (s.initiation.filterMap InitEntry.slotChannel).Nodup ∧
  (∀ e ∈ s.initiation, e.nonEmpty = true) ∧
  s.signalCount ≤ Config.signalMax

/-! ### Channel Unit -/

/-- The block count of the active descriptor, 0 when there is none. -/
def Channel.blocks (ch : Channel) : Nat :=
  match ch.active with
  | some a => blockCount a.length
  | none => 0

/-- R39, R40: which descriptors a state has, and that the timer runs in the transfer states alone. -/
abbrev Channel.shapeOk (ch : Channel) : Prop :=
  (ch.active = none ↔ ch.state = .empty) ∧ (ch.state = .empty → ch.standby = none) ∧
  ch.timer.isSome = ch.state.inTransfer

/-- R40, R64, R88: the ranges and the order of the counters. -/
abbrev Channel.countersOk (ch : Channel) : Prop :=
  ch.retry ≤ Config.retryMax ∧ ch.sends ≤ Config.offerSends ∧
  (ch.state = .offering ∨ ch.state = .queued → ch.next = 0 ∧ ch.accepted = 0 ∧ ch.limit = 0) ∧
  (ch.state = .streaming ∨ ch.state = .draining →
    ch.accepted ≤ ch.limit ∧ ch.limit ≤ ch.blocks ∧ ch.next ≤ ch.limit ∧ ch.accepted ≤ ch.next + 1) ∧
  (ch.state = .streaming → ch.next < ch.blocks) ∧ (ch.state = .draining → ch.next = ch.blocks)

/-- R40, R41, R55: the ranges of the counters, of the descriptors' lengths and of the bytes confirmed. -/
abbrev Channel.rangesOk (ch : Channel) : Prop :=
  ch.next ≤ Config.countMax ∧ ch.accepted ≤ Config.countMax ∧ ch.limit ≤ Config.countMax ∧
  (∀ a ∈ ch.active, 1 ≤ a.length ∧ a.length ≤ Config.lengthMax) ∧
  (∀ a ∈ ch.standby, 1 ≤ a.length ∧ a.length ≤ Config.lengthMax) ∧ ch.last.bytes ≤ Config.lengthMax

/-- R39, R40, R41, R55, R88 at every channel. -/
abbrev Device.channelsOk (d : Device) : Prop :=
  ∀ c : ChannelNo, d.channels[c].shapeOk ∧ d.channels[c].countersOk ∧ d.channels[c].rangesOk

/-- The fetch buffer a read request is for. -/
def ReadRequest.place (r : ReadRequest) : ChannelNo × Fin 2 := (r.channel, r.buffer)

/-- R140, R142: the read in flight, unless it is abandoned. -/
def MemoryPort.liveRead (p : MemoryPort) : List ReadRequest :=
  match p.access with
  | some (.read r false) => [r]
  | some (.read _ true) | some .write | none => []

/-- A buffer whose read has been requested (R89). -/
def FetchBuffer.isFetching : FetchBuffer → Bool
  | .fetching _ => true
  | .empty | .holding .. => false

/-- The block a fetch buffer holds or is fetching (R89). -/
def FetchBuffer.blockNo : FetchBuffer → Option Nat
  | .empty => none
  | .fetching s | .holding s _ => some s

/-- R40, R124, R140, R141: outside STREAMING and DRAINING both fetch buffers are empty, and the two of a channel are never
for one block; the requests and the read in flight are for distinct fetch buffers, each fetching the block asked for;
every fetching buffer has its request or its read; a write in flight is the head of the write queue. -/
abbrev Device.fetchOk (d : Device) : Prop :=
  (∀ c : ChannelNo, ∀ b : Fin 2, d.channels[c].state ≠ .streaming → d.channels[c].state ≠ .draining →
    d.channels[c].buffers[b] = .empty) ∧
  (∀ c : ChannelNo, d.channels[c].buffers[(0 : Fin 2)].blockNo = none ∨
    d.channels[c].buffers[(0 : Fin 2)].blockNo ≠ d.channels[c].buffers[(1 : Fin 2)].blockNo) ∧
  ((d.port.reads ++ d.port.liveRead).map ReadRequest.place).Nodup ∧
  (∀ r ∈ d.port.reads ++ d.port.liveRead, d.channels[r.channel].buffers[r.buffer] = .fetching r.block) ∧
  (∀ c : ChannelNo, ∀ b : Fin 2, d.channels[c].buffers[b].isFetching = true →
    ∃ r ∈ d.port.reads ++ d.port.liveRead, r.place = (c, b)) ∧
  (d.port.access = some .write → d.port.writes ≠ [])

/-- R89: this block is in a fetch buffer or on its way to one, or no fetch buffer is empty, if the channel wants it. -/
abbrev Channel.fetches (ch : Channel) (block : Nat) : Prop :=
  ch.state = .streaming → block < ch.limit → block < ch.blocks →
    (∃ b : Fin 2, ch.buffers[b].blockNo = some block) ∨ ∀ b : Fin 2, ch.buffers[b] ≠ .empty

/-- R89: every channel has requested the blocks it wants. -/
abbrev Device.wantedOk (d : Device) : Prop :=
  ∀ c : ChannelNo, d.channels[c].fetches d.channels[c].next ∧ d.channels[c].fetches (d.channels[c].next + 1)

/-! ### Admission Unit -/

/-- R67, R68, R110, R113: the capacities of the four collections. -/
abbrev AdmissionUnit.bounded (a : AdmissionUnit) : Prop :=
  a.landings.length ≤ Config.landingSlots ∧ a.suspended.length ≤ Config.suspendedMax ∧
  a.waiting.length ≤ Config.pendingMax ∧ a.recent.length ≤ Config.recentMax

/-- R68, R113: the pending list and the suspended list run from the most urgent to the least. -/
abbrev AdmissionUnit.ordered (a : AdmissionUnit) : Prop :=
  (a.waiting.map PendingEntry.level).Pairwise (· ≤ ·) ∧ (a.suspended.map Landing.level).Pairwise (· ≤ ·)

/-- The transfer keys of the four collections. -/
def AdmissionUnit.keys (a : AdmissionUnit) : List Key :=
  a.landings.map (·.offer.key) ++ a.suspended.map (·.offer.key) ++ a.waiting.map (·.offer.key) ++
    a.recent.map (·.key)

/-- R69: a transfer key appears at most once across the four collections. -/
abbrev AdmissionUnit.keysOk (a : AdmissionUnit) : Prop := a.keys.Nodup

/-- R67, R93, R113: the counts of a record in the landing table. -/
abbrev Landing.tableOk (l : Landing) : Prop :=
  l.accepted ≤ l.limit ∧ l.limit ≤ l.blocks ∧
  ((l.phase = .active ∧ l.accepted < l.blocks) ∨ (l.phase = .settling ∧ l.accepted = l.blocks))

/-- R113, R121: the counts of a suspended record. -/
abbrev Landing.suspendedOk (l : Landing) : Prop :=
  l.phase = .suspended ∧ l.limit = l.accepted ∧ l.accepted < l.blocks

/-- R67, R92, R93, R113, R139: each record holds the blocks it has accepted and not written; every reference in the
write queue names a record; the buffers that hold blocks and those reserved are at most 32. -/
abbrev Device.poolOk (d : Device) : Prop :=
  d.admission.keysOk ∧
  (∀ l ∈ d.admission.landings, l.tableOk) ∧
  (∀ l ∈ d.admission.suspended, l.suspendedOk) ∧
  (∀ e ∈ d.admission.waiting, 1 ≤ e.offer.fields.length) ∧
  (∀ l ∈ d.admission.landings ++ d.admission.suspended, l.written + d.buffersHeld l.offer.key = l.accepted) ∧
  (∀ w ∈ d.port.writes, ∀ k ∈ w.owner, ∃ l ∈ d.admission.landings ++ d.admission.suspended, l.offer.key = k) ∧
  d.holding + d.admission.reserved ≤ Config.poolBuffers

/-! ### Station Control and Halt Unit -/

/-- R18, R27, R35: LEAVE is owed or sent only in LEAVING, as is a soft reset. -/
abbrev Device.leaveOk (d : Device) : Prop :=
  (d.span.leaveDue = true ∨ d.span.leaveOnLane = true → d.control.state = .leaving) ∧
  (d.span.leaveOnLane = true → d.span.leaveDue = false) ∧
  (d.control.owed = true → d.control.state = .leaving)

/-- R29: the own entry alone reads SELF. -/
abbrev StationControl.peersOk (c : StationControl) : Prop :=
  ∀ x : Station, c.peers[x].presence = .self ↔ x = c.number

/-- R160 to R163: the own number is a member while the station holds; it holds while it is JOINED and a request stands;
the repeat timer runs while it holds; each peer member has a lapse timer and no other entry has one. -/
abbrev Device.haltOk (d : Device) : Prop :=
  d.leaveOk ∧
  d.halt.holding = d.wantsHold ∧
  d.halt.members[d.control.number] = d.halt.holding ∧
  d.halt.repeatTimer.isSome = d.halt.holding ∧
  d.halt.lapse[d.control.number] = none ∧
  (∀ x : Station, x ≠ d.control.number → d.halt.lapse[x].isSome = d.halt.members[x]) ∧
  (d.halt.request = true → d.control.state = .joined) ∧
  (d.span.haltDue = true → d.halt.holding = true)

/-- The four collections hold nothing. -/
abbrev AdmissionUnit.isClear (a : AdmissionUnit) : Prop :=
  a.landings = [] ∧ a.suspended = [] ∧ a.waiting = [] ∧ a.recent = []

/-- The span has nothing to send: no frame on the lane, none waiting, none due. -/
abbrev SpanInterface.isIdle (s : SpanInterface) : Prop :=
  s.lane = none ∧ s.replies = [] ∧ s.initiation = [] ∧ s.joinDue = false ∧ s.haltDue = false ∧
  s.resumeDue = false ∧ s.leaveDue = false

/-- R2: the frame on the lane is a JOIN. -/
def SpanInterface.joinOnLane (s : SpanInterface) : Bool :=
  match s.lane with
  | some f => decide (f.body = .join)
  | none => false

/-- R23: of a JOIN due, a JOIN on the lane and a running spacing timer there is at most one, and a due JOIN or a running
spacing timer belongs to JOINING. -/
abbrev Device.joinOk (d : Device) : Prop :=
  d.span.joinDue.toNat + d.span.joinOnLane.toNat + d.control.spacing.isSome.toNat ≤ 1 ∧
  (d.span.joinDue = true ∨ d.control.spacing.isSome = true → d.control.state = .joining)

/-- R15, R20, R26, R28, R49, R51, R87, R170: in CONFIG the span has nothing to send, nobody holds it halted and nothing
lands; no transfer is under way in CONFIG, in JOINING or in a leaving that owes no reset; a latch is set in JOINING and in
transfers alone; leaving owes LEAVE only when both queues are empty. -/
abbrev Device.stationOk (d : Device) : Prop :=
  d.haltOk ∧ d.joinOk ∧
  (d.control.state = .config → d.span.isIdle ∧ d.halted = false) ∧
  (d.control.state = .config ∨ d.control.state = .leaving ∧ d.control.owed = false →
    d.admission.isClear ∧ ∀ c : ChannelNo, d.channels[c].latch = false) ∧
  (d.control.state = .config ∨ d.control.state = .joining ∨ d.control.state = .leaving ∧ d.control.owed = false →
    ∀ c : ChannelNo, d.channels[c].state.inTransfer = false) ∧
  (d.control.state = .joined → ∀ c : ChannelNo, d.channels[c].state = .ready → d.channels[c].latch = false) ∧
  (∀ c : ChannelNo, d.channels[c].state = .empty → d.channels[c].latch = false) ∧
  (d.span.leaveDue = true ∨ d.span.leaveOnLane = true → d.span.replies = [] ∧ d.span.initiation = []) ∧
  (d.span.leaveOnLane = true → d.span.resumeDue = false)

/-- R74, R93, R136: each EXCLUSIVE window has at most one landing in the table; no landing has more reservations than
the landing credit; every record lies inside its window. -/
abbrev Device.withinConfig (d : Device) : Prop :=
  d.leaveOk ∧
  (d.control.state = .config ∨ d.control.state = .leaving ∧ d.control.owed = false → d.admission.isClear) ∧
  (∀ w : WindowNo, d.config.windows[w].mode = .exclusive →
    d.admission.landings.countP (fun l => decide (l.offer.fields.window = w)) ≤ 1) ∧
  (∀ l ∈ d.admission.landings, l.reserved ≤ d.config.credit) ∧
  (∀ o ∈ d.admission.landings.map (·.offer) ++ d.admission.suspended.map (·.offer) ++
      d.admission.waiting.map (·.offer), d.judge o = none)

/-- R135: a window table entry that could be enabled. -/
abbrev WindowEntry.legal (e : WindowEntry) : Prop :=
  e.base.toNat % 64 = 0 ∧ e.size % 64 = 0 ∧ 64 ≤ e.size ∧ e.size ≤ Config.windowMax ∧
  e.base.toNat + e.size ≤ Config.addressSpace

/-- R175: the transfer settings lie in their ranges. -/
abbrev ConfigRecord.timersOk (c : ConfigRecord) : Prop :=
  (1 ≤ c.tReply ∧ c.tReply ≤ 255) ∧ (1 ≤ c.tQueue ∧ c.tQueue ≤ 255) ∧ (1 ≤ c.tPause ∧ c.tPause ≤ 255) ∧
  (1 ≤ c.tLand ∧ c.tLand ≤ 255) ∧ (1 ≤ c.credit ∧ c.credit ≤ 8)

/-- R135, R175: every window entry is legal and the settings lie in their ranges. -/
abbrev ConfigRecord.legal (c : ConfigRecord) : Prop := (∀ w : WindowNo, c.windows[w].legal) ∧ c.timersOk

/-- R15, R141: a free lane finds no frame it may send, and a free memory port no client. -/
abbrev Device.served (d : Device) : Prop :=
  (d.span.lane = none → d.span.pickStation = none ∧ d.span.replies = [] ∧
    pickInitiation d.control.number d.halted d.span.initiation = none ∧
    (d.halted = false → d.control.owed = false → d.readyChannel = none)) ∧
  (d.port.access = none → d.port.writes = [] ∧ d.port.reads = [])

/-- The frame on the lane is of this body. -/
abbrev Device.onLane (d : Device) (b : FrameBody) : Prop := d.span.lane.map (·.body) = some b

/-- What cannot happen in this state (log 3): completions of what is not in flight, expiries of timers that are stopped
or stand still (section 1.8, R166), a discarded frame that is delivered, and read data of another length (R89). -/
def Device.impossible (d : Device) : Instr → Prop
  | .frameDiscard f => verdict d f = .deliver
  | .joinTransmissionComplete => ¬d.onLane .join
  | .leaveTransmissionComplete => ¬d.onLane .leave
  | .frameTransmissionComplete => d.span.lane = none ∨ d.onLane .join ∨ d.onLane .leave
  | .joinSpacingExpiry => d.control.spacing = none
  | .joinRepeatWindowExpiry x => d.control.peers[x].window = none
  | .offerReplyTimerExpiry c =>
    d.channels[c].state ≠ .offering ∨ d.channels[c].timer = none ∨ d.halted = true
  | .streamReplyTimerExpiry c =>
    d.channels[c].state ≠ .streaming ∧ d.channels[c].state ≠ .draining ∨ d.channels[c].timer = none ∨
      d.halted = true
  | .queueTimerExpiry c => d.channels[c].state ≠ .queued ∨ d.channels[c].timer = none ∨ d.halted = true
  | .pauseTimerExpiry c => d.channels[c].state ≠ .paused ∨ d.channels[c].timer = none ∨ d.halted = true
  | .lifetimeExpiry x c =>
    ∀ e, (d.admission.waiting.find? fun e => decide (e.offer.key = { source := x, channel := c })) = some e →
      e.lifetime = none ∨ d.halted = true
  | .landingTimerExpiry x c =>
    ∀ l, d.admission.landing { source := x, channel := c } = some l → l.timer = none ∨ d.halted = true
  | .repeatTimerExpiry => d.halt.repeatTimer = none
  | .lapseTimerExpiry x => d.halt.lapse[x] = none
  | .readCompletion data => ∀ r abandoned, d.port.access = some (.read r abandoned) → data.length ≠ r.bytes
  | .readError => ∀ r abandoned, d.port.access ≠ some (.read r abandoned)
  | .writeCompletion | .writeError => d.port.access ≠ some .write ∨ d.port.writes = []
  | _ => False

/-! ### How statements write a state that an event leads to -/

/-- R173: RESULT takes the code. COMMAND takes the number, the last value written to it (R171); that it does so for a
refused command too is the model's reading (DEDUCED, log 16), against R173's "no state other than RESULT". -/
abbrev Device.answer (d : Device) (number : Nat) (r : ResultCode) : Device :=
  { d with lport := { d.lport with command := BitVec.ofNat 8 number, result := r } }

/-- A frame from peer x is received, and x is already PRESENT (R8, R10, R30). -/
abbrev Device.hears (d : Device) (x : Station) : Prop :=
  (d.control.state = .joining ∨ d.control.state = .joined) ∧ d.control.owed = false ∧ x ≠ d.control.number ∧
  d.control.peers[x].presence = .present

/-- R140, R142: the memory port once the fetch buffers of channel c are emptied. -/
def MemoryPort.without (p : MemoryPort) (c : ChannelNo) : MemoryPort :=
  { p with
    reads := p.reads.filter fun r => decide (r.channel ≠ c)
    access :=
      match p.access with
      | some (.read r abandoned) => some (.read r (abandoned || decide (r.channel = c)))
      | some .write => some .write
      | none => none }

/-- R41, R174: an event byte of LOAD. -/
def eventOf (b : Nat) : Option EventNo := if h : b < 32 then some ⟨b, h⟩ else none

/-- The source of the frame a delivered kind brings. -/
def frameFrom : Instr → Option Station
  | .offerArrives x .. | .waitArrives x .. | .grantArrives x .. | .refuseArrives x .. | .blockArrives x ..
  | .receiptArrives x .. | .pauseArrives x .. | .withdrawArrives x .. | .signalArrives x .. | .joinArrives x
  | .leaveArrives x | .haltArrives x | .resumeArrives x => some x
  | _ => none

/-- R30: peer x has become PRESENT. -/
def Device.noted (d : Device) (x : Station) : Device :=
  { d with
    control := { d.control with peers := d.control.peers.set x { presence := .present, window := some 3 } }
    lport := d.lport.post (.peerChange x .joined) }

/-- R162, R165 as one record: own holding has begun. -/
def Device.holdBegun (d : Device) : Device :=
  { d with
    halt := { d.halt with members := d.halt.members.set d.control.number true, holding := true,
                          repeatTimer := some 2 }
    span := { d.span with haltDue := true, resumeDue := false }
    lport := if d.halted then d.lport else d.lport.post (.haltChange d.control.number .hold) }

/-- R163, R165 as one record: own holding has ended; RESUME is made due unless a soft reset is owed (R18). -/
def Device.holdEnded (d : Device) (cause : HaltCause) : Device :=
  let rest := { d.halt with members := d.halt.members.set d.control.number false }
  { d with
    halt := { rest with lapse := d.halt.lapse.set d.control.number none, holding := false, repeatTimer := none }
    span := if d.control.owed then d.span else { d.span with haltDue := false, resumeDue := true }
    lport := if rest.halted then d.lport else d.lport.post (.haltChange d.control.number cause) }

/-- R50 as one record: the transfer of active descriptor a has begun on channel c. -/
def Device.begun (d : Device) (c : ChannelNo) (a : Descriptor) : Device :=
  { d with
    channels := d.channels.set c
      { d.channels[c] with
        state := .offering, generation := d.channels[c].generation + 1, next := 0, accepted := 0, limit := 0,
        retry := 0, sends := 1, timer := some d.config.tReply, buffers := #v[.empty, .empty], latch := false }
    span :=
      { d.span with
        initiation := placeCurrent c
          (.offer a.target (d.channels[c].generation + 1)
            { level := a.level, window := a.window, offset := a.offset, length := a.length,
              landingEvent := a.landingEvent })
          (changeSlot c demoteCurrent d.span.initiation) }
    port := d.port.without c }

/-- R54 to R57 as one record: the transfer of active descriptor a on channel c has ended with an outcome other than
DONE, recorded with this reason. A claim is dropped while a soft reset is owed (R18). -/
def Device.ended (d : Device) (c : ChannelNo) (a : Descriptor) (o : TransferOutcome) (reason : Option Reason) :
    Device :=
  { d with
    channels := d.channels.set c
      { d.channels[c] with
        state := if d.channels[c].standby.isSome then .ready else .empty
        active := d.channels[c].standby, standby := none, timer := none, buffers := #v[.empty, .empty],
        latch := false,
        last := { outcome := some o, reason := reason, generation := d.channels[c].generation,
                  bytes := min (64 * d.channels[c].accepted) a.length } }
    span :=
      { d.span with
        initiation := changeSlot c dropOffer
          (match o.withdraw with
           | some r =>
             if d.control.owed then d.span.initiation
             else placeCurrent c (.withdraw { target := a.target, generation := d.channels[c].generation, reason := r })
               d.span.initiation
           | none => d.span.initiation) }
    port := d.port.without c
    lport := d.lport.post (.channelEnded c a.target a.window d.channels[c].generation o reason
      (min (64 * d.channels[c].accepted) a.length)) }

/-- R49, R51 as one record: the start latch of channel c is set. -/
def Device.latched (d : Device) (c : ChannelNo) : Device :=
  { d with channels := d.channels.set c { d.channels[c] with latch := true } }

/-- R49: what a line or signal start does at channel c. -/
def Device.startedBy (d : Device) (c : ChannelNo) (cause : MissedCause) : Device :=
  if d.control.state = .joined ∧ d.channels[c].state = .ready then
    match d.channels[c].active with
    | some a => d.begun c a
    | none => d
  else if (d.control.state = .joined ∨ d.control.state = .joining) ∧ d.channels[c].state ≠ .empty then d.latched c
  else { d with lport := d.lport.post (.startMissed c cause) }

/-- R153: the entry of an event is applied. -/
def Device.signalled (d : Device) (source : Station) (cause : SignalCause) (event : EventNo)
    (argument : BitVec 16) : Device :=
  let e := d.config.signals[event]
  let told : Device :=
    if e.action = .notice ∨ e.action = .noticeAndStart then
      { d with lport := d.lport.post (.signal source cause event argument) }
    else d
  if e.action = .start ∨ e.action = .noticeAndStart then told.startedBy e.channel (.signal event source) else told

/-- R26 step 1: what leaving makes of channel c. -/
def Device.channelLeft (d : Device) (c : ChannelNo) : Device :=
  if d.channels[c].state.inTransfer then
    match d.channels[c].active with
    | some a => d.ended c a .left (some (.withdraw .leaving))
    | none => d
  else if d.channels[c].state = .ready ∧ d.channels[c].latch = true then
    { d with
      channels := d.channels.set c { d.channels[c] with latch := false }
      lport := d.lport.post (.startMissed c .latch) }
  else d

/-- R26 step 2: the offers of the landing table, the suspended list and the pending list, with their accepted bytes. -/
def AdmissionUnit.offers (a : AdmissionUnit) : List (Offer × Nat) :=
  ((a.landings ++ a.suspended).map fun l => (l.offer, min (64 * l.accepted) l.offer.fields.length)) ++
    a.waiting.map fun e => (e.offer, 0)

/-- R24, R26: the block once the LEAVE command has ended its work. -/
def Device.departed (d : Device) : Device :=
  let gone := eight.foldl Device.channelLeft
    { d with
      control := { d.control with state := .leaving, spacing := none }
      span := { d.span with joinDue := false } }
  let asked : Device :=
    { gone with
      admission := { landings := [], suspended := [], waiting := [], recent := [] }
      port := { gone.port with writes := gone.port.writes.map fun w => { w with owner := none } }
      span :=
        { gone.span with
          replies := d.admission.offers.foldl
            (fun q p => placeReply q { key := p.1.key, generation := p.1.generation, kind := .refuse .leaving })
            gone.span.replies }
      lport := d.admission.offers.foldl
        (fun p o => p.post (.landingEnded o.1.key o.1.fields.window o.1.generation .leaving o.2)) gone.lport
      halt := { gone.halt with request := false } }
  if d.halt.holding then asked.holdEnded .leaving else asked

/-- R52: the transfer of a READY channel whose latch is set begins. -/
def Device.latchReleased (d : Device) (c : ChannelNo) : Device :=
  if d.channels[c].state = .ready ∧ d.channels[c].latch = true then
    match d.channels[c].active with
    | some a => d.begun c a
    | none => d
  else d

/-- R36 and the soft reset columns: what a performed soft reset leaves. -/
abbrev Device.isSoftReset (d s : Device) : Prop :=
  d.span.isIdle ∧ d.span.idConflict = false ∧ d.span.laneMismatch = false ∧
  d.control.state = .config ∧ d.control.owed = false ∧ d.control.joinCount = 0 ∧ d.control.spacing = none ∧
  d.control.number = s.control.number ∧
  (∀ x : Station, d.control.peers[x] =
    { presence := if x = s.control.number then .self else .absent, window := none }) ∧
  d.config = s.config ∧
  (∀ c : ChannelNo, d.channels[c] =
    { state := .empty, active := none, standby := none, generation := s.channels[c].generation, next := 0,
      accepted := 0, limit := 0, retry := 0, sends := 0, timer := none, buffers := #v[.empty, .empty],
      latch := false, last := { outcome := none, reason := none, generation := 0, bytes := 0 } }) ∧
  d.admission.isClear ∧ d.free = 32 ∧ d.port = { writes := [], reads := [], access := none } ∧
  d.halted = false ∧ d.halt.request = false ∧ d.halt.holding = false ∧ d.halt.repeatTimer = none ∧
  d.halt.line = s.halt.line ∧ (∀ x : Station, d.halt.lapse[x] = none) ∧
  d.lport =
    { command := 0, args := #v[0, 0, 0, 0, 0, 0], result := .ok, notice := #v[0, 0, 0, 0], queue := [],
      loss := false, enable := false } ∧
  d.noticeLine = false

/-- R37: what a power-on reset leaves, with the configuration of R21, R47, R93, R134, R147 and R175. -/
abbrev Device.isPowerOn (d : Device) (number : Station) (line : Bool) : Prop :=
  d.span.isIdle ∧ d.span.idConflict = false ∧ d.span.laneMismatch = false ∧
  d.control.state = .config ∧ d.control.owed = false ∧ d.control.joinCount = 0 ∧ d.control.spacing = none ∧
  d.control.number = number ∧
  (∀ x : Station, d.control.peers[x] = { presence := if x = number then .self else .absent, window := none }) ∧
  (∀ w : WindowNo, d.config.windows[w] =
    { enabled := false, base := 0, size := 64, mask := 0, mode := .shared, pinned := false }) ∧
  (∀ e : EventNo, d.config.signals[e] = { action := .none, channel := 0, mask := 0 }) ∧
  (∀ c : ChannelNo, d.config.lines[c] = none) ∧
  d.config.tReply = 10 ∧ d.config.tQueue = 50 ∧ d.config.tPause = 100 ∧ d.config.tLand = 20 ∧ d.config.credit = 4 ∧
  (∀ c : ChannelNo, d.channels[c] =
    { state := .empty, active := none, standby := none, generation := 0, next := 0, accepted := 0, limit := 0,
      retry := 0, sends := 0, timer := none, buffers := #v[.empty, .empty], latch := false,
      last := { outcome := none, reason := none, generation := 0, bytes := 0 } }) ∧
  d.admission.isClear ∧ d.free = 32 ∧ d.port = { writes := [], reads := [], access := none } ∧
  d.halted = false ∧ d.halt.request = false ∧ d.halt.holding = false ∧ d.halt.repeatTimer = none ∧
  d.halt.line = line ∧ (∀ x : Station, d.halt.lapse[x] = none) ∧
  d.lport =
    { command := 0, args := #v[0, 0, 0, 0, 0, 0], result := .ok, notice := #v[0, 0, 0, 0], queue := [],
      loss := false, enable := false } ∧
  d.noticeLine = false

/-- R78, R82, R97, R101, R102: what happens to key k leaves every other record's offer, blocks accepted and blocks
written as they were. -/
abbrev AdmissionUnit.keepsOthers (a b : AdmissionUnit) (k : Key) : Prop :=
  ∀ l ∈ a.landings ++ a.suspended, l.offer.key ≠ k →
    ∃ m ∈ b.landings ++ b.suspended, m.offer = l.offer ∧ m.accepted = l.accepted ∧ m.written = l.written

/-- R82: no landing, no suspended record and no pending entry has this key. -/
abbrev AdmissionUnit.lacks (a : AdmissionUnit) (k : Key) : Prop :=
  (∀ l ∈ a.landings ++ a.suspended, l.offer.key ≠ k) ∧ ∀ e ∈ a.waiting, e.offer.key ≠ k

/-- R139: the references of the write queue's entries to the record of key k are cleared; the entries stay. -/
def MemoryPort.orphaned (p : MemoryPort) (k : Key) : MemoryPort :=
  { p with writes := p.writes.map fun w => { w with owner := if w.owner = some k then none else w.owner } }

/-- R80, R99: no candidate qualifies, and no ACTIVE landing could take a free buffer. -/
abbrev Device.noneWaits (d : Device) : Prop :=
  (∀ l ∈ d.admission.suspended, d.canAdmit l.offer.fields.window = false) ∧
  (∀ e ∈ d.admission.waiting, d.canAdmit e.offer.fields.window = false) ∧
  (d.free = 0 ∨ ∀ l ∈ d.admission.landings, l.isTaker d.config.credit = false)

/-- R21, R173: the four SET commands, and a write to COMMAND of one of their numbers. -/
def writesConfig : Instr → Bool
  | .setWindow | .setSignal | .setLine | .setTimers => true
  | .unknownCommand w => decide (1 ≤ w.commandNumber) && decide (w.commandNumber ≤ 4)
  | .registerWrite word w => decide (word = 0) && decide (1 ≤ w.commandNumber) && decide (w.commandNumber ≤ 4)
  | _ => false

/-- R15, R91: channel c holds its next block, of descriptor a with these bytes, and is entitled to send it. -/
abbrev Channel.hasReady (ch : Channel) (a : Descriptor) (data : List Byte) : Prop :=
  ch.state = .streaming ∧ ch.active = some a ∧ ch.next < ch.limit ∧ ∃ b : Fin 2, ch.buffers[b] = .holding ch.next data

/-- R60: a reply from peer x of generation g matches channel c, whose transfer is that of descriptor a. -/
abbrev Device.matched (d : Device) (x : Station) (c : ChannelNo) (g : Generation) (a : Descriptor) : Prop :=
  d.channels[c].state.inTransfer = true ∧ d.channels[c].active = some a ∧ a.target = x ∧ d.channels[c].generation = g

/-- R14, R15: the position holds an OFFER alone, which a halted station passes over. -/
def InitEntry.isOfferAlone : InitEntry → Bool
  | .slot _ none (some (.offer ..)) => true
  | .slot .. | .signal .. => false

/-- R27: the queues of a leaving station are reported drained. -/
abbrev Device.drained (d : Device) : Prop :=
  d.control.state = .leaving ∧ d.control.owed = false ∧ d.span.replies = [] ∧ d.span.initiation = []

/-- R15, R16, R18, R27, R91: no block is sent at the end of the event: the lane is in use, the station is halted or owes a
reset, another frame goes first, or no channel is ready. -/
abbrev Device.sendsNoBlock (d : Device) : Prop :=
  d.span.lane ≠ none ∨ d.halted = true ∨ d.control.owed = true ∨
  (d.span.joinDue = true ∨ d.span.haltDue = true ∨ d.span.resumeDue = true ∨ d.span.leaveDue = true ∨ d.drained) ∨
  d.span.replies ≠ [] ∨ (∃ e ∈ d.span.initiation, e.nonEmpty = true) ∨
  ∀ (c : ChannelNo) (a : Descriptor) (data : List Byte), ¬d.channels[c].hasReady a data

/-- R140: the read request that fetch buffer b of channel c places for a block of its active descriptor a. -/
def Descriptor.request (a : Descriptor) (c : ChannelNo) (b : Fin 2) (block : Nat) : ReadRequest :=
  { channel := c, buffer := b, block := block, address := a.source.toNat + 64 * block,
    bytes := if block + 1 = blockCount a.length then a.length - 64 * block else 64, level := a.level }

end Sys2Proof.Machine
end

