-- ==== Sys2Proof/Certificates/Slice0/Obligations.lean ====
section
/-! DEFINITION. The statements for the provers, from the numbered rules of spec/. Where a statement rests on a choice of
the model, its docstring names the log entry. In a state written `d.settle` the free lane and the free memory port have
made the choices of R15 and R141 (log 6), which LaneArbiterTakesTheFirstFrame and MemoryPortServesItsClients state. -/

section
open Sys2Proof Sys2Proof.Machine

/-! ### The machine -/

/-- A step takes the command at the front of the queue and executes it on the queue's rest; an empty queue idles.
The queue is the model's (log 1). -/
def Obligations.StepTakesTheFrontCommand : Prop :=
  (∀ (c : Instr) (rest : List Instr) (s : State),
    step { s with pending := c :: rest } = exec c { s with pending := rest }) ∧
  ∀ s : State, s.pending = [] → step s = .next s

/-- R37 with R1, R19, R21, R29, R59, R87, R112, R133, R146, R170 and R186: a power-on reset in any state, and what
State.reset holds, where the station number and the HALT level are the model's (log 11). -/
def Obligations.PowerOnResetReturnsEverything : Prop :=
  (∀ (number : Station) (s : State), ∃ t, exec (.powerOnReset number) s = .next t ∧ t.pending = s.pending ∧
    t.dev.isPowerOn number s.dev.halt.line) ∧
  State.reset.pending = [] ∧ State.reset.dev.isPowerOn 0 false

/-- Nothing is refused, and a step stops on exactly the events that cannot happen in the state they are put to
(log 3): a completion of what is not in flight, an expiry of a timer that is stopped or stands still, a discarded frame
that passes every check, and read data of another length. -/
def Obligations.StopsAreImpossibleEvents : Prop :=
  (∀ (c : Instr) (s : State) (r : Refusal), exec c s ≠ .refused r) ∧
  ∀ (c : Instr) (s : State), (∃ f, exec c s = .fault f) ↔ s.dev.impossible c

/-- No command or event changes the queue of those that wait (log 1). R1: the station number is held until the next
power-on reset. R21: the configuration record is written by the four SET commands in CONFIG, however COMMAND is written, and by a
power-on reset. -/
def Obligations.QueueNumberAndConfigurationAreHeld : Prop :=
  (∀ (c : Instr) (s t : State), exec c s = .next t → t.pending = s.pending) ∧
  ∀ (c : Instr) (s t : State), exec c s = .next t → (∀ x, c ≠ .powerOnReset x) →
    t.dev.control.number = s.dev.control.number ∧
    (s.dev.control.state ≠ .config ∨ writesConfig c = false → t.dev.config = s.dev.config)

/-- R58: a command or event other than a power-on reset leaves a channel's generation as it was, or advances it by one,
15 to 0, and then the channel has begun a transfer. -/
def Obligations.GenerationsAdvanceAtABegin : Prop :=
  ∀ (i : Instr) (s t : State) (c : ChannelNo), exec i s = .next t → (∀ x, i ≠ .powerOnReset x) →
    t.dev.channels[c].generation = s.dev.channels[c].generation ∨
    t.dev.channels[c].generation = s.dev.channels[c].generation + 1 ∧ t.dev.channels[c].state = .offering ∧
      t.dev.channels[c].sends = 1 ∧ t.dev.channels[c].next = 0 ∧ t.dev.channels[c].accepted = 0 ∧
      t.dev.channels[c].limit = 0 ∧ t.dev.channels[c].retry = 0 ∧
      t.dev.channels[c].timer = some s.dev.config.tReply

/-! ### Writes to the register window -/

/-- R173, check 2: a command in a station state that does not accept it changes RESULT, and of all else COMMAND alone, which
takes its number: that is the model's reading of R171 against R173 (log 16). -/
def Obligations.CommandsOutsideTheirStatesAreRefused : Prop :=
  ∀ p ∈ ([(.setWindow, 1, [.config]), (.setSignal, 2, [.config]), (.setLine, 3, [.config]),
      (.setTimers, 4, [.config]), (.join, 5, [.config]), (.leave, 6, [.joining, .joined]),
      (.load, 8, [.config, .joining, .joined]), (.start, 9, [.joining, .joined]),
      (.stop, 10, [.config, .joining, .joined]), (.clear, 11, [.config, .joining, .joined]),
      (.signal, 12, [.joined]), (.haltAssert, 13, [.joined]), (.haltRelease, 14, [.joined]),
      (.clearFlags, 20, [.config, .joining, .joined])] : List (Instr × Nat × List StationState)),
    ∀ s : State, s.dev.control.state ∉ p.2.2 → exec p.1 s = s.next (s.dev.answer p.2.1 .state)

/-- R135. A refused command's COMMAND is the model's (log 16). -/
def Obligations.SetWindowWritesOneEntry : Prop :=
  (∀ (s : State) (h : s.dev.arg 0 < 16), s.dev.control.state = .config →
    s.dev.arg 1 % 64 = 0 → s.dev.arg 2 % 64 = 0 → 64 ≤ s.dev.arg 2 → s.dev.arg 2 ≤ 16777216 →
    s.dev.arg 1 + s.dev.arg 2 ≤ 4294967296 → s.dev.argByte 4 1 ≤ 1 →
    let e : WindowEntry :=
      { enabled := decide (s.dev.argByte 4 0 ≠ 0), base := s.dev.lport.args[(1 : Fin 6)], size := s.dev.arg 2,
        mask := s.dev.lport.args[(3 : Fin 6)].extractLsb' 0 8,
        mode := if s.dev.argByte 4 1 = 0 then .shared else .exclusive,
        pinned := decide (s.dev.argByte 4 2 ≠ 0) }
    exec .setWindow s = s.next (Device.answer
      { s.dev with config := { s.dev.config with windows := s.dev.config.windows.set (s.dev.arg 0) e } } 1 .ok)) ∧
  (∀ s : State, s.dev.control.state ≠ .config → exec .setWindow s = s.next (s.dev.answer 1 .state)) ∧
  ∀ s : State, s.dev.control.state = .config →
    ¬(s.dev.arg 0 < 16 ∧ s.dev.arg 1 % 64 = 0 ∧ s.dev.arg 2 % 64 = 0 ∧ 64 ≤ s.dev.arg 2 ∧ s.dev.arg 2 ≤ 16777216 ∧
      s.dev.arg 1 + s.dev.arg 2 ≤ 4294967296 ∧ s.dev.argByte 4 1 ≤ 1) →
    exec .setWindow s = s.next (s.dev.answer 1 .badArgument)

/-- R148. A refused command's COMMAND is the model's (log 16). -/
def Obligations.SetSignalWritesOneEntry : Prop :=
  (∀ (s : State) (h : s.dev.arg 0 < 32) (action : SignalAction) (channel : ChannelNo),
    s.dev.control.state = .config → s.dev.arg 1 = action.code → s.dev.arg 2 = channel.val →
    let e : SignalEntry :=
      { action := action, channel := channel, mask := s.dev.lport.args[(3 : Fin 6)].extractLsb' 0 8 }
    exec .setSignal s = s.next (Device.answer
      { s.dev with config := { s.dev.config with signals := s.dev.config.signals.set (s.dev.arg 0) e } } 2 .ok)) ∧
  (∀ s : State, s.dev.control.state ≠ .config → exec .setSignal s = s.next (s.dev.answer 2 .state)) ∧
  ∀ s : State, s.dev.control.state = .config → ¬(s.dev.arg 0 ≤ 31 ∧ s.dev.arg 1 ≤ 3 ∧ s.dev.arg 2 ≤ 7) →
    exec .setSignal s = s.next (s.dev.answer 2 .badArgument)

/-- R47: the SET_LINE command. R175: the SET_TIMERS command. A refused command's COMMAND is the model's (log 16). -/
def Obligations.SetLineAndSetTimersWriteTheirSettings : Prop :=
  (∀ (s : State) (h : s.dev.arg 0 < 8), s.dev.control.state = .config → s.dev.arg 1 = 0 →
    exec .setLine s = s.next (Device.answer
      { s.dev with config := { s.dev.config with lines := s.dev.config.lines.set (s.dev.arg 0) none } } 3 .ok)) ∧
  (∀ (s : State) (h : s.dev.arg 0 < 8) (line : LineNo), s.dev.control.state = .config → s.dev.arg 1 = line.val + 1 →
    exec .setLine s = s.next (Device.answer
      { s.dev with config := { s.dev.config with lines := s.dev.config.lines.set (s.dev.arg 0) (some line) } } 3 .ok)) ∧
  (∀ s : State, s.dev.control.state = .config → ¬(s.dev.arg 0 ≤ 7 ∧ s.dev.arg 1 ≤ 4) →
    exec .setLine s = s.next (s.dev.answer 3 .badArgument)) ∧
  (∀ s : State, s.dev.control.state = .config →
    (∀ i : Fin 4, 1 ≤ s.dev.arg (i.castLE (by decide)) ∧ s.dev.arg (i.castLE (by decide)) ≤ 255) →
    1 ≤ s.dev.arg 4 → s.dev.arg 4 ≤ 8 →
    exec .setTimers s = s.next (Device.answer
      { s.dev with config := { s.dev.config with
        tReply := s.dev.arg 0, tQueue := s.dev.arg 1, tPause := s.dev.arg 2, tLand := s.dev.arg 3,
        credit := s.dev.arg 4 } } 4 .ok)) ∧
  ∀ s : State, s.dev.control.state = .config →
    ¬((∀ i : Fin 4, 1 ≤ s.dev.arg (i.castLE (by decide)) ∧ s.dev.arg (i.castLE (by decide)) ≤ 255) ∧
      1 ≤ s.dev.arg 4 ∧ s.dev.arg 4 ≤ 8) →
    exec .setTimers s = s.next (s.dev.answer 4 .badArgument)

/-- R179: READ_WINDOW and READ_SIGNAL copy one entry, in every station state; followed by the matching SET command
they write the entry back unchanged. A refused command's COMMAND is the model's (log 16), and so is that bits of ARG3 and ARG4
without a field are written as 0 (log 27). -/
def Obligations.ReadingATableEntry : Prop :=
  (∀ (s : State) (w : WindowNo), s.dev.arg 0 = w.val → s.dev.config.windows[w].size ≤ 16777216 →
    ∃ t, exec .readWindow s = .next t ∧
      t = { s with dev := Device.answer { s.dev with lport := { s.dev.lport with args := t.dev.lport.args } } 17 .ok } ∧
      t.dev.arg 0 = w.val ∧ t.dev.lport.args[(1 : Fin 6)] = s.dev.config.windows[w].base ∧
      t.dev.arg 2 = s.dev.config.windows[w].size ∧ t.dev.arg 3 = s.dev.config.windows[w].mask.toNat ∧
      t.dev.argByte 4 0 = s.dev.config.windows[w].enabled.toNat ∧
      t.dev.argByte 4 1 = s.dev.config.windows[w].mode.code ∧
      t.dev.argByte 4 2 = s.dev.config.windows[w].pinned.toNat ∧ t.dev.argByte 4 3 = 0 ∧ t.dev.arg 5 = 0) ∧
  (∀ (s : State) (e : EventNo), s.dev.arg 0 = e.val →
    ∃ t, exec .readSignal s = .next t ∧
      t = { s with dev := Device.answer { s.dev with lport := { s.dev.lport with args := t.dev.lport.args } } 18 .ok } ∧
      t.dev.arg 0 = e.val ∧ t.dev.arg 1 = s.dev.config.signals[e].action.code ∧
      t.dev.arg 2 = s.dev.config.signals[e].channel.val ∧ t.dev.arg 3 = s.dev.config.signals[e].mask.toNat ∧
      t.dev.arg 4 = 0 ∧ t.dev.arg 5 = 0) ∧
  (∀ s : State, 15 < s.dev.arg 0 → exec .readWindow s = s.next (s.dev.answer 17 .badArgument)) ∧
  (∀ s : State, 31 < s.dev.arg 0 → exec .readSignal s = s.next (s.dev.answer 18 .badArgument)) ∧
  (∀ s t u : State, s.dev.control.state = .config → s.dev.config.legal → s.dev.arg 0 ≤ 15 →
    exec .readWindow s = .next t → exec .setWindow t = .next u →
    u.dev.config = s.dev.config ∧ u.dev.lport.result = .ok) ∧
  ∀ s t u : State, s.dev.control.state = .config → s.dev.arg 0 ≤ 31 →
    exec .readSignal s = .next t → exec .setSignal t = .next u →
    u.dev.config = s.dev.config ∧ u.dev.lport.result = .ok

/-- R177: READ_CHANNEL copies the state of a channel into ARG0 to ARG5, in every station state. A refused command's COMMAND
is the model's (log 16), and so is that bits of ARG0 and ARG4 without a field are written as 0 (log 27). -/
def Obligations.ReadChannelCopiesTheChannel : Prop :=
  (∀ (s : State) (c : ChannelNo), s.dev.arg 0 = c.val → s.dev.channels[c].countersOk →
    s.dev.channels[c].rangesOk →
    ∃ t, exec .readChannel s = .next t ∧
      t = { s with dev := Device.answer { s.dev with lport := { s.dev.lport with args := t.dev.lport.args } } 15 .ok } ∧
      t.dev.argByte 0 0 = s.dev.channels[c].state.code ∧ t.dev.argByte 0 1 = s.dev.channels[c].generation.val ∧
      t.dev.argByte 0 2 = s.dev.channels[c].latch.toNat + 2 * s.dev.channels[c].active.isSome.toNat +
        4 * s.dev.channels[c].standby.isSome.toNat ∧
      t.dev.argByte 0 3 = s.dev.channels[c].retry + 16 * s.dev.channels[c].sends ∧
      t.dev.arg 1 = s.dev.channels[c].next ∧ t.dev.arg 2 = s.dev.channels[c].accepted ∧
      t.dev.arg 3 = s.dev.channels[c].limit ∧
      t.dev.argByte 4 0 = (match s.dev.channels[c].last.outcome with | some o => o.code | none => 0) ∧
      t.dev.argByte 4 1 = (match s.dev.channels[c].last.reason with | some r => r.code | none => 0) ∧
      t.dev.argByte 4 2 = s.dev.channels[c].last.generation.val ∧ t.dev.argByte 4 3 = 0 ∧
      t.dev.arg 5 = s.dev.channels[c].last.bytes) ∧
  ∀ s : State, 7 < s.dev.arg 0 → exec .readChannel s = s.next (s.dev.answer 15 .badArgument)

/-- R178: READ_LANDINGS copies the counts of the collections, the pool and the queues, in every station state. -/
def Obligations.ReadLandingsCopiesTheCounts : Prop :=
  ∀ s : State, s.dev.admission.bounded → s.dev.holding + s.dev.admission.reserved ≤ 32 → s.dev.span.queuesOk →
    ∃ t, exec .readLandings s = .next t ∧
      t = { s with dev := Device.answer { s.dev with lport := { s.dev.lport with args := t.dev.lport.args } } 16 .ok } ∧
      t.dev.argByte 0 0 = (s.dev.admission.landings.filter fun l => l.phase = .active).length ∧
      t.dev.argByte 0 1 = (s.dev.admission.landings.filter fun l => l.phase = .settling).length ∧
      t.dev.argByte 0 2 = s.dev.admission.suspended.length ∧ t.dev.argByte 0 3 = s.dev.admission.waiting.length ∧
      t.dev.argByte 1 0 = s.dev.admission.recent.length ∧ t.dev.argByte 1 1 = s.dev.port.writes.length ∧
      t.dev.argByte 1 2 = s.dev.admission.reserved ∧
      t.dev.argByte 1 1 + t.dev.argByte 1 2 + t.dev.argByte 1 3 = 32 ∧
      t.dev.argByte 2 0 = s.dev.span.signalCount ∧ t.dev.argByte 2 1 = s.dev.span.slotCount ∧
      t.dev.argByte 2 2 = s.dev.span.replies.length ∧ t.dev.argByte 2 3 = 0 ∧
      t.dev.arg 3 = 0 ∧ t.dev.arg 4 = 0 ∧ t.dev.arg 5 = 0

/-- R180: a notice is posted at the tail, or dropped with LOSS when 32 wait. R181: TAKE. R185: the notice line.
The words of a HALT_CHANGE follow R183 (log 7), and the COMMAND of a TAKE that finds no notice is the model's (log 16). -/
def Obligations.NoticesArePostedAndTaken : Prop :=
  (∀ (p : LocalPort) (n : Notice), p.queue.length < 32 → p.post n = { p with queue := p.queue ++ [n] }) ∧
  (∀ (p : LocalPort) (n : Notice), 32 ≤ p.queue.length → p.post n = { p with loss := true }) ∧
  (∀ (s : State) (n : Notice) (rest : List Notice), s.dev.lport.queue = n :: rest →
    let d := Device.answer { s.dev with lport := { s.dev.lport with queue := rest, notice := n.words } } 19 .ok
    exec .take s = s.next d ∧ (rest = [] → s.dev.lport.loss = false → d.noticeLine = false)) ∧
  (∀ s : State, s.dev.lport.queue = [] → exec .take s = s.next (s.dev.answer 19 .empty)) ∧
  ∀ d : Device, d.noticeLine = true ↔ d.lport.enable = true ∧ (d.lport.queue ≠ [] ∨ d.lport.loss = true)

/-- R182: the layout of the notice record. A field that is absent has its presence flag clear and reads as 0. R183 with R6,
R53 and R154: the fields each kind carries and their codes. R165 says of the cause of HALT_CHANGE that it stands "in its
reason field", where R182 and R183 put it in the outcome field and give the kind no reason: the model follows R183
(log 7). -/
def Obligations.NoticeRecordLayout : Prop :=
  (∀ (kind : Nat) (station channel window generation outcome reason bytes event : Option Nat) (argument : Nat),
    kind ≤ 10 → (∀ v ∈ station, v ≤ 7) → (∀ v ∈ channel, v ≤ 7) → (∀ v ∈ window, v ≤ 15) →
    (∀ v ∈ generation, v ≤ 15) → (∀ v ∈ outcome, v ≤ 10) → (∀ v ∈ reason, v ≤ 9) → (∀ v ∈ bytes, v ≤ 1048576) →
    (∀ v ∈ event, v ≤ 31) → argument ≤ 65535 →
    ∃ w0 w1 w2 w3 : Word,
      noticeWords kind station channel window generation outcome reason bytes event argument = #v[w0, w1, w2, w3] ∧
      w0.extractLsb' 0 4 = kind ∧ w0.extractLsb' 4 4 = 0#4 ∧
      w0.getLsbD 8 = station.isSome ∧ w0.getLsbD 9 = channel.isSome ∧ w0.getLsbD 10 = window.isSome ∧
      w0.getLsbD 11 = generation.isSome ∧ w0.getLsbD 12 = outcome.isSome ∧ w0.getLsbD 13 = reason.isSome ∧
      w0.getLsbD 14 = bytes.isSome ∧ w0.getLsbD 15 = event.isSome ∧
      (w0.extractLsb' 16 4).toNat = station.getD 0 ∧ (w0.extractLsb' 20 4).toNat = channel.getD 0 ∧
      (w0.extractLsb' 24 4).toNat = window.getD 0 ∧ (w0.extractLsb' 28 4).toNat = generation.getD 0 ∧
      (w1.extractLsb' 0 8).toNat = outcome.getD 0 ∧ (w1.extractLsb' 8 8).toNat = reason.getD 0 ∧
      (w1.extractLsb' 16 5).toNat = event.getD 0 ∧ w1.extractLsb' 21 11 = 0#11 ∧
      w2.toNat = bytes.getD 0 ∧ w3.toNat = argument) ∧
  (let refuseCode : RefuseReason → Nat := fun
     | .noWindow => 1 | .access => 2 | .range => 3 | .busy => 4 | .expired => 5 | .unknown => 6 | .fault => 7
     | .timeout => 8 | .leaving => 9
   let withdrawCode : WithdrawReason → Nat := fun
     | .aborted => 1 | .noReply => 2 | .queueExpired => 3 | .pauseExpired => 4 | .stale => 5 | .fault => 6
     | .leaving => 7
   let outcomeCode : TransferOutcome → Nat := fun
     | .done => 1 | .refused => 2 | .noReply => 3 | .queueExpired => 4 | .pauseExpired => 5 | .fault => 6
     | .aborted => 7 | .peerLeft => 8 | .peerRestart => 9 | .left => 10
   let endingCode : Ending → Nat := fun
     | .landed => 1 | .superseded => 2 | .withdrawn _ => 3 | .busy => 4 | .expired => 5 | .timeout => 6 | .fault => 7
     | .leaving => 8 | .peerLeft => 9 | .peerRestart => 10
   let endingReason : Ending → Option Nat := fun
     | .withdrawn r => some (withdrawCode r)
     | _ => none
   (∀ c t w g o b,
      (Notice.channelEnded c t w g o none b).words =
        noticeWords 1 (some t.val) (some c.val) (some w.val) (some g.val) (some (outcomeCode o)) none (some b) none 0 ∧
      (∀ r, (Notice.channelEnded c t w g o (some (.refuse r)) b).words =
        noticeWords 1 (some t.val) (some c.val) (some w.val) (some g.val) (some (outcomeCode o)) (some (refuseCode r))
          (some b) none 0) ∧
      ∀ r, (Notice.channelEnded c t w g o (some (.withdraw r)) b).words =
        noticeWords 1 (some t.val) (some c.val) (some w.val) (some g.val) (some (outcomeCode o))
          (some (withdrawCode r)) (some b) none 0) ∧
   (∀ c : ChannelNo,
      (Notice.startMissed c .line).words = noticeWords 2 none (some c.val) none none (some 1) none none none 0 ∧
      (∀ e x, (Notice.startMissed c (.signal e x)).words =
        noticeWords 2 (some x.val) (some c.val) none none (some 2) none none (some e.val) 0) ∧
      (Notice.startMissed c .latch).words = noticeWords 2 none (some c.val) none none (some 3) none none none 0) ∧
   (∀ (k : Key) w g e b, (Notice.landingEnded k w g e b).words =
      noticeWords 3 (some k.source.val) (some k.channel.val) (some w.val) (some g.val) (some (endingCode e))
        (endingReason e) (some b) none 0) ∧
   (∀ (k : Key) w g b,
      (Notice.landingSuspended k w g b).words =
        noticeWords 4 (some k.source.val) (some k.channel.val) (some w.val) (some g.val) none none (some b) none 0 ∧
      (Notice.landingResumed k w g b).words =
        noticeWords 5 (some k.source.val) (some k.channel.val) (some w.val) (some g.val) none none (some b) none 0) ∧
   (∀ x e arg,
      (Notice.signal x .frame e arg).words =
        noticeWords 6 (some x.val) none none none none none none (some e.val) arg.toNat ∧
      (∀ c w g, (Notice.signal x (.landing c w g) e arg).words =
        noticeWords 6 (some x.val) (some c.val) (some w.val) (some g.val) none none none (some e.val) arg.toNat) ∧
      ∀ c g, (Notice.signal x (.done c g) e arg).words =
        noticeWords 6 (some x.val) (some c.val) none (some g.val) none none none (some e.val) arg.toNat) ∧
   (∀ x change, (Notice.peerChange x change).words =
      noticeWords 7 (some x.val) none none none
        (some (match change with | .joined => 1 | .restart => 2 | .left => 3)) none none none 0) ∧
   (∀ x cause, (Notice.haltChange x cause).words =
      noticeWords 8 (some x.val) none none none
        (some (match cause with
          | .halt => 1 | .hold => 2 | .resume => 3 | .release => 4 | .lapse => 5 | .teardown => 6 | .leaving => 7))
        none none none 0) ∧
   ∀ x, (Notice.leftSpan x).words = noticeWords 9 (some x.val) none none none none none none none 0 ∧
      (Notice.stationConflict x).words = noticeWords 10 (some x.val) none none none none none none none 0)

/-- R176: CLEAR_FLAGS clears the three flags together, and with an empty queue the notice line falls.
In LEAVING it is refused, and that COMMAND takes its number there is the model's (log 16). -/
def Obligations.ClearFlagsClearsTheThree : Prop :=
  (∀ s : State, s.dev.control.state ≠ .leaving →
    let d := Device.answer
      { s.dev with span := { s.dev.span with idConflict := false, laneMismatch := false },
                   lport := { s.dev.lport with loss := false } } 20 .ok
    exec .clearFlags s = s.next d ∧ (s.dev.lport.queue = [] → d.noticeLine = false)) ∧
  ∀ s : State, s.dev.control.state = .leaving → exec .clearFlags s = s.next (s.dev.answer 20 .state)

/-- R171, R173, R185: a write to COMMAND executes the command of R173's table whose number it carries; the writes that are
no command: an unknown number, CONTROL, and every other word; a write narrower than a word has its other bytes zero
(log 16 for a refused command's COMMAND). R171, R172: what each word reads; that bits 31–8 of RESULT read as 0 is the model's
(log 26). -/
def Obligations.RegisterWindowReadsAndWrites : Prop :=
  (∀ p ∈ ([(1, .setWindow), (2, .setSignal), (3, .setLine), (4, .setTimers), (5, .join), (6, .leave),
      (7, .resetStation), (8, .load), (9, .start), (10, .stop), (11, .clear), (12, .signal), (13, .haltAssert),
      (14, .haltRelease), (15, .readChannel), (16, .readLandings), (17, .readWindow), (18, .readSignal), (19, .take),
      (20, .clearFlags)] : List (Nat × Instr)),
    ∀ (s : State) (w : WordWrite), w.commandNumber = p.1 →
      exec (.registerWrite 0 w) s = exec p.2 s ∧ exec (.unknownCommand w) s = exec p.2 s) ∧
  (∀ (s : State) (w : WordWrite), w.commandNumber = 0 ∨ 20 < w.commandNumber →
    exec (.unknownCommand w) s = s.next (s.dev.answer w.commandNumber .badArgument) ∧
    exec (.registerWrite 0 w) s = s.next (s.dev.answer w.commandNumber .badArgument)) ∧
  (∀ (s : State) (w : WordWrite), exec (.registerWrite 13 w) s = exec (.controlWrite w) s) ∧
  (∀ (s : State) (w : WordWrite),
    let d : Device := { s.dev with lport := { s.dev.lport with enable := w.lanes.getLsbD 0 && w.value.getLsbD 0 } }
    exec (.controlWrite w) s = s.next d ∧
    (d.noticeLine = true ↔ w.lanes.getLsbD 0 = true ∧ w.value.getLsbD 0 = true ∧
      (s.dev.lport.queue ≠ [] ∨ s.dev.lport.loss = true))) ∧
  (∀ (s : State) (i : Fin 6) (w : WordWrite),
    exec (.registerWrite (i.succ.castLE (by decide)) w) s = s.next ({ s.dev with
      lport := { s.dev.lport with args := s.dev.lport.args.set i w.effective } })) ∧
  (∀ (s : State) (word : Fin 16) (w : WordWrite), 7 ≤ word.val → word ≠ 13 →
    exec (.registerWrite word w) s = .next s) ∧
  (∀ (w : WordWrite) (k : Fin 4), w.effective.extractLsb' (8 * k.val) 8 =
    if w.lanes.getLsbD k.val then w.value.extractLsb' (8 * k.val) 8 else 0) ∧
  (∀ d : Device, d.lport.queue.length ≤ 32 →
    let w := d.readWord 8
    w.extractLsb' 0 2 = (match d.control.state with | .config => 0#2 | .joining => 1#2 | .joined => 2#2 | .leaving => 3#2) ∧
    w.getLsbD 2 = d.control.owed ∧ w.getLsbD 3 = d.halted ∧ w.getLsbD 4 = d.halt.holding ∧
    w.extractLsb' 5 3 = 0#3 ∧ (w.extractLsb' 8 6).toNat = d.lport.queue.length ∧ w.extractLsb' 14 2 = 0#2 ∧
    w.getLsbD 16 = d.lport.loss ∧ w.getLsbD 17 = d.span.idConflict ∧ w.getLsbD 18 = d.span.laneMismatch ∧
    w.extractLsb' 19 13 = 0#13) ∧
  ∀ d : Device, d.readWord 0 = d.lport.command.zeroExtend 32 ∧
    (∀ i : Fin 6, d.readWord (i.succ.castLE (by decide)) = d.lport.args[i]) ∧
    d.readWord 7 = (match d.lport.result with
      | .ok => 0 | .state => 1 | .busy => 2 | .full => 3 | .badArgument => 4 | .badDescriptor => 5 | .empty => 6) ∧
    (d.readWord 9 = d.lport.notice[(0 : Fin 4)] ∧ d.readWord 10 = d.lport.notice[(1 : Fin 4)] ∧
      d.readWord 11 = d.lport.notice[(2 : Fin 4)] ∧ d.readWord 12 = d.lport.notice[(3 : Fin 4)]) ∧
    d.readWord 13 = (if d.lport.enable then 1 else 0) ∧ (d.readWord 14).toNat = d.control.number.val ∧
    d.readWord 15 = 0

/-! ### Commands on the channels -/

/-- R42: the checks of LOAD in their order. R43: where the descriptor goes. A refused command's COMMAND is the model's
(log 16). -/
def Obligations.LoadStoresADescriptor : Prop :=
  (∀ (s : State) (c : ChannelNo) (a : Descriptor), s.dev.control.state ≠ .leaving → s.dev.arg 0 = c.val →
    s.dev.argByte 1 0 = a.target.val → a.target ≠ s.dev.control.number → s.dev.argByte 1 1 = a.window.val →
    s.dev.argByte 1 2 = a.level.val → a.chain = decide (s.dev.argByte 1 3 ≠ 0) →
    s.dev.arg 2 = a.offset → a.offset ≤ 16777215 → s.dev.lport.args[(3 : Fin 6)] = a.source →
    s.dev.arg 4 = a.length → 1 ≤ a.length → a.length ≤ 1048576 → a.source.toNat + a.length ≤ 4294967296 →
    (s.dev.argByte 5 0 ≤ 31 ∨ s.dev.argByte 5 0 = 255) → a.landingEvent = eventOf (s.dev.argByte 5 0) →
    (s.dev.argByte 5 1 ≤ 31 ∨ s.dev.argByte 5 1 = 255) → a.doneEvent = eventOf (s.dev.argByte 5 1) →
    (s.dev.channels[c].state = .empty ∨ s.dev.channels[c].state = .ready →
      let ch := { s.dev.channels[c] with active := some a, state := .ready }
      exec .load s = s.next (Device.answer { s.dev with channels := s.dev.channels.set c ch } 8 .ok)) ∧
    (s.dev.channels[c].state.inTransfer = true →
      let ch := { s.dev.channels[c] with standby := some a }
      exec .load s = s.next (Device.answer { s.dev with channels := s.dev.channels.set c ch } 8 .ok))) ∧
  (∀ s : State, s.dev.control.state ≠ .leaving → s.dev.arg 0 ≤ 7 →
    ¬(s.dev.argByte 1 0 ≤ 7 ∧ s.dev.argByte 1 0 ≠ s.dev.control.number.val ∧ s.dev.argByte 1 1 ≤ 15 ∧
      s.dev.argByte 1 2 ≤ 7 ∧ s.dev.arg 2 ≤ 16777215 ∧ 1 ≤ s.dev.arg 4 ∧ s.dev.arg 4 ≤ 1048576 ∧
      s.dev.arg 3 + s.dev.arg 4 ≤ 4294967296 ∧ (s.dev.argByte 5 0 ≤ 31 ∨ s.dev.argByte 5 0 = 255) ∧
      (s.dev.argByte 5 1 ≤ 31 ∨ s.dev.argByte 5 1 = 255)) →
    exec .load s = s.next (s.dev.answer 8 .badDescriptor)) ∧
  (∀ s : State, s.dev.control.state ≠ .leaving → 7 < s.dev.arg 0 →
    exec .load s = s.next (s.dev.answer 8 .badArgument)) ∧
  ∀ s : State, s.dev.control.state = .leaving → exec .load s = s.next (s.dev.answer 8 .state)

/-- R44: CLEAR. R46: STOP of a channel that is in no transfer. A refused command's COMMAND is the model's (log 16). -/
def Obligations.ClearAndStopAtRest : Prop :=
  (∀ (s : State) (c : ChannelNo), s.dev.control.state ≠ .leaving → s.dev.arg 0 = c.val →
    (s.dev.channels[c].state.inTransfer = false →
      let ch := { s.dev.channels[c] with active := none, standby := none, latch := false, state := .empty }
      exec .clear s = s.next (Device.answer { s.dev with channels := s.dev.channels.set c ch } 11 .ok)) ∧
    (s.dev.channels[c].state.inTransfer = true → exec .clear s = s.next (s.dev.answer 11 .busy)) ∧
    (s.dev.channels[c].state = .ready →
      let ch :=
        { s.dev.channels[c] with
          active := s.dev.channels[c].standby, standby := none, latch := false,
          state := if s.dev.channels[c].standby.isSome then .ready else .empty }
      exec .stop s = s.next (Device.answer { s.dev with channels := s.dev.channels.set c ch } 10 .ok)) ∧
    (s.dev.channels[c].state = .empty → exec .stop s = s.next (s.dev.answer 10 .ok))) ∧
  (∀ s : State, s.dev.control.state ≠ .leaving → 7 < s.dev.arg 0 →
    exec .clear s = s.next (s.dev.answer 11 .badArgument) ∧
    exec .stop s = s.next (s.dev.answer 10 .badArgument)) ∧
  ∀ s : State, s.dev.control.state = .leaving →
    exec .clear s = s.next (s.dev.answer 11 .state) ∧ exec .stop s = s.next (s.dev.answer 10 .state)

/-- R49, R50: START begins the transfer of a READY channel at a JOINED station, sets the latch where it cannot begin, and is
refused at an EMPTY channel. A transfer state in JOINING is the model's (log 17); a direct begin clears a latch that
is set (log 24), and so is a refused command's COMMAND (log 16). -/
def Obligations.StartActsByState : Prop :=
  (∀ (s : State) (c : ChannelNo), s.dev.leaveOk → s.dev.arg 0 = c.val →
    (∀ a, s.dev.control.state = .joined → s.dev.channels[c].state = .ready → s.dev.channels[c].active = some a →
      exec .start s = s.next (Device.answer (s.dev.begun c a).settle 9 .ok)) ∧
    (s.dev.control.state = .joined ∧ s.dev.channels[c].state.inTransfer = true ∨
        s.dev.control.state = .joining ∧ s.dev.channels[c].state ≠ .empty →
      exec .start s = s.next (Device.answer (s.dev.latched c).settle 9 .ok)) ∧
    (s.dev.control.state = .joined ∨ s.dev.control.state = .joining → s.dev.channels[c].state = .empty →
      exec .start s = s.next (s.dev.answer 9 .empty))) ∧
  ∀ s : State, s.dev.control.state = .joined ∨ s.dev.control.state = .joining → 7 < s.dev.arg 0 →
    exec .start s = s.next (s.dev.answer 9 .badArgument)

/-- R45: STOP ends a transfer ABORTED. R64, R106, R125: a matching REFUSE ends it REFUSED, any other is ignored. -/
def Obligations.StopAndRefuseEndTheTransfer : Prop :=
  (∀ (s : State) (c : ChannelNo) (a : Descriptor), s.dev.control.state ≠ .leaving → s.dev.arg 0 = c.val →
    s.dev.channels[c].state.inTransfer = true → s.dev.channels[c].active = some a →
    exec .stop s =
      s.next (Device.answer (s.dev.ended c a .aborted (some (.withdraw .aborted))).settle 10 .ok)) ∧
  (∀ (s : State) (x : Station) (c : ChannelNo) (g : Generation) (r : RefuseReason) (a : Descriptor),
    s.dev.hears x → s.dev.matched x c g a →
    exec (.refuseArrives x c g r) s = s.next (s.dev.ended c a .refused (some (.refuse r))).settle) ∧
  ∀ (s : State) (x : Station) (c : ChannelNo) (g : Generation) (r : RefuseReason),
    s.dev.hears x → s.dev.served → (∀ a, ¬s.dev.matched x c g a) → exec (.refuseArrives x c g r) s = .next s

/-- R149: the SIGNAL command. The choice of a free lane ends the event (log 6), and a refused command's COMMAND is the
model's (log 16). -/
def Obligations.SignalCommandQueuesAnEntry : Prop :=
  (∀ (s : State) (dest : Dest) (e : EventNo), s.dev.leaveOk → s.dev.control.state = .joined →
    (s.dev.arg 0 = 15 ∧ dest = .all ∨
      ∃ x : Station, s.dev.arg 0 = x.val ∧ x ≠ s.dev.control.number ∧ dest = .station x) →
    s.dev.arg 1 = e.val → s.dev.arg 2 ≤ 65535 →
    (s.dev.span.signalCount < 8 →
      exec .signal s = s.next (Device.answer (Device.settle
        { s.dev with span := { s.dev.span with
          initiation := s.dev.span.initiation ++ [.signal dest e (BitVec.ofNat 16 (s.dev.arg 2))] } }) 12 .ok)) ∧
    (8 ≤ s.dev.span.signalCount → exec .signal s = s.next (s.dev.answer 12 .full))) ∧
  (∀ s : State, s.dev.control.state = .joined →
    ¬((s.dev.arg 0 ≤ 7 ∨ s.dev.arg 0 = 15) ∧ s.dev.arg 0 ≠ s.dev.control.number.val ∧ s.dev.arg 1 ≤ 31 ∧
      s.dev.arg 2 ≤ 65535) →
    exec .signal s = s.next (s.dev.answer 12 .badArgument)) ∧
  ∀ s : State, s.dev.control.state ≠ .joined → exec .signal s = s.next (s.dev.answer 12 .state)

/-! ### Joining, leaving, resets and holding -/

/-- R22: the JOIN command; at an idle span the first JOIN takes the lane at once (R15). A refused command's COMMAND is
the model's (log 16). -/
def Obligations.JoinCommandBeginsJoining : Prop :=
  (∀ s : State, s.dev.leaveOk → s.dev.control.state = .config →
    exec .join s = s.next (Device.answer (Device.settle
      { s.dev with
        control := { s.dev.control with state := .joining, joinCount := 0 }
        span := { s.dev.span with joinDue := true } }) 5 .ok)) ∧
  (∀ s : State, s.dev.leaveOk → s.dev.control.state = .config → s.dev.span.isIdle →
    ∃ t, exec .join s = .next t ∧ t.dev.control.state = .joining ∧ t.dev.control.joinCount = 0 ∧
      t.dev.span = { s.dev.span with lane := some { source := s.dev.control.number, dest := .all, body := .join } }) ∧
  ∀ s : State, s.dev.control.state ≠ .config → exec .join s = s.next (s.dev.answer 5 .state)

/-- R25, R26: the LEAVE command ends the station's work. -/
def Obligations.LeaveCommandEndsTheWork : Prop :=
  ∀ s : State, s.dev.haltOk → s.dev.joinOk → s.dev.poolOk →
    s.dev.control.state = .joining ∨ s.dev.control.state = .joined →
    exec .leave s = s.next (Device.answer s.dev.departed.settle 6 .ok) ∧
    s.dev.departed.control.state = .leaving ∧ s.dev.departed.admission.isClear ∧
    s.dev.departed.halt.request = false ∧ s.dev.departed.halt.holding = false ∧
    (s.dev.channelsOk → ∀ c : ChannelNo, s.dev.departed.channels[c].state.inTransfer = false ∧
      (s.dev.channels[c].state ≠ .empty → s.dev.departed.channels[c].latch = false))

/-- R18, R35, R36: RESET_STATION in each station state. -/
def Obligations.ResetStationByState : Prop :=
  (∀ s : State, s.dev.control.state = .config →
    ∃ t, exec .resetStation s = .next t ∧ t.pending = s.pending ∧ t.dev.isSoftReset s.dev) ∧
  (∀ s : State, s.dev.haltOk → s.dev.joinOk → s.dev.control.state = .joining ∨ s.dev.control.state = .joined →
    let cleared : Device :=
      { s.dev with
        control := { s.dev.control with state := .leaving, owed := true, spacing := none }
        span := { s.dev.span with replies := [], initiation := [], joinDue := false, haltDue := false,
                                  resumeDue := false, leaveDue := true }
        halt := { s.dev.halt with request := false } }
    exec .resetStation s = s.next (Device.answer
      (if s.dev.halt.holding then cleared.holdEnded .leaving else cleared).settle 7 .ok)) ∧
  (∀ s : State, s.dev.control.state = .leaving → s.dev.control.owed = false → s.dev.span.leaveOnLane = false →
    exec .resetStation s = s.next (Device.answer (Device.settle
      { s.dev with
        control := { s.dev.control with owed := true }
        span := { s.dev.span with replies := [], initiation := [], joinDue := false, haltDue := false,
                                  resumeDue := false, leaveDue := true } }) 7 .ok)) ∧
  (∀ s : State, s.dev.served → s.dev.control.state = .leaving → s.dev.control.owed = false →
    s.dev.span.leaveOnLane = true →
    exec .resetStation s = s.next (Device.answer
      { s.dev with control := { s.dev.control with owed := true } } 7 .ok)) ∧
  ∀ s : State, s.dev.served → s.dev.control.state = .leaving → s.dev.control.owed = true →
    exec .resetStation s = s.next (s.dev.answer 7 .ok)

/-- R161 to R163: holding begins with the first request that stands at a JOINED station and ends with the last.
A refused command's COMMAND is the model's (log 16). -/
def Obligations.HoldingFollowsTheRequests : Prop :=
  (∀ s : State, s.dev.haltOk → s.dev.control.state = .joined →
    let d : Device := { s.dev with halt := { s.dev.halt with request := true } }
    exec .haltAssert s = s.next (Device.answer (if s.dev.halt.holding then d else d.holdBegun).settle 13 .ok)) ∧
  (∀ s : State, s.dev.haltOk → s.dev.control.state = .joined →
    let d : Device := { s.dev with halt := { s.dev.halt with request := false } }
    exec .haltRelease s = s.next (Device.answer
      (if s.dev.halt.holding = true ∧ s.dev.halt.line = false then d.holdEnded .release else d).settle 14 .ok)) ∧
  (∀ (s : State) (level : Bool), s.dev.haltOk → s.dev.control.state = .joined →
    let d : Device := { s.dev with halt := { s.dev.halt with line := level } }
    (level = true → s.dev.halt.holding = false → exec (.haltLineChange level) s = s.next d.holdBegun.settle) ∧
    (level = false → s.dev.halt.holding = true → s.dev.halt.request = false →
      exec (.haltLineChange level) s = s.next (d.holdEnded .release).settle) ∧
    (level = true ∧ s.dev.halt.holding = true ∨
        level = false ∧ (s.dev.halt.holding = false ∨ s.dev.halt.request = true) →
      exec (.haltLineChange level) s = s.next d.settle)) ∧
  (∀ (s : State) (level : Bool), s.dev.haltOk → s.dev.control.state ≠ .joined →
    exec (.haltLineChange level) s =
      s.next (Device.settle { s.dev with halt := { s.dev.halt with line := level } })) ∧
  ∀ s : State, s.dev.control.state ≠ .joined →
    exec .haltAssert s = s.next (s.dev.answer 13 .state) ∧ exec .haltRelease s = s.next (s.dev.answer 14 .state)

/-- R48, R49: an edge makes a start at every channel bound to the line, in order of channel number. -/
def Obligations.TriggerEdgeStartsBoundChannels : Prop :=
  (∀ (s : State) (line : LineNo), s.dev.leaveOk →
    exec (.triggerEdge line) s = s.next (Device.settle
      (eight.foldl (fun d c => if s.dev.config.lines[c] = some line then d.startedBy c .line else d) s.dev))) ∧
  ∀ (s : State) (line : LineNo), s.dev.served → (∀ c : ChannelNo, s.dev.config.lines[c] ≠ some line) →
    s.dev.control.state ≠ .leaving → exec (.triggerEdge line) s = .next s

/-! ### Frames that arrive -/

/-- R8 to R11: an arriving frame that is not delivered leaves ID_CONFLICT or LANE_MISMATCH, or nothing. -/
def Obligations.DiscardedFramesLeaveOnlyFlags : Prop :=
  ∀ (s : State) (f : ArrivingFrame),
    let kind := (f.bytes.getD 0 0).toNat / 16
    let source := (f.bytes.getD 0 0).toNat % 8
    let target := (f.bytes.getD 1 0).toNat / 16
    let taken : Prop :=
      (s.dev.control.state = .joining ∨ s.dev.control.state = .joined) ∧ s.dev.control.owed = false ∧ f.early = false
    let sound : Prop :=
      crcPasses f.bytes = true ∧ f.fieldsInRange = true ∧
      ((kind, f.bytes.length) ∈
          [(1, 13), (2, 5), (3, 9), (4, 6), (6, 10), (7, 7), (8, 6), (9, 7), (10, 4), (11, 4), (12, 4), (13, 4)] ∨
        kind = 5 ∧ 8 ≤ f.bytes.length ∧ f.bytes.length ≤ 71)
    let suited : Prop :=
      kind ≤ 8 ∧ target = s.dev.control.number.val ∨
      kind = 9 ∧ (target = s.dev.control.number.val ∨ target = 15) ∨ 10 ≤ kind ∧ target = 15
    (¬(taken ∧ sound) → exec (.frameDiscard f) s = .next s) ∧
    (taken → sound → source = s.dev.control.number.val → s.dev.span.idConflict = false →
      exec (.frameDiscard f) s = s.next
        { s.dev with
          span := { s.dev.span with idConflict := true }
          lport := s.dev.lport.post (.stationConflict f.port) }) ∧
    (taken → sound → source = s.dev.control.number.val → s.dev.span.idConflict = true →
      exec (.frameDiscard f) s = .next s) ∧
    (taken → sound → source ≠ s.dev.control.number.val → source ≠ f.port.val →
      exec (.frameDiscard f) s = s.next { s.dev with span := { s.dev.span with laneMismatch := true } }) ∧
    (taken → sound → source ≠ s.dev.control.number.val → source = f.port.val → ¬suited →
      exec (.frameDiscard f) s = .next s)

/-- R3, R4: the header and the length of a frame, as a receiver reads them. R7: the CRC of a frame followed by its CRC
leaves no remainder, so every receiver passes what the sender computed. -/
def Obligations.FrameHeaderLengthAndCrc : Prop :=
  (∀ (f : Frame) (rest : List Byte),
    headerKind (f.header ++ rest) = f.body.kindCode ∧ headerSource (f.header ++ rest) = f.source.val ∧
    headerTarget (f.header ++ rest) = (match f.dest with | .station x => x.val | .all => 15) ∧
    (f.header.getD 0 0).getLsbD 3 = false ∧ (f.header.getD 1 0).extractLsb' 0 4 = 0#4 ∧
    (∀ c g, f.body.transfer = some (c, g) → f.header.length = 3 ∧
      ((f.header.getD 2 0).extractLsb' 4 4).toNat = c.val ∧ ((f.header.getD 2 0).extractLsb' 0 4).toNat = g.val) ∧
    (f.body.transfer = none → f.header.length = 2)) ∧
  (∀ f : Frame,
    (∀ c g number payload, f.body = .block c g number payload → 1 ≤ payload.length ∧ payload.length ≤ 64) →
    lengthSuits f.body.kindCode f.length = true) ∧
  (∀ bytes : List Byte, crcPasses (bytes ++ crcBytes bytes) = true) ∧
  (∀ bytes : List Byte, crc16 (bytes ++ crcBytes bytes) = 0) ∧
  crc16 [0x31, 0x32, 0x33, 0x34, 0x35, 0x36, 0x37, 0x38, 0x39] = 0x29b1

/-- R8, R9, R10, R30: a delivered frame is taken on the span alone; a field out of range discards it; the own number raises
ID_CONFLICT (with the port taken as the source, log 5); its source becomes PRESENT before its owner handles it. -/
def Obligations.FramesAreTakenOnTheSpanAlone : Prop :=
  ∀ (c : Instr) (x : Station) (s : State), frameFrom c = some x →
    (s.dev.control.state = .config ∨ s.dev.control.state = .leaving ∨ s.dev.control.owed = true ∨
        c.wellFormed = false → exec c s = .next s) ∧
    (s.dev.control.state = .joining ∨ s.dev.control.state = .joined → s.dev.control.owed = false →
      c.wellFormed = true → x = s.dev.control.number →
      exec c s = s.next
        { s.dev with
          span := { s.dev.span with idConflict := true }
          lport := if s.dev.span.idConflict then s.dev.lport else s.dev.lport.post (.stationConflict x) }) ∧
    (s.dev.control.state = .joining ∨ s.dev.control.state = .joined → s.dev.control.owed = false →
      c.wellFormed = true → x ≠ s.dev.control.number → s.dev.control.peers[x].presence = .absent →
      c ≠ .joinArrives x → c ≠ .leaveArrives x → exec c s = exec c { s with dev := s.dev.noted x })

/-! ### The target: offers -/

/-- R72 to R75: an offer of a new key is refused for its window's sake, or admitted with its first credit. -/
def Obligations.OffersAreJudgedAndAdmitted : Prop :=
  ∀ (s : State) (x : Station) (c : ChannelNo) (g : Generation) (f : OfferFields),
    s.dev.hears x → f.inRange = true → s.dev.admission.lacks { source := x, channel := c } →
    let key : Key := { source := x, channel := c }
    let w := s.dev.config.windows[f.window]
    let recent := s.dev.admission.recent.filter fun r => decide (r.key ≠ key)
    let refused (r : RefuseReason) : Device :=
      { s.dev with
        admission := { s.dev.admission with recent := recent }
        span := { s.dev.span with
          replies := placeReply s.dev.span.replies { key := key, generation := g, kind := .refuse r } } }
    (w.enabled = false → exec (.offerArrives x c g f) s = s.next (refused .noWindow).settle) ∧
    (w.enabled = true → w.mask.getLsbD x.val = false →
      exec (.offerArrives x c g f) s = s.next (refused .access).settle) ∧
    (w.enabled = true → w.mask.getLsbD x.val = true → w.size < f.offset + f.length →
      exec (.offerArrives x c g f) s = s.next (refused .range).settle) ∧
    (w.enabled = true → w.mask.getLsbD x.val = true → f.offset + f.length ≤ w.size →
      s.dev.admission.landings.length < 8 →
      (w.mode = .exclusive → ∀ l ∈ s.dev.admission.landings, l.offer.fields.window ≠ f.window) →
      0 < s.dev.free →
      let r := min (min s.dev.config.credit ((f.length + 63) / 64)) s.dev.free
      exec (.offerArrives x c g f) s = s.next (Device.settle
        { s.dev with
          admission := { s.dev.admission with
            recent := recent
            landings := s.dev.admission.landings ++
              [{ offer := { key := key, generation := g, fields := f }, accepted := 0, written := 0, limit := r,
                 phase := .active, timer := some s.dev.config.tLand }] }
          span := { s.dev.span with
            replies := placeReply s.dev.span.replies { key := key, generation := g, kind := .grant 0 r } } }))

/-- R76, R77: an offer that is judged good and neither admitted nor lets a landing be suspended waits behind the entries
of its level, evicts the tail of a full list, or is turned away BUSY. -/
def Obligations.OffersWaitOrAreTurnedAway : Prop :=
  ∀ (s : State) (x : Station) (c : ChannelNo) (g : Generation) (f : OfferFields),
    s.dev.hears x → f.inRange = true → s.dev.admission.lacks { source := x, channel := c } →
    let key : Key := { source := x, channel := c }
    let o : Offer := { key := key, generation := g, fields := f }
    s.dev.judge o = none → s.dev.canAdmit f.window = false → s.dev.victim o = none →
    let recent := s.dev.admission.recent.filter fun r => decide (r.key ≠ key)
    let entry : PendingEntry := { offer := o, lifetime := some s.dev.config.tQueue }
    let behind (l : List PendingEntry) : List PendingEntry :=
      l.takeWhile (fun e => decide (e.level ≤ f.level.val)) ++ entry ::
        l.dropWhile (fun e => decide (e.level ≤ f.level.val))
    let reply (k : ReplyKind) : Reply := { key := key, generation := g, kind := k }
    (s.dev.admission.waiting.length < 8 →
      exec (.offerArrives x c g f) s = s.next (Device.settle
        { s.dev with
          admission := { s.dev.admission with recent := recent, waiting := behind s.dev.admission.waiting }
          span := { s.dev.span with replies := placeReply s.dev.span.replies (reply .wait) } })) ∧
    (∀ (rest : List PendingEntry) (t : PendingEntry), s.dev.admission.waiting = rest ++ [t] → 7 ≤ rest.length →
      (f.level.val < t.level →
        exec (.offerArrives x c g f) s = s.next (Device.settle
          { s.dev with
            admission := { s.dev.admission with recent := recent, waiting := behind rest }
            span := { s.dev.span with
              replies := placeReply (placeReply s.dev.span.replies
                { key := t.offer.key, generation := t.offer.generation, kind := .refuse .busy }) (reply .wait) }
            lport := s.dev.lport.post
              (.landingEnded t.offer.key t.offer.fields.window t.offer.generation .busy 0) })) ∧
      (t.level ≤ f.level.val →
        exec (.offerArrives x c g f) s = s.next (Device.settle
          { s.dev with
            admission := { s.dev.admission with recent := recent }
            span := { s.dev.span with
              replies := placeReply s.dev.span.replies (reply (.refuse .busy)) } })))

/-- R70: a repeated offer is answered again and changes nothing else. R71: an offer of another generation supersedes the
record or entry of its key, is judged and placed as an offer of a new key is, and is answered under its own generation;
the run that every supersession calls for (DEDUCED, log 8) leaves no candidate that qualifies. -/
def Obligations.OffersOfAKnownKey : Prop :=
  ∀ (s : State) (x : Station) (c : ChannelNo) (g : Generation) (f : OfferFields),
    s.dev.hears x → f.inRange = true → s.dev.admission.keysOk →
    let key : Key := { source := x, channel := c }
    let o : Offer := { key := key, generation := g, fields := f }
    let answered (k : ReplyKind) : Device :=
      { s.dev with span := { s.dev.span with
          replies := placeReply s.dev.span.replies { key := key, generation := g, kind := k } } }
    let superseded (old : Offer) (bytes : Nat) : Prop :=
      ∃ e : Device, exec (.offerArrives x c g f) s = s.next e.settle ∧
        (∃ ns : List Notice, e.lport =
          ns.foldl LocalPort.post (s.dev.lport.post (.landingEnded key old.fields.window old.generation .superseded bytes))) ∧
        (∀ l ∈ e.admission.landings ++ e.admission.suspended, l.offer.key = key → l.offer.generation = g) ∧
        (∀ w ∈ e.admission.waiting, w.offer.key = key → w.offer.generation = g) ∧
        (∃ r ∈ e.span.replies, r.key = key ∧ r.generation = g) ∧
        s.dev.admission.keepsOthers e.admission key ∧
        e.port = s.dev.port.orphaned key ∧
        e.channels = s.dev.channels ∧ e.control = s.dev.control ∧ e.halt = s.dev.halt ∧
        e.admission.recent = s.dev.admission.recent ∧
        (s.dev.admission.bounded → e.noneWaits) ∧
        (∀ r, s.dev.judge o = some r → e.admission.lacks key) ∧
        (s.dev.judge o = none →
          (∃ l ∈ e.admission.landings, l.offer = o ∧ l.accepted = 0 ∧ l.written = 0 ∧ l.phase = .active ∧
            l.timer = some s.dev.config.tLand) ∨
          (∃ w ∈ e.admission.waiting, w.offer = o ∧ w.lifetime = some s.dev.config.tQueue) ∨
          8 ≤ s.dev.admission.waiting.length ∧ e.admission.lacks key)
    (∀ l ∈ s.dev.admission.landings ++ s.dev.admission.suspended, l.offer.key = key →
      (l.offer.generation = g → l.phase = .active →
        exec (.offerArrives x c g f) s = s.next (answered (.grant l.accepted l.limit)).settle) ∧
      (l.offer.generation = g → l.phase = .settling →
        exec (.offerArrives x c g f) s = s.next (answered (.receipt l.blocks l.blocks false)).settle) ∧
      (l.offer.generation = g → l.phase = .suspended →
        exec (.offerArrives x c g f) s = s.next (answered (.pause l.accepted)).settle) ∧
      (l.offer.generation ≠ g → s.dev.poolOk →
        superseded l.offer (min (64 * l.accepted) l.offer.fields.length))) ∧
    ∀ w ∈ s.dev.admission.waiting, w.offer.key = key →
      (w.offer.generation = g → exec (.offerArrives x c g f) s = s.next (answered .wait).settle) ∧
      (w.offer.generation ≠ g → s.dev.poolOk → superseded w.offer 0)

/-- R114 to R116: which landing an offer may suspend. At most one is named: the occupant of an EXCLUSIVE window, else, when
the table is full, the latest of the least urgent ACTIVE landings in windows that are not pinned. -/
def Obligations.VictimOfAnOffer : Prop :=
  ∀ (d : Device) (o : Offer) (l : Landing),
    let unpinned (m : Landing) : Prop :=
      m.phase = .active ∧ d.config.windows[m.offer.fields.window].pinned = false
    let occupies (m : Landing) : Prop :=
      d.config.windows[o.fields.window].mode = .exclusive ∧ m.offer.fields.window = o.fields.window
    d.victim o = some l ↔
      (unpinned l ∧ o.fields.level.val < l.level ∧ d.admission.suspended.length < 4) ∧
      ∃ before after, d.admission.landings = before ++ l :: after ∧
        (occupies l ∧ (∀ m ∈ before, ¬occupies m) ∨
          8 ≤ d.admission.landings.length ∧ (∀ m ∈ d.admission.landings, ¬occupies m) ∧
            (∀ m ∈ before, unpinned m → m.level ≤ l.level) ∧ ∀ m ∈ after, unpinned m → m.level < l.level)

/-- R117, R118: the victim of an offer joins the suspended list behind the records of its level, with a PAUSE that names
its accepted count; the offer is then admitted, waits, or is turned away. -/
def Obligations.PreemptionSuspendsTheVictim : Prop :=
  ∀ (s : State) (x : Station) (c : ChannelNo) (g : Generation) (f : OfferFields) (l : Landing),
    s.dev.hears x → f.inRange = true → s.dev.poolOk → s.dev.admission.bounded → s.dev.withinConfig →
    s.dev.admission.lacks { source := x, channel := c } →
    let key : Key := { source := x, channel := c }
    let o : Offer := { key := key, generation := g, fields := f }
    s.dev.judge o = none → s.dev.canAdmit f.window = false → s.dev.victim o = some l →
    ∃ e : Device, exec (.offerArrives x c g f) s = s.next e.settle ∧
      { l with limit := l.accepted, phase := .suspended, timer := none } ∈ e.admission.suspended ∧
      (∀ m ∈ e.admission.landings, m.offer.key ≠ l.offer.key) ∧
      ((∀ r ∈ s.dev.span.replies, r.key ≠ l.offer.key) →
        { key := l.offer.key, generation := l.offer.generation, kind := .pause l.accepted } ∈ e.span.replies) ∧
      (∃ ns : List Notice, e.lport = ns.foldl LocalPort.post
        (s.dev.lport.post (.landingSuspended l.offer.key l.offer.fields.window l.offer.generation
          (min (64 * l.accepted) l.offer.fields.length)))) ∧
      (let free := 32 - (s.dev.port.writes.length + (s.dev.admission.reserved - (l.limit - l.accepted)))
       (0 < free → (∀ r ∈ s.dev.span.replies, r.key ≠ key) →
         ∃ m ∈ e.admission.landings, m.offer = o ∧ m.accepted = 0 ∧ m.written = 0 ∧ m.phase = .active ∧
           m.limit = min (min s.dev.config.credit ((f.length + 63) / 64)) free ∧
           m.timer = some s.dev.config.tLand ∧
           { key := key, generation := g, kind := .grant 0 m.limit } ∈ e.span.replies) ∧
       (free = 0 → s.dev.admission.waiting.length < 8 →
         ∃ w ∈ e.admission.waiting, w.offer = o ∧ w.lifetime = some s.dev.config.tQueue)) ∧
      s.dev.admission.keepsOthers e.admission l.offer.key ∧ e.port = s.dev.port ∧ e.channels = s.dev.channels ∧
      e.control = s.dev.control ∧ e.halt = s.dev.halt

/-- R80, R81, R98: among the candidates that qualify the most urgent goes first, a suspended record before a pending entry
of its level, the earlier before the later; a resumed record is ACTIVE again from its accepted count. After the events
that call for a run no candidate qualifies and no landing could take a free buffer (R99); that a write error without a
record is such an event is DEDUCED (log 23). -/
def Obligations.RunsTakeTheFirstCandidate : Prop :=
  (∀ (d : Device) (l : Landing), d.bestCandidate = some (.resume l) →
    d.canAdmit l.offer.fields.window = true ∧
    (∃ before after, d.admission.suspended = before ++ l :: after ∧
      (∀ m ∈ before, d.canAdmit m.offer.fields.window = true → l.level < m.level) ∧
      ∀ m ∈ after, d.canAdmit m.offer.fields.window = true → l.level ≤ m.level) ∧
    ∀ e ∈ d.admission.waiting, d.canAdmit e.offer.fields.window = true → l.level ≤ e.level) ∧
  (∀ (d : Device) (e : PendingEntry), d.bestCandidate = some (.enter e) →
    d.canAdmit e.offer.fields.window = true ∧
    (∃ before after, d.admission.waiting = before ++ e :: after ∧
      (∀ m ∈ before, d.canAdmit m.offer.fields.window = true → e.level < m.level) ∧
      ∀ m ∈ after, d.canAdmit m.offer.fields.window = true → e.level ≤ m.level) ∧
    ∀ l ∈ d.admission.suspended, d.canAdmit l.offer.fields.window = true → e.level < l.level) ∧
  (∀ (d : Device) (l : Landing), d.control.owed = false →
    let r := min (min d.config.credit (l.blocks - l.accepted)) d.free
    let resumed : Landing :=
      { l with limit := l.accepted + r, phase := .active, timer := some d.config.tLand }
    d.resumeLanding l =
      { d with
        admission := { d.admission with
          suspended := d.admission.suspended.filter fun m => decide (m.offer.key ≠ l.offer.key)
          landings := d.admission.landings ++ [resumed] }
        span := { d.span with
          replies := placeReply d.span.replies
            { key := l.offer.key, generation := l.offer.generation, kind := .grant l.accepted (l.accepted + r) } }
        lport := d.lport.post (.landingResumed l.offer.key l.offer.fields.window l.offer.generation
          (min (64 * l.accepted) l.offer.fields.length)) }) ∧
  ∀ (c : Instr) (s t : State), s.dev.control.state = .joining ∨ s.dev.control.state = .joined →
    s.dev.poolOk → s.dev.admission.bounded → exec c s = .next t →
    c = .writeCompletion ∨ c = .writeError ∨ (∃ x ch, c = .landingTimerExpiry x ch) → t.dev.noneWaits

/-! ### The target: blocks, withdrawals and writes -/

/-- R94, R136, R139: a block in order is accepted into the write queue at the address of its place in the window. -/
def Obligations.BlocksInOrderAreAccepted : Prop :=
  ∀ (s : State) (x : Station) (c : ChannelNo) (g : Generation) (number : Nat) (payload : List Byte)
    (before after : List Landing) (l : Landing),
    s.dev.hears x → blockInRange number payload = true → s.dev.admission.keysOk →
    s.dev.admission.landings = before ++ l :: after → l.offer.key = { source := x, channel := c } →
    l.phase = .active → l.offer.generation = g → number = l.accepted → number < l.limit →
    payload.length = (if number + 1 = l.blocks then l.offer.fields.length - 64 * number else 64) →
    let taken : Landing :=
      { l with accepted := l.accepted + 1, timer := some s.dev.config.tLand,
               phase := if l.accepted + 1 = l.blocks then .settling else .active }
    exec (.blockArrives x c g number payload) s = s.next (Device.settle
      { s.dev with
        admission := { s.dev.admission with landings := before ++ taken :: after }
        port := { s.dev.port with
          writes := s.dev.port.writes ++
            [{ address := s.dev.config.windows[l.offer.fields.window].base.toNat + l.offer.fields.offset + 64 * number,
               payload := payload, owner := some l.offer.key }] } })

/-- R95: a block that is not accepted is discarded and draws the reply of its key's record. R96: every RECEIPT claimed for
an ACTIVE landing, here or elsewhere, is a GRANT while its GRANT waits. -/
def Obligations.OtherBlocksDrawTheirReply : Prop :=
  (∀ (d : Device) (l : Landing) (final : Bool), d.control.owed = false →
    let waits : Prop := ∃ r ∈ d.span.replies, r.key = l.offer.key ∧ r.generation = l.offer.generation ∧
      ∃ a b, r.kind = .grant a b
    let claimed (k : ReplyKind) : Device :=
      { d with span := { d.span with
          replies := placeReply d.span.replies { key := l.offer.key, generation := l.offer.generation, kind := k } } }
    (l.phase = .active → waits → d.claimReceipt l final = claimed (.grant l.accepted l.limit)) ∧
    (l.phase ≠ .active ∨ ¬waits → d.claimReceipt l final = claimed (.receipt l.accepted l.limit final))) ∧
  ∀ (s : State) (x : Station) (c : ChannelNo) (g : Generation) (number : Nat) (payload : List Byte),
    s.dev.hears x → blockInRange number payload = true → s.dev.admission.keysOk →
    let key : Key := { source := x, channel := c }
    let draws (k : ReplyKind) : Prop :=
      exec (.blockArrives x c g number payload) s = s.next (Device.settle
        { s.dev with span := { s.dev.span with
          replies := placeReply s.dev.span.replies { key := key, generation := g, kind := k } } })
    (∀ l ∈ s.dev.admission.landings ++ s.dev.admission.suspended, l.offer.key = key →
      (l.offer.generation ≠ g → draws (.refuse .unknown)) ∧
      (l.offer.generation = g → l.phase = .active → l ∈ s.dev.admission.landings →
        ¬(number = l.accepted ∧ number < l.limit ∧
          payload.length = (if number + 1 = l.blocks then l.offer.fields.length - 64 * number else 64)) →
        ((∃ r ∈ s.dev.span.replies, r.key = key ∧ r.generation = g ∧ ∃ a b, r.kind = .grant a b) →
          draws (.grant l.accepted l.limit)) ∧
        ((¬∃ r ∈ s.dev.span.replies, r.key = key ∧ r.generation = g ∧ ∃ a b, r.kind = .grant a b) →
          draws (.receipt l.accepted l.limit false))) ∧
      (l.offer.generation = g → l.phase = .settling → draws (.receipt l.blocks l.blocks false)) ∧
      (l.offer.generation = g → l.phase = .suspended → draws (.pause l.accepted))) ∧
    (∀ w ∈ s.dev.admission.waiting, w.offer.key = key →
      (w.offer.generation = g → draws .wait) ∧ (w.offer.generation ≠ g → draws (.refuse .unknown))) ∧
    (∀ r ∈ s.dev.admission.recent, r.key = key →
      (r.generation = g → draws (.receipt r.blocks r.blocks true)) ∧
      (r.generation ≠ g → draws (.refuse .unknown))) ∧
    (s.dev.admission.lacks key → (∀ r ∈ s.dev.admission.recent, r.key ≠ key) → draws (.refuse .unknown))

/-- R82: a matching WITHDRAW removes the record or entry, whose held blocks are still written; any other is ignored. -/
def Obligations.WithdrawRemovesTheRecord : Prop :=
  ∀ (s : State) (x : Station) (c : ChannelNo) (g : Generation) (reason : WithdrawReason),
    s.dev.hears x → s.dev.poolOk → s.dev.admission.bounded →
    let key : Key := { source := x, channel := c }
    let removed (o : Offer) (bytes : Nat) : Prop :=
      ∃ e : Device, exec (.withdrawArrives x c g reason) s = s.next e.settle ∧ e.admission.lacks key ∧
        (∃ ns : List Notice, e.lport = ns.foldl LocalPort.post
          (s.dev.lport.post (.landingEnded key o.fields.window g (.withdrawn reason) bytes))) ∧
        s.dev.admission.keepsOthers e.admission key ∧ e.admission.recent = s.dev.admission.recent ∧
        e.port = s.dev.port.orphaned key ∧
        e.noneWaits ∧ e.channels = s.dev.channels ∧ e.control = s.dev.control ∧ e.halt = s.dev.halt
    (∀ l ∈ s.dev.admission.landings ++ s.dev.admission.suspended, l.offer.key = key → l.offer.generation = g →
      removed l.offer (min (64 * l.accepted) l.offer.fields.length)) ∧
    (∀ w ∈ s.dev.admission.waiting, w.offer.key = key → w.offer.generation = g → removed w.offer 0) ∧
    ((∀ l ∈ s.dev.admission.landings ++ s.dev.admission.suspended, l.offer.key = key → l.offer.generation ≠ g) →
      (∀ w ∈ s.dev.admission.waiting, w.offer.key = key → w.offer.generation ≠ g) → s.dev.served →
      exec (.withdrawArrives x c g reason) s = .next s)

/-- R97, R98, R100, R101, R143: the completion of a write, while a soft reset is owed too (R112, R146), when its claims are
dropped (R18). That a write error without a record is followed by the run and sweep of a completion is DEDUCED (log 23). -/
def Obligations.WritesCompleteOrFail : Prop :=
  ∀ (s : State) (w : WriteEntry) (rest : List WriteEntry), s.dev.poolOk → s.dev.admission.bounded →
    s.dev.port.access = some .write → s.dev.port.writes = w :: rest →
    let frame (e : Device) : Prop :=
      e.control = s.dev.control ∧ e.config = s.dev.config ∧ e.halt = s.dev.halt ∧ e.port.access = none ∧
      (s.dev.control.owed = true → e.span.replies = s.dev.span.replies ∧
        (s.dev.leaveOk → e.span.initiation = s.dev.span.initiation))
    (w.owner = none →
      (∃ e : Device, exec .writeCompletion s = s.next e.settle ∧
        e.port = { s.dev.port with writes := rest, access := none } ∧ e.channels = s.dev.channels ∧ frame e ∧
        ∀ l ∈ s.dev.admission.landings ++ s.dev.admission.suspended,
          ∃ m ∈ e.admission.landings ++ e.admission.suspended,
            m.offer = l.offer ∧ m.accepted = l.accepted ∧ m.written = l.written) ∧
      exec .writeError s = exec .writeCompletion s) ∧
    ∀ l ∈ s.dev.admission.landings ++ s.dev.admission.suspended, w.owner = some l.offer.key →
      (l.written + 1 < l.blocks →
        ∃ e : Device, exec .writeCompletion s = s.next e.settle ∧
          e.port = { s.dev.port with writes := rest, access := none } ∧ e.channels = s.dev.channels ∧ frame e ∧
          e.admission.recent = s.dev.admission.recent ∧ s.dev.admission.keepsOthers e.admission l.offer.key ∧
          ∃ m ∈ e.admission.landings ++ e.admission.suspended,
            m.offer = l.offer ∧ m.accepted = l.accepted ∧ m.written = l.written + 1 ∧
            (l.phase = .active → l.limit < l.blocks → l.limit - l.accepted < s.dev.config.credit →
              l.limit + 1 ≤ m.limit) ∧
            (l.phase ≠ .suspended → m.phase = l.phase ∧
              (s.dev.control.owed = false → (∀ r ∈ s.dev.span.replies, r.key ≠ l.offer.key) →
                { key := l.offer.key, generation := l.offer.generation,
                  kind := .receipt m.accepted m.limit false } ∈ e.span.replies))) ∧
      (l.written + 1 = l.blocks →
        ∃ e : Device, exec .writeCompletion s = s.next e.settle ∧
          e.port.writes = rest ∧ frame e ∧ e.admission.lacks l.offer.key ∧
          { key := l.offer.key, generation := l.offer.generation, blocks := l.blocks } ∈ e.admission.recent ∧
          s.dev.admission.keepsOthers e.admission l.offer.key ∧
          (s.dev.control.owed = false → (∀ r ∈ s.dev.span.replies, r.key ≠ l.offer.key) →
            { key := l.offer.key, generation := l.offer.generation, kind := .receipt l.blocks l.blocks true } ∈
              e.span.replies) ∧
          ∃ ns : List Notice, e.lport = ns.foldl LocalPort.post s.dev.lport ∧
            .landingEnded l.offer.key l.offer.fields.window l.offer.generation .landed l.offer.fields.length ∈ ns) ∧
      ∃ e : Device, exec .writeError s = s.next e.settle ∧
        e.port = { s.dev.port with writes := rest.filter (fun v => decide (v.owner ≠ some l.offer.key)), access := none } ∧
        e.channels = s.dev.channels ∧ frame e ∧ e.admission.lacks l.offer.key ∧
        e.admission.recent = s.dev.admission.recent ∧ s.dev.admission.keepsOthers e.admission l.offer.key ∧
        (s.dev.control.owed = false → (∀ r ∈ s.dev.span.replies, r.key ≠ l.offer.key) →
          { key := l.offer.key, generation := l.offer.generation, kind := .refuse .fault } ∈ e.span.replies) ∧
        ∃ ns : List Notice, e.lport = ns.foldl LocalPort.post (s.dev.lport.post
          (.landingEnded l.offer.key l.offer.fields.window l.offer.generation .fault
            (min (64 * l.accepted) l.offer.fields.length)))

/-! ### The source: replies -/

/-- R60, R62, R63, R89, R127: a WAIT moves an OFFERING channel to QUEUED; a GRANT that fits moves an OFFERING, QUEUED or
PAUSED channel to STREAMING and requests the first reads. Which of the two empty fetch buffers takes which read is the
model's (log 15). -/
def Obligations.WaitsAndGrantsMoveTheChannel : Prop :=
  ∀ (s : State) (x : Station) (c : ChannelNo) (g : Generation), s.dev.hears x →
    let ch := s.dev.channels[c]
    let offerGone : SpanInterface :=
      { s.dev.span with initiation := changeSlot c dropOffer s.dev.span.initiation }
    (∀ a, s.dev.matched x c g a → ch.state = .offering →
      let queued := { ch with state := .queued, timer := some s.dev.config.tQueue }
      exec (.waitArrives x c g) s = s.next (Device.settle
        { s.dev with channels := s.dev.channels.set c queued, span := offerGone })) ∧
    (s.dev.served → (∀ a, s.dev.matched x c g a → ch.state ≠ .offering) → exec (.waitArrives x c g) s = .next s) ∧
    ∀ (a : Descriptor) (start limit : Nat), s.dev.matched x c g a → s.dev.fetchOk → grantInRange start limit = true →
      ch.state = .offering ∨ ch.state = .queued ∨ ch.state = .paused → start < limit → limit ≤ blockCount a.length →
      (ch.state = .paused → ch.accepted ≤ start) →
      let streaming :=
        { ch with
          state := .streaming, next := start, accepted := start, limit := limit, retry := 0,
          timer := some s.dev.config.tReply,
          buffers := #v[.fetching start, if start + 1 < limit then .fetching (start + 1) else .empty] }
      exec (.grantArrives x c g start limit) s = s.next (Device.settle
        { s.dev with
          channels := s.dev.channels.set c streaming
          span := offerGone
          port := { s.dev.port with
            reads := s.dev.port.reads ++ [a.request c 0 start] ++
              if start + 1 < limit then [a.request c 1 (start + 1)] else [] } })

/-- R66: a GRANT that cannot be taken is answered with WITHDRAW(STALE), not by a joining station; the channel keeps its
state. A GRANT of the current generation from a station other than the target is ignored. -/
def Obligations.StaleGrantsAreAnswered : Prop :=
  ∀ (s : State) (x : Station) (c : ChannelNo) (g : Generation) (start limit : Nat),
    s.dev.hears x → s.dev.served → grantInRange start limit = true →
    let ch := s.dev.channels[c]
    let stale : Withdrawal := { target := x, generation := g, reason := .stale }
    let noFit (a : Descriptor) : Prop :=
      limit ≤ start ∨ blockCount a.length < limit ∨ ch.state = .paused ∧ start < ch.accepted
    let cannot : Prop :=
      ch.generation ≠ g ∨ ch.state = .empty ∨ ch.state = .ready ∨
      ∃ a, s.dev.matched x c g a ∧ (ch.state = .streaming ∨ ch.state = .draining ∨ noFit a)
    (s.dev.control.state = .joined → ch.generation ≠ g →
      exec (.grantArrives x c g start limit) s = s.next (Device.settle { s.dev with
        span := { s.dev.span with initiation := placeEarlier c stale s.dev.span.initiation } })) ∧
    (s.dev.control.state = .joined → ch.generation = g → cannot →
      exec (.grantArrives x c g start limit) s = s.next (Device.settle { s.dev with
        span := { s.dev.span with initiation := placeCurrent c (.withdraw stale) s.dev.span.initiation } })) ∧
    (s.dev.control.state = .joining → cannot → exec (.grantArrives x c g start limit) s = .next s) ∧
    (ch.generation = g → ch.state.inTransfer = true → (∀ a, ¬s.dev.matched x c g a) →
      exec (.grantArrives x c g start limit) s = .next s)

/-- R103, R104, R125: a RECEIPT that matches and fits advances a STREAMING or DRAINING channel, which keeps the fetch buffers
of blocks it has still to send and requests the blocks it now wants; at a PAUSED channel it raises accepted alone; any
other is ignored. -/
def Obligations.ReceiptsAdvanceTheChannel : Prop :=
  ∀ (s : State) (x : Station) (c : ChannelNo) (g : Generation) (accepted limit : Nat) (final : Bool),
    s.dev.hears x → s.dev.channelsOk → receiptInRange accepted limit = true →
    let ch := s.dev.channels[c]
    let fits (a : Descriptor) : Prop :=
      accepted ≤ limit ∧ limit ≤ blockCount a.length ∧ (final = true → accepted = blockCount a.length)
    (∀ a, s.dev.matched x c g a → fits a → ch.state = .streaming ∨ ch.state = .draining → final = false →
      ∃ e : Device, exec (.receiptArrives x c g accepted limit final) s = s.next e.settle ∧
        e.channels[c] =
          { ch with
            accepted := max ch.accepted accepted, limit := max ch.limit limit,
            next := max ch.next (max ch.accepted accepted),
            retry := if ch.accepted < accepted ∨ ch.limit < limit then 0 else ch.retry,
            timer := some s.dev.config.tReply, buffers := e.channels[c].buffers,
            state := if max ch.next (max ch.accepted accepted) = blockCount a.length then .draining else .streaming } ∧
        (∀ b : ChannelNo, b ≠ c → e.channels[b] = s.dev.channels[b]) ∧
        (let next := max ch.next (max ch.accepted accepted)
         let kept (b : Fin 2) : Prop := ∃ n, ch.buffers[b].blockNo = some n ∧ (next ≤ n ∨ next = ch.next)
         ∀ b : Fin 2,
           (kept b → e.channels[c].buffers[b] = ch.buffers[b]) ∧
           (¬kept b → e.channels[c].buffers[b] = .empty ∨
             ∃ n, e.channels[c].buffers[b] = .fetching n ∧ (n = next ∨ n = next + 1) ∧ n < max ch.limit limit)) ∧
        e.port.writes = s.dev.port.writes ∧ e.span = s.dev.span ∧ e.control = s.dev.control ∧
        e.admission = s.dev.admission ∧ e.halt = s.dev.halt ∧ e.lport = s.dev.lport) ∧
    (∀ a, s.dev.matched x c g a → fits a → ch.state = .paused →
      let raised := { ch with accepted := max ch.accepted accepted }
      exec (.receiptArrives x c g accepted limit final) s =
        s.next (Device.settle { s.dev with channels := s.dev.channels.set c raised })) ∧
    (s.dev.served →
      (∀ a, s.dev.matched x c g a → fits a → ch.state = .offering ∨ ch.state = .queued) →
      exec (.receiptArrives x c g accepted limit final) s = .next s)

/-- R54, R55, R56, R105, R156: a final RECEIPT ends the transfer DONE: the record and CHANNEL_ENDED, the done event, the
promotion, and the begin that chain or the latch calls for. -/
def Obligations.FinalReceiptEndsDone : Prop :=
  ∀ (s : State) (x : Station) (c : ChannelNo) (g : Generation) (a : Descriptor),
    s.dev.hears x → s.dev.control.state = .joined → s.dev.channelsOk → s.dev.matched x c g a →
    s.dev.channels[c].state = .streaming ∨ s.dev.channels[c].state = .draining →
    let ch := s.dev.channels[c]
    let n := blockCount a.length
    let closed :=
      { ch with
        state := .draining, accepted := n, limit := n, next := n,
        retry := if ch.accepted < n ∨ ch.limit < n then 0 else ch.retry, timer := none,
        buffers := #v[.empty, .empty],
        last := { outcome := some .done, reason := none, generation := g, bytes := a.length } }
    let recorded : Device :=
      { s.dev with
        channels := s.dev.channels.set c closed
        span := { s.dev.span with initiation := changeSlot c dropOffer s.dev.span.initiation }
        port := s.dev.port.without c
        lport := s.dev.lport.post (.channelEnded c x a.window g .done none a.length) }
    let told : Device :=
      match a.doneEvent with
      | some e => recorded.signalled s.dev.control.number (.done c g) e 0
      | none => recorded
    let latch := told.channels[c].latch
    let emptied := { told.channels[c] with active := none, state := .empty, latch := false }
    let promoted (b : Descriptor) :=
      { told.channels[c] with active := some b, standby := none, state := .ready }
    (ch.standby = none →
      exec (.receiptArrives x c g n n true) s = s.next (Device.settle
        { told with
          channels := told.channels.set c emptied
          lport := if latch then told.lport.post (.startMissed c .latch) else told.lport })) ∧
    ∀ b, ch.standby = some b →
      let ready : Device := { told with channels := told.channels.set c (promoted b) }
      exec (.receiptArrives x c g n n true) s =
        s.next (if a.chain = true ∨ latch = true then ready.begun c b else ready).settle

/-- R124, R125: a PAUSE that fits sets a STREAMING or DRAINING channel aside; any other is ignored. -/
def Obligations.PausesSetTheChannelAside : Prop :=
  ∀ (s : State) (x : Station) (c : ChannelNo) (g : Generation) (block : Nat), s.dev.hears x → block ≤ 16383 →
    let ch := s.dev.channels[c]
    let fits (a : Descriptor) : Prop :=
      s.dev.matched x c g a ∧ (ch.state = .streaming ∨ ch.state = .draining) ∧ ch.accepted ≤ block ∧
      block ≤ ch.limit ∧ block < blockCount a.length
    (∀ a, fits a →
      let paused :=
        { ch with
          state := .paused, accepted := block, next := block, timer := some s.dev.config.tPause,
          buffers := #v[.empty, .empty] }
      exec (.pauseArrives x c g block) s = s.next (Device.settle
        { s.dev with channels := s.dev.channels.set c paused, port := s.dev.port.without c })) ∧
    (s.dev.served → (∀ a, ¬fits a) → exec (.pauseArrives x c g block) s = .next s)

/-! ### Signals, peers and the halt set -/

/-- R152, R153, R154: a SIGNAL frame whose event honours its source is applied, any other is discarded. -/
def Obligations.SignalFramesApplyTheirEntry : Prop :=
  ∀ (s : State) (x : Station) (e : EventNo) (argument : BitVec 16), s.dev.hears x →
    (s.dev.config.signals[e].mask.getLsbD x.val = true →
      exec (.signalArrives x e argument) s = s.next (s.dev.signalled x .frame e argument).settle) ∧
    (s.dev.config.signals[e].mask.getLsbD x.val = false → s.dev.served →
      exec (.signalArrives x e argument) s = .next s)

/-- R30 to R33, R17: a JOIN of an ABSENT peer, a repeated JOIN, a LEAVE of an ABSENT peer; the restart and the departure of
a PRESENT peer, with the teardown of what is shared with it and the run it calls for, which ends the event: its notices
follow the event's own, HALT_CHANGE among them (R79, log 9). -/
def Obligations.PeersJoinRestartAndLeave : Prop :=
  ∀ (s : State) (x : Station),
    s.dev.control.state = .joining ∨ s.dev.control.state = .joined → s.dev.control.owed = false →
    x ≠ s.dev.control.number →
    let entry (p : Presence) (t : Timer) : StationControl :=
      { s.dev.control with peers := s.dev.control.peers.set x { presence := p, window := t } }
    let torn (i : Instr) (change : PeerChange) (o : TransferOutcome) (control : StationControl) : Prop :=
      ∃ e : Device, exec i s = s.next e.settle ∧ e.control = control ∧
        (∃ own later : List Notice,
          e.lport = (own ++ later).foldl LocalPort.post (s.dev.lport.post (.peerChange x change)) ∧
          (.haltChange x .teardown ∈ own ↔ s.dev.halt.members[x] = true ∧ e.halt.halted = false) ∧
          (∀ n ∈ own, ∀ k w g b, n ≠ .landingResumed k w g b) ∧
          ∀ n ∈ later, ∃ k w g b, n = .landingResumed k w g b) ∧
        (s.dev.admission.bounded → (∃ k ∈ s.dev.admission.keys, k.source = x) → e.noneWaits) ∧
        (∀ (c : ChannelNo) (a : Descriptor), s.dev.channels[c].active = some a →
          s.dev.channels[c].state.inTransfer = true → a.target = x →
          e.channels[c] = (s.dev.ended c a o none).channels[c]) ∧
        (∀ c : ChannelNo, (∀ a, s.dev.channels[c].active = some a → s.dev.channels[c].state.inTransfer = true →
          a.target ≠ x) → e.channels[c] = s.dev.channels[c]) ∧
        (∀ k ∈ e.admission.keys, k.source ≠ x) ∧
        (∀ l ∈ s.dev.admission.landings ++ s.dev.admission.suspended, l.offer.key.source ≠ x →
          ∃ m ∈ e.admission.landings ++ e.admission.suspended, m.offer = l.offer ∧ m.accepted = l.accepted ∧
            m.written = l.written) ∧
        e.port.writes = s.dev.port.writes.map (fun w =>
          { w with owner := w.owner.filter fun k => decide (k.source ≠ x) }) ∧
        (∀ r ∈ e.span.replies, r.key.source ≠ x) ∧
        (∀ (c : ChannelNo) (w : Option Withdrawal) (f : Option SlotFrame), .slot c w f ∈ e.span.initiation →
          (∀ v ∈ w, v.target ≠ x) ∧ ∀ v ∈ f, v.target ≠ x) ∧
        e.span.initiation.filter InitEntry.isSignal = s.dev.span.initiation.filter InitEntry.isSignal ∧
        e.halt = { s.dev.halt with
          members := s.dev.halt.members.set x false
          lapse := if s.dev.halt.members[x] then s.dev.halt.lapse.set x none else s.dev.halt.lapse }
    (s.dev.control.peers[x].presence = .absent →
      exec (.joinArrives x) s = s.next (s.dev.noted x).settle ∧
      (s.dev.served → exec (.leaveArrives x) s = .next s)) ∧
    (s.dev.control.peers[x].presence = .present → s.dev.control.peers[x].window.isSome = true →
      exec (.joinArrives x) s = s.next (Device.settle { s.dev with control := entry .present (some 3) })) ∧
    (s.dev.control.peers[x].presence = .present → s.dev.control.peers[x].window = none → s.dev.poolOk →
      torn (.joinArrives x) .restart .peerRestart (entry .present (some 3))) ∧
    (s.dev.control.peers[x].presence = .present → s.dev.poolOk →
      torn (.leaveArrives x) .left .peerLeft (entry .absent none))

/-- R160, R165: HALT and RESUME of a peer, and HALT_CHANGE when the halt set changes between empty and non-empty. -/
def Obligations.HaltAndResumeOfAPeer : Prop :=
  ∀ (s : State) (x : Station), s.dev.hears x →
    let lapse (t : Timer) := s.dev.halt.lapse.set x t
    (s.dev.halt.members[x] = true →
      exec (.haltArrives x) s = s.next (Device.settle
        { s.dev with halt := { s.dev.halt with lapse := lapse (some 8) } })) ∧
    (s.dev.halt.members[x] = false →
      exec (.haltArrives x) s = s.next (Device.settle
        { s.dev with
          halt := { s.dev.halt with members := s.dev.halt.members.set x true, lapse := lapse (some 8) }
          lport := if s.dev.halted then s.dev.lport else s.dev.lport.post (.haltChange x .halt) })) ∧
    (s.dev.halt.members[x] = true →
      let rest : HaltUnit := { s.dev.halt with members := s.dev.halt.members.set x false, lapse := lapse none }
      exec (.resumeArrives x) s = s.next (Device.settle
        { s.dev with
          halt := rest
          lport := if rest.halted then s.dev.lport else s.dev.lport.post (.haltChange x .resume) })) ∧
    (s.dev.halt.members[x] = false → s.dev.served → exec (.resumeArrives x) s = .next s)

/-! ### The lane -/

/-- R23, R24, R28, R36, R52, R161, R169: what the completions of a JOIN and of a LEAVE do. -/
def Obligations.JoinAndLeaveTransmissions : Prop :=
  (∀ s : State, s.dev.onLane .join → s.dev.control.state = .joining → s.dev.control.joinCount + 1 < 3 →
    exec .joinTransmissionComplete s = s.next (Device.settle
      { s.dev with
        span := { s.dev.span with lane := none }
        control := { s.dev.control with joinCount := s.dev.control.joinCount + 1, spacing := some 1 } })) ∧
  (∀ s : State, s.dev.onLane .join → s.dev.control.state = .joining → 3 ≤ s.dev.control.joinCount + 1 →
    s.dev.haltOk →
    let joined : Device := eight.foldl Device.latchReleased
      { s.dev with
        span := { s.dev.span with lane := none }
        control := { s.dev.control with joinCount := s.dev.control.joinCount + 1, state := .joined } }
    exec .joinTransmissionComplete s =
      s.next (if s.dev.halt.line then joined.holdBegun else joined).settle) ∧
  (∀ s : State, s.dev.onLane .join → s.dev.control.state ≠ .joining →
    exec .joinTransmissionComplete s =
      s.next (Device.settle { s.dev with span := { s.dev.span with lane := none } })) ∧
  (∀ s : State, s.dev.onLane .leave → s.dev.control.owed = false → s.dev.control.peersOk →
    let left := s.dev.lport.post (.leftSpan s.dev.control.number)
    exec .leaveTransmissionComplete s = s.next (Device.settle
      { s.dev with
        span := { s.dev.span with lane := none }
        control := { s.dev.control with
          state := .config, joinCount := 0
          peers := Vector.ofFn fun x =>
            { presence := if x = s.dev.control.number then .self else .absent, window := none } }
        halt := { s.dev.halt with members := Vector.replicate 8 false, lapse := Vector.replicate 8 none }
        lport := match (eight.filter fun x => s.dev.halt.members[x]).getLast? with
          | some x => left.post (.haltChange x .leaving)
          | none => left })) ∧
  ∀ s : State, s.dev.onLane .leave → s.dev.control.owed = true →
    ∃ t, exec .leaveTransmissionComplete s = .next t ∧ t.pending = s.pending ∧ t.dev.isSoftReset s.dev

/-- R15, R16, R27: what a free lane takes at the end of an event, from the station frames, the reply queue and the
initiation queue; a lane in use keeps its frame. -/
def Obligations.LaneArbiterTakesTheFirstFrame : Prop :=
  (∀ (s : State) (f : Frame), s.dev.span.lane = some f → f.body ≠ .join → f.body ≠ .leave →
    exec .frameTransmissionComplete s =
      s.next (Device.settle { s.dev with span := { s.dev.span with lane := none } })) ∧
  (∀ (d : Device) (f : Frame), d.span.lane = some f → d.settle.span = d.span ∧ d.settle.channels = d.channels) ∧
  ∀ d : Device, d.span.lane = none →
    let sent (dest : Dest) (b : FrameBody) : Option Frame :=
      some { source := d.control.number, dest := dest, body := b }
    let due : Bool := d.span.leaveDue || decide d.drained
    (d.span.joinDue = true → d.settle.channels = d.channels ∧
      d.settle.span = { d.span with joinDue := false, leaveDue := due, lane := sent .all .join }) ∧
    (d.span.joinDue = false → d.span.haltDue = true → d.settle.channels = d.channels ∧
      d.settle.span = { d.span with haltDue := false, leaveDue := due, lane := sent .all .halt }) ∧
    (d.span.joinDue = false → d.span.haltDue = false → d.span.resumeDue = true → d.settle.channels = d.channels ∧
      d.settle.span = { d.span with resumeDue := false, leaveDue := due, lane := sent .all .resume }) ∧
    (d.span.joinDue = false → d.span.haltDue = false → d.span.resumeDue = false →
      (due = true → d.settle.channels = d.channels ∧
        d.settle.span = { d.span with leaveDue := false, lane := sent .all .leave }) ∧
      (due = false → ∀ r rest, d.span.replies = r :: rest → d.settle.channels = d.channels ∧
        d.settle.span =
          { d.span with
            replies := rest
            lane := sent (.station r.key.source)
              (match r.kind with
               | .wait => .wait r.key.channel r.generation
               | .grant start limit => .grant r.key.channel r.generation start limit
               | .refuse reason => .refuse r.key.channel r.generation reason
               | .receipt accepted limit final => .receipt r.key.channel r.generation accepted limit final
               | .pause block => .pause r.key.channel r.generation block) }) ∧
      (due = false → d.span.replies = [] → ∀ before after,
        (∀ e ∈ before, e.isOfferAlone = true ∧ d.halted = true) →
        (∀ c w, d.span.initiation = before ++ .slot c (some w) none :: after → d.settle.channels = d.channels ∧
          d.settle.span =
            { d.span with
              initiation := before ++ after
              lane := sent (.station w.target) (.withdraw c w.generation w.reason) }) ∧
        (∀ c w f, d.span.initiation = before ++ .slot c (some w) (some f) :: after → d.settle.channels = d.channels ∧
          d.settle.span =
            { d.span with
              initiation := before ++ after ++ [.slot c none (some f)]
              lane := sent (.station w.target) (.withdraw c w.generation w.reason) }) ∧
        (∀ c w, d.span.initiation = before ++ .slot c none (some (.withdraw w)) :: after →
          d.settle.channels = d.channels ∧
          d.settle.span =
            { d.span with
              initiation := before ++ after
              lane := sent (.station w.target) (.withdraw c w.generation w.reason) }) ∧
        (∀ c t g f, d.halted = false → d.span.initiation = before ++ .slot c none (some (.offer t g f)) :: after →
          d.settle.channels = d.channels ∧
          d.settle.span =
            { d.span with initiation := before ++ after, lane := sent (.station t) (.offer c g f) }) ∧
        ∀ t e arg, d.span.initiation = before ++ .signal t e arg :: after → d.settle.channels = d.channels ∧
          d.settle.span = { d.span with initiation := before ++ after, lane := sent t (.signal e arg) }) ∧
      (due = false → d.span.replies = [] →
        (∀ e ∈ d.span.initiation, e.isOfferAlone = true ∧ d.halted = true) →
        d.halted = true ∨ d.control.owed = true ∨ (∀ (c : ChannelNo) a data, ¬d.channels[c].hasReady a data) →
        d.settle.span = d.span ∧ d.settle.channels = d.channels))

/-- R15 step 4, R91: with nothing else to send and the station running, the most urgent ready channel sends its next block,
the lower channel number before the higher at one level; the buffer it came from is emptied, the other kept, and reads of
the blocks now wanted are requested. -/
def Obligations.LaneArbiterSendsBlocks : Prop :=
  ∀ (d : Device) (c : ChannelNo) (a : Descriptor) (data : List Byte),
    d.fetchOk → d.span.lane = none → d.span.joinDue = false → d.span.haltDue = false → d.span.resumeDue = false →
    d.span.leaveDue = false → d.span.replies = [] → d.span.initiation = [] → d.halted = false →
    d.control.state = .joined → d.control.owed = false → d.channels[c].hasReady a data →
    (∀ (b : ChannelNo) a' data', d.channels[b].hasReady a' data' → b ≠ c →
      a.level < a'.level ∨ a.level = a'.level ∧ c < b) →
    let ch := d.channels[c]
    d.settle.span =
      { d.span with lane := some { source := d.control.number, dest := .station a.target,
                                   body := .block c ch.generation ch.next data } } ∧
    d.settle.channels[c] =
      { ch with
        next := ch.next + 1, buffers := d.settle.channels[c].buffers,
        state := if ch.next + 1 = blockCount a.length then .draining else .streaming } ∧
    (∀ b : Fin 2, d.settle.channels[c].buffers[b].blockNo ≠ some ch.next) ∧
    (∀ b : Fin 2,
      (ch.buffers[b] ≠ .empty → ch.buffers[b].blockNo ≠ some ch.next → d.settle.channels[c].buffers[b] = ch.buffers[b]) ∧
      (ch.buffers[b] = .empty ∨ ch.buffers[b].blockNo = some ch.next → d.settle.channels[c].buffers[b] = .empty ∨
        ∃ n, d.settle.channels[c].buffers[b] = .fetching n ∧ (n = ch.next + 1 ∨ n = ch.next + 2) ∧ n < ch.limit)) ∧
    (∀ b : ChannelNo, b ≠ c → d.settle.channels[b] = d.channels[b]) ∧
    d.settle.control = d.control ∧ d.settle.config = d.config ∧ d.settle.admission = d.admission ∧
    d.settle.halt = d.halt ∧ d.settle.lport = d.lport ∧ d.settle.port.writes = d.port.writes

/-! ### The Memory Port -/

/-- R90, R141, R142, R144: the access a free port issues at the end of an event in which no block is sent; the completion
of a read fills its buffer, or ends its transfer FAULT, or is consumed. -/
def Obligations.MemoryPortServesItsClients : Prop :=
  (∀ d : Device, d.sendsNoBlock →
    (∀ a, d.port.access = some a → d.settle.port = d.port) ∧
    (d.port.access = none → d.port.writes ≠ [] → d.settle.port = { d.port with access := some .write }) ∧
    (d.port.access = none → d.port.writes = [] → d.port.reads = [] → d.settle.port = d.port) ∧
    ∀ before r after, d.port.access = none → d.port.writes = [] → d.port.reads = before ++ r :: after →
      (∀ q ∈ before, r.level < q.level ∨ r.level = q.level ∧ r.channel < q.channel) →
      (∀ q ∈ after, r.level < q.level ∨ r.level = q.level ∧ r.channel ≤ q.channel) →
      d.settle.port = { d.port with access := some (.read r false), reads := before ++ after }) ∧
  ∀ (s : State) (r : ReadRequest),
    let free : Device := { s.dev with port := { s.dev.port with access := none } }
    (s.dev.port.access = some (.read r false) → ∀ data, data.length = r.bytes →
      let filled :=
        { s.dev.channels[r.channel] with
          buffers := s.dev.channels[r.channel].buffers.set r.buffer (.holding r.block data) }
      exec (.readCompletion data) s =
        s.next (Device.settle { free with channels := s.dev.channels.set r.channel filled })) ∧
    (s.dev.port.access = some (.read r true) → ∀ data, data.length = r.bytes →
      exec (.readCompletion data) s = s.next free.settle) ∧
    (∀ a, s.dev.port.access = some (.read r false) → s.dev.channels[r.channel].active = some a →
      exec .readError s = s.next (free.ended r.channel a .fault (some (.withdraw .fault))).settle) ∧
    (s.dev.port.access = some (.read r true) → exec .readError s = s.next free.settle)

/-! ### Timers -/

/-- R23, R31, R162, R164: the timers of the span's own housekeeping. -/
def Obligations.HousekeepingTimersExpire : Prop :=
  (∀ s : State, s.dev.leaveOk → s.dev.joinOk → s.dev.control.spacing.isSome = true →
    exec .joinSpacingExpiry s = s.next (Device.settle
      { s.dev with
        control := { s.dev.control with spacing := none }
        span := { s.dev.span with joinDue := true } })) ∧
  (∀ (s : State) (x : Station), s.dev.control.peers[x].window.isSome = true →
    let entry := { s.dev.control.peers[x] with window := none }
    exec (.joinRepeatWindowExpiry x) s = s.next
      { s.dev with control := { s.dev.control with peers := s.dev.control.peers.set x entry } }) ∧
  (∀ s : State, s.dev.haltOk → s.dev.halt.repeatTimer.isSome = true →
    exec .repeatTimerExpiry s = s.next (Device.settle
      { s.dev with
        span := { s.dev.span with haltDue := true, resumeDue := false }
        halt := { s.dev.halt with repeatTimer := some 2 } })) ∧
  ∀ (s : State) (x : Station), s.dev.haltOk → s.dev.halt.lapse[x].isSome = true →
    let rest : HaltUnit :=
      { s.dev.halt with members := s.dev.halt.members.set x false, lapse := s.dev.halt.lapse.set x none }
    exec (.lapseTimerExpiry x) s = s.next (Device.settle
      { s.dev with
        halt := rest
        lport := if rest.halted then s.dev.lport else s.dev.lport.post (.haltChange x .lapse) })

/-- R61, R65, R78, R102, R107 to R109, R126: the timers of a transfer expire while the halt set is empty. A probe that is
still to be sent is the model's (log 10); a claim is dropped while a soft reset is owed (R18). -/
def Obligations.TransferTimersExpire : Prop :=
  ∀ s : State, s.dev.halted = false →
    (∀ (c : ChannelNo) (a : Descriptor), s.dev.channels[c].active = some a → s.dev.channels[c].timer.isSome = true →
      let ch := s.dev.channels[c]
      let noReply := s.next (s.dev.ended c a .noReply (some (.withdraw .noReply))).settle
      (ch.state = .offering → ch.sends < 4 →
        let again := { ch with sends := ch.sends + 1, timer := some s.dev.config.tReply }
        let offer : SlotFrame := .offer a.target ch.generation
          { level := a.level, window := a.window, offset := a.offset, length := a.length,
            landingEvent := a.landingEvent }
        exec (.offerReplyTimerExpiry c) s = s.next (Device.settle
          { s.dev with
            channels := s.dev.channels.set c again
            span := { s.dev.span with
              initiation :=
                if s.dev.control.owed then s.dev.span.initiation
                else placeCurrent c offer s.dev.span.initiation } })) ∧
      (ch.state = .offering → 4 ≤ ch.sends → exec (.offerReplyTimerExpiry c) s = noReply) ∧
      (ch.state = .streaming ∨ ch.state = .draining → 3 ≤ ch.retry →
        exec (.streamReplyTimerExpiry c) s = noReply) ∧
      (ch.state = .streaming ∨ ch.state = .draining → ch.retry < 3 →
        let kept := { ch with retry := ch.retry + 1, timer := some s.dev.config.tReply }
        (ch.next < ch.accepted ∨ ch.next = ch.accepted ∧ ch.accepted = 0 →
          exec (.streamReplyTimerExpiry c) s =
            s.next (Device.settle { s.dev with channels := s.dev.channels.set c kept })) ∧
        ∀ block : Nat,
          ch.accepted < ch.next ∧ block = ch.accepted ∨
            ch.next = ch.accepted ∧ 1 ≤ ch.accepted ∧ block = ch.accepted - 1 →
          ∃ e : Device, exec (.streamReplyTimerExpiry c) s = s.next e.settle ∧
            e.channels[c] = { kept with next := block, state := .streaming, buffers := e.channels[c].buffers } ∧
            (∀ b : Fin 2, ∀ n data, ch.buffers[b] = .holding n data → n = block ∨ n = block + 1 →
              e.channels[c].buffers[b] = .holding n data) ∧
            (∀ b : Fin 2, ∀ n data, e.channels[c].buffers[b] = .holding n data →
              ch.buffers[b] = .holding n data ∧ (n = block ∨ n = block + 1)) ∧
            (∀ b : ChannelNo, b ≠ c → e.channels[b] = s.dev.channels[b]) ∧ e.span = s.dev.span ∧
            e.control = s.dev.control ∧ e.admission = s.dev.admission ∧ e.halt = s.dev.halt ∧
            e.lport = s.dev.lport ∧ e.port.writes = s.dev.port.writes) ∧
      (ch.state = .queued → exec (.queueTimerExpiry c) s =
        s.next (s.dev.ended c a .queueExpired (some (.withdraw .queueExpired))).settle) ∧
      (ch.state = .paused → exec (.pauseTimerExpiry c) s =
        s.next (s.dev.ended c a .pauseExpired (some (.withdraw .pauseExpired))).settle)) ∧
    (∀ w ∈ s.dev.admission.waiting, s.dev.admission.keysOk → w.lifetime.isSome = true →
      exec (.lifetimeExpiry w.offer.key.source w.offer.key.channel) s = s.next (Device.settle
        { s.dev with
          admission := { s.dev.admission with
            waiting := s.dev.admission.waiting.filter fun v => decide (v.offer.key ≠ w.offer.key) }
          span := { s.dev.span with
            replies :=
              if s.dev.control.owed then s.dev.span.replies
              else placeReply s.dev.span.replies
                { key := w.offer.key, generation := w.offer.generation, kind := .refuse .expired } }
          lport := s.dev.lport.post
            (.landingEnded w.offer.key w.offer.fields.window w.offer.generation .expired 0) })) ∧
    ∀ l ∈ s.dev.admission.landings, s.dev.poolOk → l.timer.isSome = true →
      ∃ e : Device,
        exec (.landingTimerExpiry l.offer.key.source l.offer.key.channel) s = s.next e.settle ∧
        e.admission.lacks l.offer.key ∧ s.dev.admission.keepsOthers e.admission l.offer.key ∧
        e.admission.recent = s.dev.admission.recent ∧ e.port = s.dev.port.orphaned l.offer.key ∧
        (s.dev.control.owed = false → (∀ r ∈ s.dev.span.replies, r.key ≠ l.offer.key) →
          { key := l.offer.key, generation := l.offer.generation, kind := .refuse .timeout } ∈ e.span.replies) ∧
        (∃ ns : List Notice, e.lport = ns.foldl LocalPort.post (s.dev.lport.post
          (.landingEnded l.offer.key l.offer.fields.window l.offer.generation .timeout
            (min (64 * l.accepted) l.offer.fields.length)))) ∧
        e.channels = s.dev.channels ∧ e.control = s.dev.control ∧ e.halt = s.dev.halt

/-! ### The transmit queues -/

/-- R13: where a reply goes. R14: where the claims of a channel go, and what a begin and the end of OFFERING do to its
slot. -/
def Obligations.QueuesHoldTheirPositions : Prop :=
  (∀ (q : List Reply) (r : Reply), (∀ p ∈ q, p.key ≠ r.key) → placeReply q r = q ++ [r]) ∧
  (∀ (before after : List Reply) (p r : Reply), (∀ o ∈ before, o.key ≠ r.key) → p.key = r.key →
    placeReply (before ++ p :: after) r =
      if p.kind.isRefuse = true ∧ p.generation = r.generation then before ++ p :: after
      else before ++ r :: after) ∧
  (∀ (c : ChannelNo) (f : SlotFrame) (w : Withdrawal) (q : List InitEntry), (∀ e ∈ q, e.slotChannel ≠ some c) →
    placeCurrent c f q = q ++ [.slot c none (some f)] ∧ placeEarlier c w q = q ++ [.slot c (some w) none] ∧
    (q.all InitEntry.nonEmpty = true → changeSlot c demoteCurrent q = q ∧ changeSlot c dropOffer q = q)) ∧
  ∀ (c : ChannelNo) (before after : List InitEntry) (earlier : Option Withdrawal) (current : Option SlotFrame),
    (∀ e ∈ before, e.slotChannel ≠ some c) →
    let q := before ++ .slot c earlier current :: after
    (∀ f : SlotFrame, placeCurrent c f q = before ++ .slot c earlier (some f) :: after) ∧
    (∀ w : Withdrawal, placeEarlier c w q = before ++ .slot c (some w) current :: after) ∧
    ((∀ e ∈ after, e.slotChannel ≠ some c) → before.all InitEntry.nonEmpty = true →
      after.all InitEntry.nonEmpty = true →
      (∀ w, current = some (.withdraw w) →
        changeSlot c demoteCurrent q = before ++ .slot c (some w) none :: after ∧ changeSlot c dropOffer q = q) ∧
      (∀ t g f, current = some (.offer t g f) →
        changeSlot c demoteCurrent q = q ∧
        changeSlot c dropOffer q =
          before ++ (match earlier with | some w => [.slot c (some w) none] | none => []) ++ after))

/-! ### What every step keeps -/

/-- State.reset is a block in order. -/
def Obligations.InvariantsHoldAtReset : Prop :=
  let d := State.reset.dev
  d.noticesOk ∧ d.span.queuesOk ∧ d.admission.bounded ∧ d.admission.ordered ∧ d.channelsOk ∧ d.fetchOk ∧ d.wantedOk ∧
  d.poolOk ∧ d.withinConfig ∧ d.config.legal ∧ d.control.peersOk ∧ d.stationOk ∧ d.served

/-- R12 to R14, R67, R68, R110, R113, R180: every queue, list and table keeps its capacity and its order. -/
def Obligations.QueuesStayInBounds : Prop :=
  ∀ s t : State,
    s.dev.noticesOk ∧ s.dev.span.queuesOk ∧ s.dev.admission.bounded ∧ s.dev.admission.ordered →
    step s = .next t →
    t.dev.noticesOk ∧ t.dev.span.queuesOk ∧ t.dev.admission.bounded ∧ t.dev.admission.ordered

/-- R39, R40, R55, R88, R89, R140, R142: every channel's state, counters, timer and fetch buffers agree with one another
and with the read requests, and every wanted block has been requested. -/
def Obligations.ChannelsStayInOrder : Prop :=
  ∀ s t : State, s.dev.channelsOk ∧ s.dev.fetchOk ∧ s.dev.wantedOk → step s = .next t →
    t.dev.channelsOk ∧ t.dev.fetchOk ∧ t.dev.wantedOk

/-- R69, R74, R92, R93, R113, R135, R136, R139, R175: each key has one record, each record holds the blocks it has accepted
and not written, the pool holds and reserves at most 32 buffers, and every record fits its window and the credit. -/
def Obligations.LandingsStayInOrder : Prop :=
  ∀ s t : State, s.dev.poolOk ∧ s.dev.withinConfig ∧ s.dev.config.legal → step s = .next t →
    t.dev.poolOk ∧ t.dev.withinConfig ∧ t.dev.config.legal

/-- R15, R18, R20, R23, R27 to R29, R49, R51, R87, R160 to R163, R170: the station state, the peer table, the station frames,
the latches and the halt set agree with one another. -/
def Obligations.StationStaysInOrder : Prop :=
  ∀ s t : State, s.dev.channelsOk ∧ s.dev.fetchOk ∧ s.dev.control.peersOk ∧ s.dev.stationOk → step s = .next t →
    t.dev.control.peersOk ∧ t.dev.stationOk

/-- R15, R141: after every step a free lane finds no frame it may send, and a free memory port no client. -/
def Obligations.LaneAndPortStayServed : Prop :=
  ∀ s t : State, s.dev.served → step s = .next t → t.dev.served

end
end

