-- ==== Sys2Proof/Laws/State.lean ====
section
/-! SUPPORT. What each updater of State.lean does to each unit, by rfl, so that no proof unfolds a record update. -/

namespace Sys2Proof.Machine

section
variable (d : Device) (f : SpanInterface → SpanInterface)

@[simp] theorem Device.updSpan_span : (d.updSpan f).span = f d.span := rfl
@[simp] theorem Device.updSpan_control : (d.updSpan f).control = d.control := rfl
@[simp] theorem Device.updSpan_config : (d.updSpan f).config = d.config := rfl
@[simp] theorem Device.updSpan_channels : (d.updSpan f).channels = d.channels := rfl
@[simp] theorem Device.updSpan_admission : (d.updSpan f).admission = d.admission := rfl
@[simp] theorem Device.updSpan_port : (d.updSpan f).port = d.port := rfl
@[simp] theorem Device.updSpan_halt : (d.updSpan f).halt = d.halt := rfl
@[simp] theorem Device.updSpan_lport : (d.updSpan f).lport = d.lport := rfl

end

section
variable (d : Device) (f : StationControl → StationControl)

@[simp] theorem Device.updControl_span : (d.updControl f).span = d.span := rfl
@[simp] theorem Device.updControl_control : (d.updControl f).control = f d.control := rfl
@[simp] theorem Device.updControl_config : (d.updControl f).config = d.config := rfl
@[simp] theorem Device.updControl_channels : (d.updControl f).channels = d.channels := rfl
@[simp] theorem Device.updControl_admission : (d.updControl f).admission = d.admission := rfl
@[simp] theorem Device.updControl_port : (d.updControl f).port = d.port := rfl
@[simp] theorem Device.updControl_halt : (d.updControl f).halt = d.halt := rfl
@[simp] theorem Device.updControl_lport : (d.updControl f).lport = d.lport := rfl

end

section
variable (d : Device) (f : ConfigRecord → ConfigRecord)

@[simp] theorem Device.updConfig_span : (d.updConfig f).span = d.span := rfl
@[simp] theorem Device.updConfig_control : (d.updConfig f).control = d.control := rfl
@[simp] theorem Device.updConfig_config : (d.updConfig f).config = f d.config := rfl
@[simp] theorem Device.updConfig_channels : (d.updConfig f).channels = d.channels := rfl
@[simp] theorem Device.updConfig_admission : (d.updConfig f).admission = d.admission := rfl
@[simp] theorem Device.updConfig_port : (d.updConfig f).port = d.port := rfl
@[simp] theorem Device.updConfig_halt : (d.updConfig f).halt = d.halt := rfl
@[simp] theorem Device.updConfig_lport : (d.updConfig f).lport = d.lport := rfl

end

section
variable (d : Device) (f : AdmissionUnit → AdmissionUnit)

@[simp] theorem Device.updAdmission_span : (d.updAdmission f).span = d.span := rfl
@[simp] theorem Device.updAdmission_control : (d.updAdmission f).control = d.control := rfl
@[simp] theorem Device.updAdmission_config : (d.updAdmission f).config = d.config := rfl
@[simp] theorem Device.updAdmission_channels : (d.updAdmission f).channels = d.channels := rfl
@[simp] theorem Device.updAdmission_admission : (d.updAdmission f).admission = f d.admission := rfl
@[simp] theorem Device.updAdmission_port : (d.updAdmission f).port = d.port := rfl
@[simp] theorem Device.updAdmission_halt : (d.updAdmission f).halt = d.halt := rfl
@[simp] theorem Device.updAdmission_lport : (d.updAdmission f).lport = d.lport := rfl

end

section
variable (d : Device) (f : MemoryPort → MemoryPort)

@[simp] theorem Device.updPort_span : (d.updPort f).span = d.span := rfl
@[simp] theorem Device.updPort_control : (d.updPort f).control = d.control := rfl
@[simp] theorem Device.updPort_config : (d.updPort f).config = d.config := rfl
@[simp] theorem Device.updPort_channels : (d.updPort f).channels = d.channels := rfl
@[simp] theorem Device.updPort_admission : (d.updPort f).admission = d.admission := rfl
@[simp] theorem Device.updPort_port : (d.updPort f).port = f d.port := rfl
@[simp] theorem Device.updPort_halt : (d.updPort f).halt = d.halt := rfl
@[simp] theorem Device.updPort_lport : (d.updPort f).lport = d.lport := rfl

end

section
variable (d : Device) (f : HaltUnit → HaltUnit)

@[simp] theorem Device.updHalt_span : (d.updHalt f).span = d.span := rfl
@[simp] theorem Device.updHalt_control : (d.updHalt f).control = d.control := rfl
@[simp] theorem Device.updHalt_config : (d.updHalt f).config = d.config := rfl
@[simp] theorem Device.updHalt_channels : (d.updHalt f).channels = d.channels := rfl
@[simp] theorem Device.updHalt_admission : (d.updHalt f).admission = d.admission := rfl
@[simp] theorem Device.updHalt_port : (d.updHalt f).port = d.port := rfl
@[simp] theorem Device.updHalt_halt : (d.updHalt f).halt = f d.halt := rfl
@[simp] theorem Device.updHalt_lport : (d.updHalt f).lport = d.lport := rfl

end

section
variable (d : Device) (f : LocalPort → LocalPort)

@[simp] theorem Device.updLocal_span : (d.updLocal f).span = d.span := rfl
@[simp] theorem Device.updLocal_control : (d.updLocal f).control = d.control := rfl
@[simp] theorem Device.updLocal_config : (d.updLocal f).config = d.config := rfl
@[simp] theorem Device.updLocal_channels : (d.updLocal f).channels = d.channels := rfl
@[simp] theorem Device.updLocal_admission : (d.updLocal f).admission = d.admission := rfl
@[simp] theorem Device.updLocal_port : (d.updLocal f).port = d.port := rfl
@[simp] theorem Device.updLocal_halt : (d.updLocal f).halt = d.halt := rfl
@[simp] theorem Device.updLocal_lport : (d.updLocal f).lport = f d.lport := rfl

end

section
variable (d : Device) (c : ChannelNo) (f : Channel → Channel)

@[simp] theorem Device.updChannel_span : (d.updChannel c f).span = d.span := rfl
@[simp] theorem Device.updChannel_control : (d.updChannel c f).control = d.control := rfl
@[simp] theorem Device.updChannel_config : (d.updChannel c f).config = d.config := rfl
@[simp] theorem Device.updChannel_channels : (d.updChannel c f).channels = d.channels.set c (f d.channels[c]) := rfl
@[simp] theorem Device.updChannel_admission : (d.updChannel c f).admission = d.admission := rfl
@[simp] theorem Device.updChannel_port : (d.updChannel c f).port = d.port := rfl
@[simp] theorem Device.updChannel_halt : (d.updChannel c f).halt = d.halt := rfl
@[simp] theorem Device.updChannel_lport : (d.updChannel c f).lport = d.lport := rfl

theorem Device.updChannel_same : (d.updChannel c f).channels[c] = f d.channels[c] := by simp

theorem Device.updChannel_other {b : ChannelNo} (h : c ≠ b) :
    (d.updChannel c f).channels[b] = d.channels[b] := by
  have : (c : Nat) ≠ b := fun e => h (Fin.ext e)
  simp [this]

end

end Sys2Proof.Machine
end

