-- ==== Sys2Proof/Laws/Keeps.lean ====
section
/-! SUPPORT. The frame of each shared operation: the units it leaves as they were. Provers cite these instead of
unfolding the operation. -/

namespace Sys2Proof.Machine

theorem foldl_keeps {α β γ : Type} (g : β → γ) (f : β → α → β) (h : ∀ b a, g (f b a) = g b) (l : List α) (b : β) :
    g (l.foldl f b) = g b := by
  induction l generalizing b with
  | nil => rfl
  | cons a l ih => rw [List.foldl_cons, ih, h]

@[simp] theorem Device.post_keeps (d : Device) (n : Notice) :
    (d.post n).span = d.span ∧ (d.post n).control = d.control ∧ (d.post n).config = d.config ∧ (d.post n).channels = d.channels ∧ (d.post n).admission = d.admission ∧ (d.post n).port = d.port ∧ (d.post n).halt = d.halt := by
  simp [Device.post]

@[simp] theorem Device.noteOwnNumber_keeps (d : Device) (p : Station) :
    (d.noteOwnNumber p).control = d.control ∧ (d.noteOwnNumber p).config = d.config ∧ (d.noteOwnNumber p).channels = d.channels ∧ (d.noteOwnNumber p).admission = d.admission ∧ (d.noteOwnNumber p).port = d.port ∧ (d.noteOwnNumber p).halt = d.halt := by
  unfold Device.noteOwnNumber; split <;> simp

@[simp] theorem Device.noteLaneMismatch_keeps (d : Device) :
    (d.noteLaneMismatch).control = d.control ∧ (d.noteLaneMismatch).config = d.config ∧ (d.noteLaneMismatch).channels = d.channels ∧ (d.noteLaneMismatch).admission = d.admission ∧ (d.noteLaneMismatch).port = d.port ∧ (d.noteLaneMismatch).halt = d.halt ∧ (d.noteLaneMismatch).lport = d.lport := by
  simp [Device.noteLaneMismatch]

@[simp] theorem Device.clearFlags_keeps (d : Device) :
    (d.clearFlags).control = d.control ∧ (d.clearFlags).config = d.config ∧ (d.clearFlags).channels = d.channels ∧ (d.clearFlags).admission = d.admission ∧ (d.clearFlags).port = d.port ∧ (d.clearFlags).halt = d.halt := by
  simp [Device.clearFlags]

@[simp] theorem Device.writeArg_keeps (d : Device) (w : Fin 16) (v : Word) :
    (d.writeArg w v).span = d.span ∧ (d.writeArg w v).control = d.control ∧ (d.writeArg w v).config = d.config ∧ (d.writeArg w v).channels = d.channels ∧ (d.writeArg w v).admission = d.admission ∧ (d.writeArg w v).port = d.port ∧ (d.writeArg w v).halt = d.halt := by
  unfold Device.writeArg; split <;> simp

@[simp] theorem Device.claimDue_keeps (d : Device) (f : SpanInterface → SpanInterface) :
    (d.claimDue f).control = d.control ∧ (d.claimDue f).config = d.config ∧ (d.claimDue f).channels = d.channels ∧ (d.claimDue f).admission = d.admission ∧ (d.claimDue f).port = d.port ∧ (d.claimDue f).halt = d.halt ∧ (d.claimDue f).lport = d.lport := by
  unfold Device.claimDue; split <;> simp

@[simp] theorem Device.makeJoinDue_keeps (d : Device) :
    (d.makeJoinDue).control = d.control ∧ (d.makeJoinDue).config = d.config ∧ (d.makeJoinDue).channels = d.channels ∧ (d.makeJoinDue).admission = d.admission ∧ (d.makeJoinDue).port = d.port ∧ (d.makeJoinDue).halt = d.halt ∧ (d.makeJoinDue).lport = d.lport := by
  simp [Device.makeJoinDue]

@[simp] theorem Device.makeHaltDue_keeps (d : Device) :
    (d.makeHaltDue).control = d.control ∧ (d.makeHaltDue).config = d.config ∧ (d.makeHaltDue).channels = d.channels ∧ (d.makeHaltDue).admission = d.admission ∧ (d.makeHaltDue).port = d.port ∧ (d.makeHaltDue).halt = d.halt ∧ (d.makeHaltDue).lport = d.lport := by
  simp [Device.makeHaltDue]

@[simp] theorem Device.makeResumeDue_keeps (d : Device) :
    (d.makeResumeDue).control = d.control ∧ (d.makeResumeDue).config = d.config ∧ (d.makeResumeDue).channels = d.channels ∧ (d.makeResumeDue).admission = d.admission ∧ (d.makeResumeDue).port = d.port ∧ (d.makeResumeDue).halt = d.halt ∧ (d.makeResumeDue).lport = d.lport := by
  simp [Device.makeResumeDue]

@[simp] theorem Device.claimReply_keeps (d : Device) (k : Key) (g : Generation) (r : ReplyKind) :
    (d.claimReply k g r).control = d.control ∧ (d.claimReply k g r).config = d.config ∧ (d.claimReply k g r).channels = d.channels ∧ (d.claimReply k g r).admission = d.admission ∧ (d.claimReply k g r).port = d.port ∧ (d.claimReply k g r).halt = d.halt ∧ (d.claimReply k g r).lport = d.lport := by
  unfold Device.claimReply; split <;> simp

@[simp] theorem Device.claimInitiation_keeps (d : Device) (f : List InitEntry → List InitEntry) :
    (d.claimInitiation f).control = d.control ∧ (d.claimInitiation f).config = d.config ∧ (d.claimInitiation f).channels = d.channels ∧ (d.claimInitiation f).admission = d.admission ∧ (d.claimInitiation f).port = d.port ∧ (d.claimInitiation f).halt = d.halt ∧ (d.claimInitiation f).lport = d.lport := by
  unfold Device.claimInitiation; split <;> simp

@[simp] theorem Device.claimWithdraw_keeps (d : Device) (c : ChannelNo) (w : Withdrawal) :
    (d.claimWithdraw c w).control = d.control ∧ (d.claimWithdraw c w).config = d.config ∧ (d.claimWithdraw c w).channels = d.channels ∧ (d.claimWithdraw c w).admission = d.admission ∧ (d.claimWithdraw c w).port = d.port ∧ (d.claimWithdraw c w).halt = d.halt ∧ (d.claimWithdraw c w).lport = d.lport := by
  unfold Device.claimWithdraw; split <;> simp

@[simp] theorem Device.claimOffer_keeps (d : Device) (c : ChannelNo) (a : Descriptor) :
    (d.claimOffer c a).control = d.control ∧ (d.claimOffer c a).config = d.config ∧ (d.claimOffer c a).channels = d.channels ∧ (d.claimOffer c a).admission = d.admission ∧ (d.claimOffer c a).port = d.port ∧ (d.claimOffer c a).halt = d.halt ∧ (d.claimOffer c a).lport = d.lport := by
  simp [Device.claimOffer]

@[simp] theorem Device.removeOffer_keeps (d : Device) (c : ChannelNo) :
    (d.removeOffer c).control = d.control ∧ (d.removeOffer c).config = d.config ∧ (d.removeOffer c).channels = d.channels ∧ (d.removeOffer c).admission = d.admission ∧ (d.removeOffer c).port = d.port ∧ (d.removeOffer c).halt = d.halt ∧ (d.removeOffer c).lport = d.lport := by
  simp [Device.removeOffer]

@[simp] theorem Device.removeFramesFor_keeps (d : Device) (x : Station) :
    (d.removeFramesFor x).control = d.control ∧ (d.removeFramesFor x).config = d.config ∧ (d.removeFramesFor x).channels = d.channels ∧ (d.removeFramesFor x).admission = d.admission ∧ (d.removeFramesFor x).port = d.port ∧ (d.removeFramesFor x).halt = d.halt ∧ (d.removeFramesFor x).lport = d.lport := by
  simp [Device.removeFramesFor]

@[simp] theorem Device.emptyBuffer_keeps (d : Device) (c : ChannelNo) (b : Fin 2) :
    (d.emptyBuffer c b).span = d.span ∧ (d.emptyBuffer c b).control = d.control ∧ (d.emptyBuffer c b).config = d.config ∧ (d.emptyBuffer c b).admission = d.admission ∧ (d.emptyBuffer c b).halt = d.halt ∧ (d.emptyBuffer c b).lport = d.lport := by
  simp [Device.emptyBuffer]

@[simp] theorem Device.emptyBuffers_keeps (d : Device) (c : ChannelNo) (keep : FetchBuffer → Bool) :
    (d.emptyBuffers c keep).span = d.span ∧ (d.emptyBuffers c keep).control = d.control ∧ (d.emptyBuffers c keep).config = d.config ∧ (d.emptyBuffers c keep).admission = d.admission ∧ (d.emptyBuffers c keep).halt = d.halt ∧ (d.emptyBuffers c keep).lport = d.lport := by
  unfold Device.emptyBuffers; dsimp only; (repeat' split) <;> simp

@[simp] theorem Device.requestRead_keeps (d : Device) (c : ChannelNo) (n : Nat) :
    (d.requestRead c n).span = d.span ∧ (d.requestRead c n).control = d.control ∧ (d.requestRead c n).config = d.config ∧ (d.requestRead c n).admission = d.admission ∧ (d.requestRead c n).halt = d.halt ∧ (d.requestRead c n).lport = d.lport := by
  unfold Device.requestRead; (repeat' split) <;> simp

@[simp] theorem Device.requestReads_keeps (d : Device) (c : ChannelNo) :
    (d.requestReads c).span = d.span ∧ (d.requestReads c).control = d.control ∧ (d.requestReads c).config = d.config ∧ (d.requestReads c).admission = d.admission ∧ (d.requestReads c).halt = d.halt ∧ (d.requestReads c).lport = d.lport := by
  simp [Device.requestReads]

@[simp] theorem Device.beginTransfer_keeps (d : Device) (c : ChannelNo) :
    (d.beginTransfer c).control = d.control ∧ (d.beginTransfer c).config = d.config ∧ (d.beginTransfer c).admission = d.admission ∧ (d.beginTransfer c).halt = d.halt ∧ (d.beginTransfer c).lport = d.lport := by
  unfold Device.beginTransfer; split <;> simp

@[simp] theorem Device.setLatch_keeps (d : Device) (c : ChannelNo) :
    (d.setLatch c).span = d.span ∧ (d.setLatch c).control = d.control ∧ (d.setLatch c).config = d.config ∧ (d.setLatch c).admission = d.admission ∧ (d.setLatch c).port = d.port ∧ (d.setLatch c).halt = d.halt ∧ (d.setLatch c).lport = d.lport := by
  simp [Device.setLatch]

theorem Device.tryStart_keeps {d d' : Device} {c : ChannelNo} (h : d.tryStart c = some d') :
    d'.control = d.control ∧ d'.config = d.config ∧ d'.admission = d.admission ∧ d'.halt = d.halt ∧
    d'.lport = d.lport := by
  unfold Device.tryStart at h
  (repeat' split at h) <;> simp only [reduceCtorEq, Option.some.injEq] at h <;> subst h <;> simp

@[simp] theorem Device.startOrMiss_keeps (d : Device) (c : ChannelNo) (m : MissedCause) :
    (d.startOrMiss c m).control = d.control ∧ (d.startOrMiss c m).config = d.config ∧ (d.startOrMiss c m).admission = d.admission ∧ (d.startOrMiss c m).halt = d.halt := by
  unfold Device.startOrMiss; split
  · rename_i h; have := Device.tryStart_keeps h; simp [this]
  · simp

@[simp] theorem Device.applySignal_keeps (d : Device) (x : Station) (m : SignalCause) (e : EventNo) (a : BitVec 16) :
    (d.applySignal x m e a).control = d.control ∧ (d.applySignal x m e a).config = d.config ∧ (d.applySignal x m e a).admission = d.admission ∧ (d.applySignal x m e a).halt = d.halt := by
  unfold Device.applySignal; dsimp only; (repeat' split) <;> simp

@[simp] theorem Device.stopMachinery_keeps (d : Device) (c : ChannelNo) :
    (d.stopMachinery c).span = d.span ∧ (d.stopMachinery c).control = d.control ∧ (d.stopMachinery c).config = d.config ∧ (d.stopMachinery c).admission = d.admission ∧ (d.stopMachinery c).halt = d.halt ∧ (d.stopMachinery c).lport = d.lport := by
  simp [Device.stopMachinery]

@[simp] theorem Device.afterPromotion_keeps (d : Device) (c : ChannelNo) (o : TransferOutcome) (b : Bool) :
    (d.afterPromotion c o b).control = d.control ∧ (d.afterPromotion c o b).config = d.config ∧ (d.afterPromotion c o b).admission = d.admission ∧ (d.afterPromotion c o b).halt = d.halt := by
  unfold Device.afterPromotion; (repeat' split) <;> simp

@[simp] theorem Device.closeTransfer_keeps (d : Device) (c : ChannelNo) (a : Descriptor) (o : TransferOutcome) :
    (d.closeTransfer c a o).control = d.control ∧ (d.closeTransfer c a o).config = d.config ∧ (d.closeTransfer c a o).admission = d.admission ∧ (d.closeTransfer c a o).halt = d.halt ∧ (d.closeTransfer c a o).lport = d.lport := by
  unfold Device.closeTransfer; split <;> simp

@[simp] theorem Device.recordOutcome_keeps (d : Device) (c : ChannelNo) (a : Descriptor) (o : TransferOutcome) (r : Option Reason) :
    (d.recordOutcome c a o r).span = d.span ∧ (d.recordOutcome c a o r).control = d.control ∧ (d.recordOutcome c a o r).config = d.config ∧ (d.recordOutcome c a o r).admission = d.admission ∧ (d.recordOutcome c a o r).port = d.port ∧ (d.recordOutcome c a o r).halt = d.halt := by
  simp [Device.recordOutcome]

@[simp] theorem Device.applyDone_keeps (d : Device) (c : ChannelNo) (a : Descriptor) (o : TransferOutcome) :
    (d.applyDone c a o).control = d.control ∧ (d.applyDone c a o).config = d.config ∧ (d.applyDone c a o).admission = d.admission ∧ (d.applyDone c a o).halt = d.halt := by
  unfold Device.applyDone; split <;> simp

@[simp] theorem Device.endTransfer_keeps (d : Device) (c : ChannelNo) (o : TransferOutcome) (r : Option RefuseReason) :
    (d.endTransfer c o r).control = d.control ∧ (d.endTransfer c o r).config = d.config ∧ (d.endTransfer c o r).admission = d.admission ∧ (d.endTransfer c o r).halt = d.halt := by
  unfold Device.endTransfer; split <;> simp

@[simp] theorem Device.answerStale_keeps (d : Device) (c : ChannelNo) (x : Station) (g : Generation) :
    (d.answerStale c x g).control = d.control ∧ (d.answerStale c x g).config = d.config ∧ (d.answerStale c x g).channels = d.channels ∧ (d.answerStale c x g).admission = d.admission ∧ (d.answerStale c x g).port = d.port ∧ (d.answerStale c x g).halt = d.halt ∧ (d.answerStale c x g).lport = d.lport := by
  unfold Device.answerStale; split <;> simp

@[simp] theorem Device.removeRecord_keeps (d : Device) (k : Key) :
    (d.removeRecord k).span = d.span ∧ (d.removeRecord k).control = d.control ∧ (d.removeRecord k).config = d.config ∧ (d.removeRecord k).channels = d.channels ∧ (d.removeRecord k).halt = d.halt ∧ (d.removeRecord k).lport = d.lport := by
  simp [Device.removeRecord]

@[simp] theorem Device.claimReceipt_keeps (d : Device) (l : Landing) (b : Bool) :
    (d.claimReceipt l b).control = d.control ∧ (d.claimReceipt l b).config = d.config ∧ (d.claimReceipt l b).channels = d.channels ∧ (d.claimReceipt l b).admission = d.admission ∧ (d.claimReceipt l b).port = d.port ∧ (d.claimReceipt l b).halt = d.halt ∧ (d.claimReceipt l b).lport = d.lport := by
  unfold Device.claimReceipt; split <;> simp

@[simp] theorem Device.admit_keeps (d : Device) (o : Offer) :
    (d.admitOffer o).control = d.control ∧ (d.admitOffer o).config = d.config ∧ (d.admitOffer o).channels = d.channels ∧ (d.admitOffer o).port = d.port ∧ (d.admitOffer o).halt = d.halt ∧ (d.admitOffer o).lport = d.lport := by
  simp [Device.admitOffer]

@[simp] theorem Device.resumeLanding_keeps (d : Device) (l : Landing) :
    (d.resumeLanding l).control = d.control ∧ (d.resumeLanding l).config = d.config ∧ (d.resumeLanding l).channels = d.channels ∧ (d.resumeLanding l).port = d.port ∧ (d.resumeLanding l).halt = d.halt := by
  simp [Device.resumeLanding]

@[simp] theorem Device.takeCandidate_keeps (d : Device) (c : Candidate) :
    (d.takeCandidate c).control = d.control ∧ (d.takeCandidate c).config = d.config ∧ (d.takeCandidate c).channels = d.channels ∧ (d.takeCandidate c).port = d.port ∧ (d.takeCandidate c).halt = d.halt := by
  unfold Device.takeCandidate; split <;> simp

@[simp] theorem Device.raiseLimit_keeps (d : Device) (l : Landing) :
    (d.raiseLimit l).control = d.control ∧ (d.raiseLimit l).config = d.config ∧ (d.raiseLimit l).channels = d.channels ∧ (d.raiseLimit l).port = d.port ∧ (d.raiseLimit l).halt = d.halt ∧ (d.raiseLimit l).lport = d.lport := by
  simp [Device.raiseLimit]

@[simp] theorem Device.distribute_keeps (d : Device) :
    (d.distribute).control = d.control ∧ (d.distribute).config = d.config ∧ (d.distribute).channels = d.channels ∧ (d.distribute).port = d.port ∧ (d.distribute).halt = d.halt := by
  unfold Device.distribute; (repeat' split) <;> simp

@[simp] theorem Device.admissionRun_keeps (d : Device) (n : Nat) :
    (Device.admissionRun n d).control = d.control ∧ (Device.admissionRun n d).config = d.config ∧ (Device.admissionRun n d).channels = d.channels ∧ (Device.admissionRun n d).port = d.port ∧ (Device.admissionRun n d).halt = d.halt := by
  induction n generalizing d with
  | zero => simp [Device.admissionRun]
  | succ n ih => unfold Device.admissionRun; (repeat' split) <;> simp [ih]

@[simp] theorem Device.sweep_keeps (d : Device) (n : Nat) :
    (Device.sweep n d).control = d.control ∧ (Device.sweep n d).config = d.config ∧ (Device.sweep n d).channels = d.channels ∧ (Device.sweep n d).port = d.port ∧ (Device.sweep n d).halt = d.halt ∧ (Device.sweep n d).lport = d.lport := by
  induction n generalizing d with
  | zero => simp [Device.sweep]
  | succ n ih => unfold Device.sweep; (repeat' split) <;> simp [ih]

@[simp] theorem Device.runAndSweep_keeps (d : Device) :
    (d.runAndSweep).control = d.control ∧ (d.runAndSweep).config = d.config ∧ (d.runAndSweep).channels = d.channels ∧ (d.runAndSweep).port = d.port ∧ (d.runAndSweep).halt = d.halt := by
  unfold Device.runAndSweep; split <;> simp

@[simp] theorem Device.suspend_keeps (d : Device) (l : Landing) :
    (d.suspend l).control = d.control ∧ (d.suspend l).config = d.config ∧ (d.suspend l).channels = d.channels ∧ (d.suspend l).port = d.port ∧ (d.suspend l).halt = d.halt := by
  simp [Device.suspend]

@[simp] theorem Device.placeWaiting_keeps (d : Device) (o : Offer) :
    (d.placeWaiting o).control = d.control ∧ (d.placeWaiting o).config = d.config ∧ (d.placeWaiting o).channels = d.channels ∧ (d.placeWaiting o).port = d.port ∧ (d.placeWaiting o).halt = d.halt ∧ (d.placeWaiting o).lport = d.lport := by
  simp [Device.placeWaiting]

@[simp] theorem Device.evict_keeps (d : Device) (t : PendingEntry) :
    (d.evict t).control = d.control ∧ (d.evict t).config = d.config ∧ (d.evict t).channels = d.channels ∧ (d.evict t).port = d.port ∧ (d.evict t).halt = d.halt := by
  simp [Device.evict]

@[simp] theorem Device.queueOffer_keeps (d : Device) (o : Offer) :
    (d.queueOffer o).control = d.control ∧ (d.queueOffer o).config = d.config ∧ (d.queueOffer o).channels = d.channels ∧ (d.queueOffer o).port = d.port ∧ (d.queueOffer o).halt = d.halt := by
  unfold Device.queueOffer; (repeat' split) <;> simp

@[simp] theorem Device.admitOrQueue_keeps (d : Device) (o : Offer) :
    (d.admitOrQueue o).control = d.control ∧ (d.admitOrQueue o).config = d.config ∧ (d.admitOrQueue o).channels = d.channels ∧ (d.admitOrQueue o).port = d.port ∧ (d.admitOrQueue o).halt = d.halt := by
  unfold Device.admitOrQueue; split <;> simp

@[simp] theorem Device.judgeAndPlace_keeps (d : Device) (o : Offer) :
    (d.judgeAndPlace o).1.control = d.control ∧ (d.judgeAndPlace o).1.config = d.config ∧ (d.judgeAndPlace o).1.channels = d.channels ∧ (d.judgeAndPlace o).1.port = d.port ∧ (d.judgeAndPlace o).1.halt = d.halt := by
  unfold Device.judgeAndPlace; (repeat' split) <;> simp

@[simp] theorem Device.supersedeRecord_keeps (d : Device) (l : Landing) :
    (d.supersedeRecord l).span = d.span ∧ (d.supersedeRecord l).control = d.control ∧ (d.supersedeRecord l).config = d.config ∧ (d.supersedeRecord l).channels = d.channels ∧ (d.supersedeRecord l).halt = d.halt := by
  simp [Device.supersedeRecord]

@[simp] theorem Device.supersedeWaiting_keeps (d : Device) (e : PendingEntry) :
    (d.supersedeWaiting e).span = d.span ∧ (d.supersedeWaiting e).control = d.control ∧ (d.supersedeWaiting e).config = d.config ∧ (d.supersedeWaiting e).channels = d.channels ∧ (d.supersedeWaiting e).port = d.port ∧ (d.supersedeWaiting e).halt = d.halt := by
  simp [Device.supersedeWaiting]

@[simp] theorem runIf_keeps (d : Device) (b : Bool) :
    (runIf b d).control = d.control ∧ (runIf b d).config = d.config ∧ (runIf b d).channels = d.channels ∧ (runIf b d).port = d.port ∧ (runIf b d).halt = d.halt := by
  unfold runIf; split <;> simp

@[simp] theorem Device.handleOffer_keeps (d : Device) (o : Offer) :
    (d.handleOffer o).control = d.control ∧ (d.handleOffer o).config = d.config ∧ (d.handleOffer o).channels = d.channels ∧ (d.handleOffer o).halt = d.halt := by
  unfold Device.handleOffer; (repeat' split) <;> simp

@[simp] theorem Device.handleWithdraw_keeps (d : Device) (k : Key) (g : Generation) (r : WithdrawReason) :
    (d.handleWithdraw k g r).control = d.control ∧ (d.handleWithdraw k g r).config = d.config ∧ (d.handleWithdraw k g r).channels = d.channels ∧ (d.handleWithdraw k g r).halt = d.halt := by
  unfold Device.handleWithdraw; (repeat' split) <;> simp

@[simp] theorem Device.acceptBlock_keeps (d : Device) (l : Landing) (p : List Byte) :
    (d.acceptBlock l p).span = d.span ∧ (d.acceptBlock l p).control = d.control ∧ (d.acceptBlock l p).config = d.config ∧ (d.acceptBlock l p).channels = d.channels ∧ (d.acceptBlock l p).halt = d.halt ∧ (d.acceptBlock l p).lport = d.lport := by
  simp [Device.acceptBlock]

@[simp] theorem Device.answerBlock_keeps (d : Device) (k : Key) (g : Generation) :
    (d.answerBlock k g).control = d.control ∧ (d.answerBlock k g).config = d.config ∧ (d.answerBlock k g).channels = d.channels ∧ (d.answerBlock k g).admission = d.admission ∧ (d.answerBlock k g).port = d.port ∧ (d.answerBlock k g).halt = d.halt ∧ (d.answerBlock k g).lport = d.lport := by
  unfold Device.answerBlock; (repeat' split) <;> simp

@[simp] theorem Device.handleBlock_keeps (d : Device) (k : Key) (g : Generation) (n : Nat) (p : List Byte) :
    (d.handleBlock k g n p).control = d.control ∧ (d.handleBlock k g n p).config = d.config ∧ (d.handleBlock k g n p).channels = d.channels ∧ (d.handleBlock k g n p).halt = d.halt ∧ (d.handleBlock k g n p).lport = d.lport := by
  unfold Device.handleBlock; (repeat' split) <;> simp

@[simp] theorem Device.completeLanding_keeps (d : Device) (l : Landing) :
    (d.completeLanding l).control = d.control ∧ (d.completeLanding l).config = d.config ∧ (d.completeLanding l).halt = d.halt := by
  unfold Device.completeLanding; dsimp only; (repeat' split) <;> simp

@[simp] theorem Device.placeFreed_keeps (d : Device) (k : Key) :
    (d.placeFreed k).control = d.control ∧ (d.placeFreed k).config = d.config ∧ (d.placeFreed k).channels = d.channels ∧ (d.placeFreed k).port = d.port ∧ (d.placeFreed k).halt = d.halt := by
  unfold Device.placeFreed; (repeat' split) <;> simp

@[simp] theorem Device.reportWrite_keeps (d : Device) (k : Key) :
    (d.reportWrite k).control = d.control ∧ (d.reportWrite k).config = d.config ∧ (d.reportWrite k).halt = d.halt := by
  unfold Device.reportWrite; dsimp only; (repeat' split) <;> simp

@[simp] theorem Device.writeDone_keeps (d : Device) (w : Option Key) :
    (d.writeDone w).control = d.control ∧ (d.writeDone w).config = d.config ∧ (d.writeDone w).halt = d.halt := by
  unfold Device.writeDone; split <;> simp

@[simp] theorem Device.writeFailed_keeps (d : Device) (w : Option Key) :
    (d.writeFailed w).control = d.control ∧ (d.writeFailed w).config = d.config ∧ (d.writeFailed w).channels = d.channels ∧ (d.writeFailed w).halt = d.halt := by
  unfold Device.writeFailed; (repeat' split) <;> simp

@[simp] theorem Device.landTimeout_keeps (d : Device) (l : Landing) :
    (d.landTimeout l).control = d.control ∧ (d.landTimeout l).config = d.config ∧ (d.landTimeout l).channels = d.channels ∧ (d.landTimeout l).halt = d.halt := by
  simp [Device.landTimeout]

@[simp] theorem Device.expireWaiting_keeps (d : Device) (e : PendingEntry) :
    (d.expireWaiting e).control = d.control ∧ (d.expireWaiting e).config = d.config ∧ (d.expireWaiting e).channels = d.channels ∧ (d.expireWaiting e).port = d.port ∧ (d.expireWaiting e).halt = d.halt := by
  simp [Device.expireWaiting]

@[simp] theorem Device.refuseLeaving_keeps (d : Device) (o : Offer) (n : Nat) :
    (d.refuseLeaving o n).control = d.control ∧ (d.refuseLeaving o n).config = d.config ∧ (d.refuseLeaving o n).channels = d.channels ∧ (d.refuseLeaving o n).halt = d.halt := by
  simp [Device.refuseLeaving]

@[simp] theorem Device.leaveLandings_keeps (d : Device) :
    (d.leaveLandings).control = d.control ∧ (d.leaveLandings).config = d.config ∧ (d.leaveLandings).channels = d.channels ∧ (d.leaveLandings).halt = d.halt := by
  unfold Device.leaveLandings
  simp only [Device.updAdmission_control, Device.updAdmission_config, Device.updAdmission_channels, Device.updAdmission_halt]
  exact ⟨(foldl_keeps Device.control _ (by intros; simp) _ _).trans (foldl_keeps Device.control _ (by intros; simp) _ _),
    (foldl_keeps Device.config _ (by intros; simp) _ _).trans (foldl_keeps Device.config _ (by intros; simp) _ _),
    (foldl_keeps Device.channels _ (by intros; simp) _ _).trans (foldl_keeps Device.channels _ (by intros; simp) _ _),
    (foldl_keeps Device.halt _ (by intros; simp) _ _).trans (foldl_keeps Device.halt _ (by intros; simp) _ _)⟩

@[simp] theorem Device.tearRecord_keeps (d : Device) (e : Ending) (o : Offer) (n : Nat) :
    (d.tearRecord e o n).span = d.span ∧ (d.tearRecord e o n).control = d.control ∧ (d.tearRecord e o n).config = d.config ∧ (d.tearRecord e o n).channels = d.channels ∧ (d.tearRecord e o n).halt = d.halt := by
  simp [Device.tearRecord]

@[simp] theorem Device.tearLandings_keeps (d : Device) (x : Station) (e : Ending) :
    (d.tearLandings x e).control = d.control ∧ (d.tearLandings x e).config = d.config ∧ (d.tearLandings x e).channels = d.channels ∧ (d.tearLandings x e).halt = d.halt := by
  unfold Device.tearLandings
  simp only [Device.updAdmission_control, Device.updAdmission_config, Device.updAdmission_channels, Device.updAdmission_halt]
  exact ⟨(foldl_keeps Device.control _ (by intros; simp) _ _).trans (foldl_keeps Device.control _ (by intros; simp) _ _),
    (foldl_keeps Device.config _ (by intros; simp) _ _).trans (foldl_keeps Device.config _ (by intros; simp) _ _),
    (foldl_keeps Device.channels _ (by intros; simp) _ _).trans (foldl_keeps Device.channels _ (by intros; simp) _ _),
    (foldl_keeps Device.halt _ (by intros; simp) _ _).trans (foldl_keeps Device.halt _ (by intros; simp) _ _)⟩

@[simp] theorem Device.enterHalt_keeps (d : Device) (x : Station) (c : HaltCause) :
    (d.enterHalt x c).span = d.span ∧ (d.enterHalt x c).control = d.control ∧ (d.enterHalt x c).config = d.config ∧ (d.enterHalt x c).channels = d.channels ∧ (d.enterHalt x c).admission = d.admission ∧ (d.enterHalt x c).port = d.port := by
  unfold Device.enterHalt; split <;> simp

@[simp] theorem Device.leaveHalt_keeps (d : Device) (x : Station) (c : HaltCause) :
    (d.leaveHalt x c).span = d.span ∧ (d.leaveHalt x c).control = d.control ∧ (d.leaveHalt x c).config = d.config ∧ (d.leaveHalt x c).channels = d.channels ∧ (d.leaveHalt x c).admission = d.admission ∧ (d.leaveHalt x c).port = d.port := by
  unfold Device.leaveHalt; dsimp only; (repeat' split) <;> simp

@[simp] theorem Device.beginHold_keeps (d : Device) :
    (d.beginHold).control = d.control ∧ (d.beginHold).config = d.config ∧ (d.beginHold).channels = d.channels ∧ (d.beginHold).admission = d.admission ∧ (d.beginHold).port = d.port := by
  simp [Device.beginHold]

@[simp] theorem Device.endHold_keeps (d : Device) (c : HaltCause) :
    (d.endHold c).control = d.control ∧ (d.endHold c).config = d.config ∧ (d.endHold c).channels = d.channels ∧ (d.endHold c).admission = d.admission ∧ (d.endHold c).port = d.port := by
  simp [Device.endHold]

@[simp] theorem Device.updateHold_keeps (d : Device) :
    (d.updateHold).control = d.control ∧ (d.updateHold).config = d.config ∧ (d.updateHold).channels = d.channels ∧ (d.updateHold).admission = d.admission ∧ (d.updateHold).port = d.port := by
  unfold Device.updateHold; (repeat' split) <;> simp

@[simp] theorem Device.leaveHold_keeps (d : Device) :
    (d.leaveHold).control = d.control ∧ (d.leaveHold).config = d.config ∧ (d.leaveHold).channels = d.channels ∧ (d.leaveHold).admission = d.admission ∧ (d.leaveHold).port = d.port := by
  unfold Device.leaveHold; dsimp only; (repeat' split) <;> simp

@[simp] theorem Device.haltFrom_keeps (d : Device) (x : Station) :
    (d.haltFrom x).span = d.span ∧ (d.haltFrom x).control = d.control ∧ (d.haltFrom x).config = d.config ∧ (d.haltFrom x).channels = d.channels ∧ (d.haltFrom x).admission = d.admission ∧ (d.haltFrom x).port = d.port := by
  unfold Device.haltFrom; split <;> simp

@[simp] theorem Device.setPeer_keeps (d : Device) (x : Station) (p : Presence) (t : Timer) :
    (d.setPeer x p t).span = d.span ∧ (d.setPeer x p t).config = d.config ∧ (d.setPeer x p t).channels = d.channels ∧ (d.setPeer x p t).admission = d.admission ∧ (d.setPeer x p t).port = d.port ∧ (d.setPeer x p t).halt = d.halt ∧ (d.setPeer x p t).lport = d.lport := by
  simp [Device.setPeer]

@[simp] theorem Device.notePeer_keeps (d : Device) (x : Station) :
    (d.notePeer x).span = d.span ∧ (d.notePeer x).config = d.config ∧ (d.notePeer x).channels = d.channels ∧ (d.notePeer x).admission = d.admission ∧ (d.notePeer x).port = d.port ∧ (d.notePeer x).halt = d.halt := by
  unfold Device.notePeer; split <;> simp

@[simp] theorem Device.tearChannels_keeps (d : Device) (x : Station) (o : TransferOutcome) :
    (d.tearChannels x o).control = d.control ∧ (d.tearChannels x o).config = d.config ∧ (d.tearChannels x o).admission = d.admission ∧ (d.tearChannels x o).halt = d.halt := by
  unfold Device.tearChannels; refine ⟨?_, ?_, ?_, ?_⟩ <;> (apply foldl_keeps; intros; (repeat' split) <;> simp)

@[simp] theorem Device.teardown_keeps (d : Device) (x : Station) (o : TransferOutcome) (e : Ending) :
    (d.teardown x o e).control = d.control ∧ (d.teardown x o e).config = d.config := by
  simp [Device.teardown]

@[simp] theorem Device.releaseLatches_keeps (d : Device) :
    (d.releaseLatches).control = d.control ∧ (d.releaseLatches).config = d.config ∧ (d.releaseLatches).admission = d.admission ∧ (d.releaseLatches).halt = d.halt := by
  unfold Device.releaseLatches; refine ⟨?_, ?_, ?_, ?_⟩ <;> (apply foldl_keeps; intros; (repeat' split) <;> simp)

@[simp] theorem Device.becomeJoined_keeps (d : Device) :
    (d.becomeJoined).config = d.config ∧ (d.becomeJoined).admission = d.admission := by
  simp [Device.becomeJoined]

@[simp] theorem Device.endJoining_keeps (d : Device) :
    (d.endJoining).config = d.config ∧ (d.endJoining).channels = d.channels ∧ (d.endJoining).admission = d.admission ∧ (d.endJoining).port = d.port ∧ (d.endJoining).halt = d.halt ∧ (d.endJoining).lport = d.lport := by
  unfold Device.endJoining; split <;> simp

@[simp] theorem Device.leaveChannel_keeps (d : Device) (c : ChannelNo) :
    (d.leaveChannel c).control = d.control ∧ (d.leaveChannel c).config = d.config ∧ (d.leaveChannel c).admission = d.admission ∧ (d.leaveChannel c).halt = d.halt := by
  unfold Device.leaveChannel; (repeat' split) <;> simp

@[simp] theorem Device.startLeaving_keeps (d : Device) :
    (d.startLeaving).config = d.config := by
  simp only [Device.startLeaving, Device.leaveHold_keeps, Device.leaveLandings_keeps]
  rw [foldl_keeps Device.config _ (by intros; simp)]
  simp

@[simp] theorem Device.returnToConfig_keeps (d : Device) :
    (d.returnToConfig).span = d.span ∧ (d.returnToConfig).config = d.config ∧ (d.returnToConfig).channels = d.channels ∧ (d.returnToConfig).admission = d.admission ∧ (d.returnToConfig).port = d.port := by
  unfold Device.returnToConfig; dsimp only; (repeat' split) <;> simp

@[simp] theorem Device.takeReset_keeps (d : Device) :
    (d.takeReset).config = d.config ∧ (d.takeReset).channels = d.channels ∧ (d.takeReset).admission = d.admission ∧ (d.takeReset).port = d.port := by
  simp [Device.takeReset]

@[simp] theorem Device.takeResetLeaving_keeps (d : Device) :
    (d.takeResetLeaving).config = d.config ∧ (d.takeResetLeaving).channels = d.channels ∧ (d.takeResetLeaving).admission = d.admission ∧ (d.takeResetLeaving).port = d.port ∧ (d.takeResetLeaving).halt = d.halt ∧ (d.takeResetLeaving).lport = d.lport := by
  unfold Device.takeResetLeaving; (repeat' split) <;> simp

@[simp] theorem Device.sendBlock_keeps (d : Device) (c : ChannelNo) :
    (d.sendBlock c).control = d.control ∧ (d.sendBlock c).config = d.config ∧ (d.sendBlock c).admission = d.admission ∧ (d.sendBlock c).halt = d.halt ∧ (d.sendBlock c).lport = d.lport := by
  unfold Device.sendBlock; split <;> simp

@[simp] theorem Device.chooseFrame_keeps (d : Device) :
    (d.chooseFrame).control = d.control ∧ (d.chooseFrame).config = d.config ∧ (d.chooseFrame).admission = d.admission ∧ (d.chooseFrame).halt = d.halt ∧ (d.chooseFrame).lport = d.lport := by
  unfold Device.chooseFrame; (repeat' split) <;> simp

@[simp] theorem Device.reportDrained_keeps (d : Device) :
    (d.reportDrained).control = d.control ∧ (d.reportDrained).config = d.config ∧ (d.reportDrained).channels = d.channels ∧ (d.reportDrained).admission = d.admission ∧ (d.reportDrained).port = d.port ∧ (d.reportDrained).halt = d.halt ∧ (d.reportDrained).lport = d.lport := by
  unfold Device.reportDrained; split <;> simp

@[simp] theorem Device.settle_keeps (d : Device) :
    (d.settle).control = d.control ∧ (d.settle).config = d.config ∧ (d.settle).admission = d.admission ∧ (d.settle).halt = d.halt ∧ (d.settle).lport = d.lport := by
  simp [Device.settle]

@[simp] theorem Device.lineStarts_keeps (d : Device) (x : LineNo) :
    (d.lineStarts x).control = d.control ∧ (d.lineStarts x).config = d.config ∧ (d.lineStarts x).admission = d.admission ∧ (d.lineStarts x).halt = d.halt := by
  unfold Device.lineStarts; refine ⟨?_, ?_, ?_, ?_⟩ <;> (apply foldl_keeps; intros; (repeat' split) <;> simp)

@[simp] theorem Device.handleWait_keeps (d : Device) (x : Station) (c : ChannelNo) (g : Generation) :
    (d.handleWait x c g).control = d.control ∧ (d.handleWait x c g).config = d.config ∧ (d.handleWait x c g).admission = d.admission ∧ (d.handleWait x c g).port = d.port ∧ (d.handleWait x c g).halt = d.halt ∧ (d.handleWait x c g).lport = d.lport := by
  unfold Device.handleWait; split <;> simp

@[simp] theorem Device.takeGrant_keeps (d : Device) (c : ChannelNo) (a b : Nat) :
    (d.takeGrant c a b).control = d.control ∧ (d.takeGrant c a b).config = d.config ∧ (d.takeGrant c a b).admission = d.admission ∧ (d.takeGrant c a b).halt = d.halt ∧ (d.takeGrant c a b).lport = d.lport := by
  simp [Device.takeGrant]

@[simp] theorem Device.handleGrant_keeps (d : Device) (x : Station) (c : ChannelNo) (g : Generation) (a b : Nat) :
    (d.handleGrant x c g a b).control = d.control ∧ (d.handleGrant x c g a b).config = d.config ∧ (d.handleGrant x c g a b).admission = d.admission ∧ (d.handleGrant x c g a b).halt = d.halt ∧ (d.handleGrant x c g a b).lport = d.lport := by
  unfold Device.handleGrant; dsimp only; (repeat' split) <;> simp

@[simp] theorem Device.handleRefuse_keeps (d : Device) (x : Station) (c : ChannelNo) (g : Generation) (r : RefuseReason) :
    (d.handleRefuse x c g r).control = d.control ∧ (d.handleRefuse x c g r).config = d.config ∧ (d.handleRefuse x c g r).admission = d.admission ∧ (d.handleRefuse x c g r).halt = d.halt := by
  unfold Device.handleRefuse; split <;> simp

@[simp] theorem Device.liftNext_keeps (d : Device) (c : ChannelNo) :
    (d.liftNext c).span = d.span ∧ (d.liftNext c).control = d.control ∧ (d.liftNext c).config = d.config ∧ (d.liftNext c).admission = d.admission ∧ (d.liftNext c).halt = d.halt ∧ (d.liftNext c).lport = d.lport := by
  unfold Device.liftNext; dsimp only; (repeat' split) <;> simp

@[simp] theorem Device.takeReceipt_keeps (d : Device) (c : ChannelNo) (a b : Nat) (f : Bool) :
    (d.takeReceipt c a b f).control = d.control ∧ (d.takeReceipt c a b f).config = d.config ∧ (d.takeReceipt c a b f).admission = d.admission ∧ (d.takeReceipt c a b f).halt = d.halt := by
  unfold Device.takeReceipt; split <;> simp

@[simp] theorem Device.handleReceipt_keeps (d : Device) (x : Station) (c : ChannelNo) (g : Generation) (a b : Nat) (f : Bool) :
    (d.handleReceipt x c g a b f).control = d.control ∧ (d.handleReceipt x c g a b f).config = d.config ∧ (d.handleReceipt x c g a b f).admission = d.admission ∧ (d.handleReceipt x c g a b f).halt = d.halt := by
  unfold Device.handleReceipt; (repeat' split) <;> simp

@[simp] theorem Device.takePause_keeps (d : Device) (c : ChannelNo) (n : Nat) :
    (d.takePause c n).span = d.span ∧ (d.takePause c n).control = d.control ∧ (d.takePause c n).config = d.config ∧ (d.takePause c n).admission = d.admission ∧ (d.takePause c n).halt = d.halt ∧ (d.takePause c n).lport = d.lport := by
  simp [Device.takePause]

@[simp] theorem Device.handlePause_keeps (d : Device) (x : Station) (c : ChannelNo) (g : Generation) (n : Nat) :
    (d.handlePause x c g n).span = d.span ∧ (d.handlePause x c g n).control = d.control ∧ (d.handlePause x c g n).config = d.config ∧ (d.handlePause x c g n).admission = d.admission ∧ (d.handlePause x c g n).halt = d.halt ∧ (d.handlePause x c g n).lport = d.lport := by
  unfold Device.handlePause; (repeat' split) <;> simp

@[simp] theorem Device.handleSignal_keeps (d : Device) (x : Station) (e : EventNo) (a : BitVec 16) :
    (d.handleSignal x e a).control = d.control ∧ (d.handleSignal x e a).config = d.config ∧ (d.handleSignal x e a).admission = d.admission ∧ (d.handleSignal x e a).halt = d.halt := by
  unfold Device.handleSignal; split <;> simp

@[simp] theorem Device.handleJoin_keeps (d : Device) (x : Station) :
    (d.handleJoin x).config = d.config := by
  unfold Device.handleJoin; split <;> simp

@[simp] theorem Device.handleLeave_keeps (d : Device) (x : Station) :
    (d.handleLeave x).config = d.config := by
  unfold Device.handleLeave; split <;> simp

@[simp] theorem Device.freeLane_keeps (d : Device) :
    (d.freeLane).control = d.control ∧ (d.freeLane).config = d.config ∧ (d.freeLane).channels = d.channels ∧ (d.freeLane).admission = d.admission ∧ (d.freeLane).port = d.port ∧ (d.freeLane).halt = d.halt ∧ (d.freeLane).lport = d.lport := by
  simp [Device.freeLane]

@[simp] theorem Device.countJoin_keeps (d : Device) :
    (d.countJoin).config = d.config ∧ (d.countJoin).admission = d.admission := by
  unfold Device.countJoin; dsimp only; (repeat' split) <;> simp

@[simp] theorem Device.resendOffer_keeps (d : Device) (c : ChannelNo) :
    (d.resendOffer c).control = d.control ∧ (d.resendOffer c).config = d.config ∧ (d.resendOffer c).admission = d.admission ∧ (d.resendOffer c).halt = d.halt := by
  unfold Device.resendOffer; (repeat' split) <;> simp

@[simp] theorem Device.fallBack_keeps (d : Device) (c : ChannelNo) (n : Nat) :
    (d.fallBack c n).span = d.span ∧ (d.fallBack c n).control = d.control ∧ (d.fallBack c n).config = d.config ∧ (d.fallBack c n).admission = d.admission ∧ (d.fallBack c n).halt = d.halt ∧ (d.fallBack c n).lport = d.lport := by
  simp [Device.fallBack]

@[simp] theorem Device.goBackOrProbe_keeps (d : Device) (c : ChannelNo) :
    (d.goBackOrProbe c).span = d.span ∧ (d.goBackOrProbe c).control = d.control ∧ (d.goBackOrProbe c).config = d.config ∧ (d.goBackOrProbe c).admission = d.admission ∧ (d.goBackOrProbe c).halt = d.halt ∧ (d.goBackOrProbe c).lport = d.lport := by
  unfold Device.goBackOrProbe; dsimp only; (repeat' split) <;> simp

@[simp] theorem Device.streamExpiry_keeps (d : Device) (c : ChannelNo) :
    (d.streamExpiry c).control = d.control ∧ (d.streamExpiry c).config = d.config ∧ (d.streamExpiry c).admission = d.admission ∧ (d.streamExpiry c).halt = d.halt := by
  unfold Device.streamExpiry; split <;> simp

@[simp] theorem Device.freePort_keeps (d : Device) :
    (d.freePort).span = d.span ∧ (d.freePort).control = d.control ∧ (d.freePort).config = d.config ∧ (d.freePort).channels = d.channels ∧ (d.freePort).admission = d.admission ∧ (d.freePort).halt = d.halt ∧ (d.freePort).lport = d.lport := by
  simp [Device.freePort]

@[simp] theorem Device.fillBuffer_keeps (d : Device) (r : ReadRequest) (x : List Byte) :
    (d.fillBuffer r x).span = d.span ∧ (d.fillBuffer r x).control = d.control ∧ (d.fillBuffer r x).config = d.config ∧ (d.fillBuffer r x).admission = d.admission ∧ (d.fillBuffer r x).port = d.port ∧ (d.fillBuffer r x).halt = d.halt ∧ (d.fillBuffer r x).lport = d.lport := by
  simp [Device.fillBuffer]

@[simp] theorem Device.popWrite_keeps (d : Device) :
    (d.popWrite).span = d.span ∧ (d.popWrite).control = d.control ∧ (d.popWrite).config = d.config ∧ (d.popWrite).channels = d.channels ∧ (d.popWrite).admission = d.admission ∧ (d.popWrite).halt = d.halt ∧ (d.popWrite).lport = d.lport := by
  simp [Device.popWrite]

end Sys2Proof.Machine
end

