-- ==== Sys2Proof/Laws/Ops.lean ====
section
/-! SUPPORT. What the shared operations of a transfer and the end of an event come to: `settle` leaves the Local Port
alone and does nothing to a served block; beginning and ending a transfer are the records of Safety.lean. -/

namespace Sys2Proof.Machine

variable (d : Device) (f : LocalPort → LocalPort)

theorem Device.updSpan_local (g : SpanInterface → SpanInterface) :
    (d.updLocal f).updSpan g = (d.updSpan g).updLocal f := rfl
theorem Device.updPort_local (g : MemoryPort → MemoryPort) :
    (d.updLocal f).updPort g = (d.updPort g).updLocal f := rfl
theorem Device.updChannel_local (c : ChannelNo) (g : Channel → Channel) :
    (d.updLocal f).updChannel c g = (d.updChannel c g).updLocal f := rfl

theorem Device.emptyBuffer_local (c : ChannelNo) (b : Fin 2) :
    (d.updLocal f).emptyBuffer c b = (d.emptyBuffer c b).updLocal f := rfl

theorem Device.emptyBuffers_local (c : ChannelNo) (k : FetchBuffer → Bool) :
    (d.updLocal f).emptyBuffers c k = (d.emptyBuffers c k).updLocal f := by
  unfold Device.emptyBuffers
  simp only [Device.updLocal_channels, Device.emptyBuffer_local]
  by_cases h0 : k d.channels[c].buffers[(0 : Fin 2)] = true <;> simp only [h0, if_true] <;>
    simp only [Bool.false_eq_true, if_false, Device.updLocal_channels, apply_ite (Device.updLocal · f),
      Device.emptyBuffer_local]
  all_goals exact ite_congr rfl (fun _ => rfl) fun _ => rfl

theorem Device.requestRead_local (c : ChannelNo) (n : Nat) :
    (d.updLocal f).requestRead c n = (d.requestRead c n).updLocal f := by
  unfold Device.requestRead
  simp only [Device.updLocal_channels]
  rcases d.channels[c].active with _ | a
  · rfl
  · rcases d.channels[c].emptySlot with _ | b
    · rfl
    · dsimp only
      rw [apply_ite (Device.updLocal · f)]
      exact ite_congr rfl (fun _ => rfl) fun _ => rfl

theorem Device.requestReads_local (c : ChannelNo) :
    (d.updLocal f).requestReads c = (d.requestReads c).updLocal f := by
  simp only [Device.requestReads, Device.requestRead_local, Device.updLocal_channels]

theorem Device.sendBlock_local (c : ChannelNo) :
    (d.updLocal f).sendBlock c = (d.sendBlock c).updLocal f := by
  unfold Device.sendBlock
  simp only [Device.updLocal_channels, Device.updLocal_control]
  rcases d.channels[c].readyBlock with _ | ⟨a, data⟩
  · rfl
  · simp only [Device.updSpan_local, Device.emptyBuffers_local, Device.updChannel_local, Device.requestReads_local]

theorem Device.reportDrained_local : (d.updLocal f).reportDrained = d.reportDrained.updLocal f := by
  unfold Device.reportDrained
  rw [apply_ite (Device.updLocal · f)]
  exact ite_congr rfl (fun _ => rfl) fun _ => rfl

theorem Device.chooseFrame_local : (d.updLocal f).chooseFrame = d.chooseFrame.updLocal f := by
  unfold Device.chooseFrame Device.readyChannel Device.halted
  simp only [Device.updLocal_span, Device.updLocal_control, Device.updLocal_channels, Device.updLocal_halt,
    Device.sendBlock_local, Device.updSpan_local]
  rcases d.span.lane with _ | fr
  · rcases d.span.pickStation with _ | ⟨b, s⟩
    · rcases d.span.replies with _ | ⟨r, rs⟩
      · rcases pickInitiation d.control.number d.halt.halted d.span.initiation with _ | ⟨fr, q⟩
        · dsimp only
          rw [apply_ite (Device.updLocal · f)]
          refine ite_congr rfl (fun _ => rfl) fun _ => ?_
          rcases firstMin _ _ with _ | c <;> rfl
        · rfl
      · rfl
    · rfl
  · rfl

theorem Device.settle_local : (d.updLocal f).settle = d.settle.updLocal f := by
  simp only [Device.settle, Device.reportDrained_local, Device.chooseFrame_local, Device.updPort_local]

/-- An accepted command, from what its body does. -/
theorem Device.command_ok {d : Device} {n : Nat} {acc : StationState → Bool} {body : Device → Device × ResultCode}
    {e : Device} {r : ResultCode} (h : acc d.control.state = true)
    (hb : body (d.updLocal fun p => { p with command := BitVec.ofNat 8 n }) =
      (e.updLocal fun p => { p with command := BitVec.ofNat 8 n }, r)) :
    d.command n acc body = e.answer n r := by
  simp only [Device.command, Device.updLocal_control, h, if_true, hb]
  rfl


theorem Vector.two {α : Type} (v : Vector α 2) (a b : α) : (v.set 0 a).set 1 b = #v[a, b] := by
  apply Vector.ext
  intro i hi
  interval_cases i <;> simp

theorem MemoryPort.giveUp_both (p : MemoryPort) (c : ChannelNo) : (p.giveUp c 0).giveUp c 1 = p.without c := by
  have hb : ∀ b : Fin 2, b = 0 ∨ b = 1 := by decide
  simp only [MemoryPort.giveUp, MemoryPort.without, MemoryPort.mk.injEq, List.filter_filter, true_and]
  constructor
  · congr 1; funext r
    rcases hb r.buffer with h | h <;> by_cases hc : r.channel = c <;> simp [h, hc]
  · rcases p.access with _ | (_ | ⟨r, ab⟩)
    · rfl
    · rfl
    · rcases hb r.buffer with h | h <;> by_cases hc : r.channel = c <;> simp [h, hc]

theorem Device.emptyBuffers_all (d : Device) (c : ChannelNo) :
    d.emptyBuffers c (fun _ => false) =
      { d with channels := d.channels.set c { d.channels[c] with buffers := #v[.empty, .empty] },
               port := d.port.without c } := by
  simp only [Device.emptyBuffers, Device.emptyBuffer, Device.updChannel, Device.updPort, Bool.false_eq_true, if_false,
    Device.mk.injEq, true_and, and_true]
  refine ⟨?_, MemoryPort.giveUp_both _ _⟩
  have h := Vector.two d.channels[c].buffers .empty .empty
  simp only [Fin.getElem_fin, Fin.val_zero, Fin.val_one] at h ⊢
  simp [h]

theorem Device.beginTransfer_begun (d : Device) (c : ChannelNo) (a : Descriptor) (ho : d.control.owed = false)
    (ha : d.channels[c].active = some a) : d.beginTransfer c = d.begun c a := by
  simp only [Device.beginTransfer, ha, Device.emptyBuffers_all, Device.updChannel, Device.updSpan, Device.claimOffer,
    Device.claimInitiation, Device.begun, ho]
  simp

theorem Device.endTransfer_ended (d : Device) (c : ChannelNo) (a : Descriptor) (o : TransferOutcome)
    (ref : Option RefuseReason) (hd : o ≠ .done) (ha : d.channels[c].active = some a) :
    d.endTransfer c o ref = d.ended c a o (outcomeReason o ref) := by
  simp only [Device.endTransfer, ha]
  have h1 : d.closeTransfer c a o =
      { d with
        channels := d.channels.set c { d.channels[c] with buffers := #v[.empty, .empty], timer := none }
        span :=
          { d.span with
            initiation := changeSlot c dropOffer
              (match o.withdraw with
               | some r =>
                 if d.control.owed then d.span.initiation
                 else placeCurrent c
                   (.withdraw { target := a.target, generation := d.channels[c].generation, reason := r })
                   d.span.initiation
               | none => d.span.initiation) }
        port := d.port.without c } := by
    simp only [Device.closeTransfer, Device.stopMachinery, Device.emptyBuffers_all, Device.removeOffer]
    rcases o.withdraw with _ | r
    · simp [Device.updChannel, Device.updSpan]
    · simp only [Device.claimWithdraw, Device.claimInitiation, Device.updChannel, Device.updSpan]
      by_cases ho : d.control.owed = true <;> simp [ho]
  rw [h1]
  simp only [Device.applyDone, Device.recordOutcome, Device.afterPromotion, hd, if_false]
  cases o <;> first | exact absurd rfl hd | skip
  all_goals
    simp only [Device.post, Device.updLocal, Device.updChannel, Device.ended, confirmedBytes, Device.mk.injEq, true_and]
    simp [Channel.promote]
    rcases d.channels[c].standby <;> simp <;> rfl

theorem Device.settle_served (d : Device) (h : d.served) (hd : d.span.lane = none → ¬d.drained) : d.settle = d := by
  obtain ⟨hl, hp⟩ := h
  have h1 : d.reportDrained = d := by
    unfold Device.reportDrained
    rw [if_neg]
    rintro ⟨a, b, c, e, f⟩
    exact hd a ⟨e, f, b, c⟩
  have h2 : d.chooseFrame = d := by
    unfold Device.chooseFrame
    rcases hla : d.span.lane with _ | fr
    · obtain ⟨k1, k2, k3, k4⟩ := hl hla
      simp only [k1, k2, k3]
      split
      · rfl
      · rename_i hn
        simp only [Bool.or_eq_true, not_or, Bool.not_eq_true] at hn
        rw [k4 hn.1 hn.2]
    · rfl
  have h3 : d.port.issue = d.port := by
    unfold MemoryPort.issue
    rcases ha : d.port.access with _ | a
    · obtain ⟨k1, k2⟩ := hp ha
      simp [k1, k2, bestRead, firstMin]
    · rfl
  simp only [Device.settle, h1, h2, Device.updPort, h3]

end Sys2Proof.Machine
end

