-- ==== Sys2Proof/Tests/Slice0.lean ====
section
/-! SUPPORT. Tests: the ill-formed terms that the well-formedness check refuses, one step of each command on small
states, and for each statement with hypotheses a state that meets them. -/

namespace Sys2Proof.Tests
open Sys2Proof Sys2Proof.Machine

set_option Elab.async false

/-! ### Small states -/

def quiet (d : Device) : State := { dev := d, pending := [] }

/-- The block after a command or event that completes. -/
def run (i : Instr) (d : Device) : Option Device :=
  match exec i (quiet d) with
  | .next t => some t.dev
  | .fault _ => none
  | .refused _ => none

/-- A property of the block after a command or event that completes. -/
def after (i : Instr) (d : Device) (p : Device → Bool) : Bool := (run i d).any p

def faults (i : Instr) (d : Device) (f : Fault) : Bool :=
  match exec i (quiet d) with
  | .next _ => false
  | .fault g => decide (g = f)
  | .refused _ => false

def conf : Device := Device.powerOn 0 false

def inState (x : StationState) (d : Device) : Device := { d with control := { d.control with state := x } }

def withArgs (a0 a1 a2 a3 a4 a5 : Word) (d : Device) : Device :=
  { d with lport := { d.lport with args := #v[a0, a1, a2, a3, a4, a5] } }

def withChannel (c : ChannelNo) (ch : Channel) (d : Device) : Device := { d with channels := d.channels.set c ch }

/-- Station 0 in JOINED: stations 1 and 2 PRESENT; W0 SHARED and W1 EXCLUSIVE, both open to all, W2 enabled and closed to
all; event 5 starts C1 and is honoured from station 1 alone; C1 is bound to TRIG0. -/
def joined : Device :=
  { conf with
    control := { conf.control with
      state := .joined
      peers := (conf.control.peers.set 1 { presence := .present, window := none }).set 2
        { presence := .present, window := some 3 } }
    config := { conf.config with
      windows := ((conf.config.windows.set 0
          { enabled := true, base := 0x1000, size := 4096, mask := 0xff, mode := .shared, pinned := false }).set 1
          { enabled := true, base := 0x2000, size := 64, mask := 0xff, mode := .exclusive, pinned := false }).set 2
          { enabled := true, base := 0x3000, size := 64, mask := 0, mode := .shared, pinned := false }
      signals := conf.config.signals.set 5 { action := .noticeAndStart, channel := 1, mask := 2 }
      lines := conf.config.lines.set 1 (some 0) } }

def onLane (b : FrameBody) (d : Device) : Device :=
  { d with span := { d.span with lane := some { source := 0, dest := .all, body := b } } }

/-- 100 bytes, 2 blocks, to station 1. -/
def desc : Descriptor :=
  { target := 1, window := 3, offset := 64, source := 0x8000, length := 100, level := 2, landingEvent := some 7,
    doneEvent := none, chain := false }

/-- A READY channel. -/
def readyCh : Channel := { Channel.afterReset 4 with state := .ready, active := some desc }

/-- A channel in a transfer of generation 4. -/
def transfer (x : ChannelState) (next accepted limit : Nat) : Channel :=
  { readyCh with state := x, next := next, accepted := accepted, limit := limit, sends := 1, timer := some 10 }

/-- C1 of the joined station is this channel, the lane is in use. -/
def sending (ch : Channel) : Device := withChannel 1 ch (onLane .resume joined)

/-- The key of station 1's C2. -/
def key12 : Key := { source := 1, channel := 2 }

def fields (level : Level) (window : WindowNo) (length : Nat) : OfferFields :=
  { level := level, window := window, offset := 0, length := length, landingEvent := none }

/-- The offer of key (1, C2), generation 6: 200 bytes, 4 blocks, into W0. -/
def offer12 : Offer := { key := key12, generation := 6, fields := fields 3 0 200 }

/-- Its landing: two blocks granted, `n` of them accepted and written. -/
def landing12 (n : Nat) : Landing :=
  { offer := offer12, accepted := n, written := n, limit := 2, phase := .active, timer := some 20 }

/-- The landing with all four blocks accepted, `n` of them written. -/
def settling12 (n : Nat) : Landing :=
  { offer := offer12, accepted := 4, written := n, limit := 4, phase := .settling, timer := some 20 }

def suspended12 : Landing := { landing12 1 with limit := 1, phase := .suspended, timer := none }

def waiting12 : PendingEntry := { offer := offer12, lifetime := some 50 }

def withLanding (l : Landing) (d : Device) : Device :=
  { d with admission := { d.admission with landings := [l] } }

/-- The joined station, its lane in use, with one landing. -/
def target (l : Landing) : Device := withLanding l (onLane .resume joined)

def withSuspended (l : Landing) (d : Device) : Device :=
  { d with admission := { d.admission with suspended := [l] } }

def withWaiting (l : List PendingEntry) (d : Device) : Device :=
  { d with admission := { d.admission with waiting := l } }

def writeOf (owner : Option Key) : WriteEntry := { address := 0x1000, payload := [1, 2], owner := owner }

/-- The head of the write queue is on its way to memory. -/
def writing (ws : List WriteEntry) (d : Device) : Device :=
  { d with port := { writes := ws, reads := [], access := some .write } }

/-! ### The well-formedness check -/

def word (v : Word) : WordWrite := { value := v, lanes := 15 }

theorem test_command_number_is_another_row :
    Instr.wellFormed (.unknownCommand (word 20)) = false ∧ Instr.wellFormed (.unknownCommand (word 21)) = true := by
  decide

theorem test_command_and_control_are_other_rows :
    Instr.wellFormed (.registerWrite 0 (word 1)) = false ∧ Instr.wellFormed (.registerWrite 13 (word 1)) = false ∧
    Instr.wellFormed (.registerWrite 1 (word 1)) = true := by decide

theorem test_offer_ranges :
    (fields 0 0 0).inRange = false ∧ (fields 0 0 1).inRange = true ∧ (fields 0 0 1048577).inRange = false ∧
    Instr.wellFormed (.offerArrives 1 0 0 { fields 0 0 1 with offset := 16777216 }) = false := by decide

theorem test_grant_ranges :
    Instr.wellFormed (.grantArrives 1 0 0 16384 16384) = false ∧ Instr.wellFormed (.grantArrives 1 0 0 0 0) = false ∧
    Instr.wellFormed (.grantArrives 1 0 0 16383 16384) = true := by decide

theorem test_block_ranges :
    Instr.wellFormed (.blockArrives 1 0 0 16384 [0]) = false ∧ Instr.wellFormed (.blockArrives 1 0 0 0 []) = false ∧
    Instr.wellFormed (.blockArrives 1 0 0 0 (List.replicate 65 0)) = false ∧
    Instr.wellFormed (.blockArrives 1 0 0 16383 (List.replicate 64 0)) = true := by decide

theorem test_receipt_ranges :
    Instr.wellFormed (.receiptArrives 1 0 0 16385 1 false) = false ∧
    Instr.wellFormed (.receiptArrives 1 0 0 0 0 false) = false ∧
    Instr.wellFormed (.receiptArrives 1 0 0 16384 16384 false) = true := by decide

theorem test_pause_range :
    Instr.wellFormed (.pauseArrives 1 0 0 16384) = false ∧ Instr.wellFormed (.pauseArrives 1 0 0 16383) = true := by
  decide

theorem test_read_data_range :
    Instr.wellFormed (.readCompletion []) = false ∧ Instr.wellFormed (.readCompletion (List.replicate 65 0)) = false ∧
    Instr.wellFormed (.readCompletion [0]) = true := by decide

/-! ### The CRC -/

/-- R7's check: the nine characters "123456789" give 0x29B1. -/
theorem test_crc_of_the_digits :
    crc16 [0x31, 0x32, 0x33, 0x34, 0x35, 0x36, 0x37, 0x38, 0x39] = 0x29b1 := by decide +kernel

/-! ### Commands of the local processor -/

theorem test_set_window : after .setWindow (withArgs 4 0x1000 128 3 0x010101 0 conf) (fun d =>
    decide (d.config.windows[4] =
      { enabled := true, base := 0x1000, size := 128, mask := 3, mode := .exclusive, pinned := true } ∧
      d.lport.command = 1 ∧ d.lport.result = .ok)) = true := by decide +kernel

theorem test_set_window_range : after .setWindow (withArgs 4 0xfffffff0 128 3 0 0 conf) (fun d =>
    decide (d = { withArgs 4 0xfffffff0 128 3 0 0 conf with
      lport := { (withArgs 4 0xfffffff0 128 3 0 0 conf).lport with command := 1, result := .badArgument } })) = true := by
  decide +kernel

theorem test_set_signal : after .setSignal (withArgs 31 3 2 0x80 0 0 conf) (fun d =>
    decide (d.config.signals[31] = { action := .noticeAndStart, channel := 2, mask := 0x80 })) = true := by
  decide +kernel

theorem test_set_line : after .setLine (withArgs 6 4 0 0 0 0 conf) (fun d =>
    decide (d.config.lines[6] = some 3)) = true := by decide +kernel

theorem test_set_timers : after .setTimers (withArgs 1 2 3 255 8 0 conf) (fun d =>
    decide (d.config.tReply = 1 ∧ d.config.tQueue = 2 ∧ d.config.tPause = 3 ∧ d.config.tLand = 255 ∧
      d.config.credit = 8)) = true := by decide +kernel

theorem test_join_sends_join : after .join conf (fun d =>
    decide (d.control.state = .joining ∧ d.span.lane = some { source := 0, dest := .all, body := .join })) = true := by
  decide +kernel

theorem test_leave_sends_leave : after .leave joined (fun d =>
    decide (d.control.state = .leaving ∧ d.span.lane = some { source := 0, dest := .all, body := .leave })) = true := by
  decide +kernel

theorem test_leave_refuses_the_landing : after .leave (target (landing12 1)) (fun d =>
    decide (d.admission.landings = [] ∧ d.span.leaveDue = false ∧
      d.span.replies = [{ key := key12, generation := 6, kind := .refuse .leaving }] ∧
      d.lport.queue = [.landingEnded key12 0 6 .leaving 64])) = true := by decide +kernel

theorem test_reset_in_config : after .resetStation (withArgs 1 2 3 4 5 6 conf) (fun d =>
    decide (d.lport = conf.lport)) = true := by decide +kernel

theorem test_reset_is_owed_when_joined : after .resetStation joined (fun d =>
    decide (d.control.state = .leaving ∧ d.control.owed = true ∧ d.lport.command = 7 ∧
      d.span.lane = some { source := 0, dest := .all, body := .leave })) = true := by decide +kernel

theorem test_load : after .load (withArgs 1 0x00020301 64 0x8000 100 0xff07 conf) (fun d =>
    decide (d.channels[1].active = some desc ∧ d.channels[1].state = .ready)) = true := by decide +kernel

theorem test_load_own_station : after .load (withArgs 1 0x00020300 64 0x8000 100 0xff07 conf) (fun d =>
    decide (d.lport.result = .badDescriptor ∧ d.channels = conf.channels)) = true := by decide +kernel

theorem test_start_sends_the_offer : after .start (withArgs 1 0 0 0 0 0 (withChannel 1 readyCh joined)) (fun d =>
    decide (d.channels[1].state = .offering ∧ d.channels[1].generation = 5 ∧ d.channels[1].timer = some 10 ∧
      d.span.lane = some { source := 0, dest := .station 1, body := .offer 1 5 { fields 2 3 100 with offset := 64, landingEvent := some 7 } })) = true := by
  decide +kernel

theorem test_start_of_empty : after .start joined (fun d => decide (d.lport.result = .empty)) = true := by
  decide +kernel

theorem test_stop_aborts : after .stop (withArgs 1 0 0 0 0 0 (sending (transfer .streaming 1 1 2))) (fun d =>
    decide (d.channels[1].state = .empty ∧
      d.channels[1].last = { outcome := some .aborted, reason := some (.withdraw .aborted), generation := 4, bytes := 64 } ∧
      d.span.initiation = [.slot 1 none (some (.withdraw { target := 1, generation := 4, reason := .aborted }))] ∧
      d.lport.queue = [.channelEnded 1 1 3 4 .aborted (some (.withdraw .aborted)) 64])) = true := by decide +kernel

theorem test_clear : after .clear (withArgs 1 0 0 0 0 0 (withChannel 1 readyCh conf)) (fun d =>
    decide (d.channels[1] = Channel.afterReset 4)) = true := by decide +kernel

theorem test_clear_busy : after .clear (withArgs 1 0 0 0 0 0 (sending (transfer .queued 0 0 0))) (fun d =>
    decide (d.lport.result = .busy)) = true := by decide +kernel

theorem test_signal_to_all : after .signal (withArgs 15 5 0xbeef 0 0 0 joined) (fun d =>
    decide (d.span.lane = some { source := 0, dest := .all, body := .signal 5 0xbeef })) = true := by decide +kernel

theorem test_signal_to_itself : after .signal (withArgs 0 5 0 0 0 0 joined) (fun d =>
    decide (d.lport.result = .badArgument)) = true := by decide +kernel

theorem test_halt_assert : after .haltAssert joined (fun d =>
    decide (d.halt.holding = true ∧ d.halted = true ∧ d.halt.repeatTimer = some 2 ∧
      d.span.lane = some { source := 0, dest := .all, body := .halt } ∧
      d.lport.queue = [.haltChange 0 .hold])) = true := by decide +kernel

theorem test_halt_release : (match run .haltAssert joined with
    | some d => after .haltRelease d fun e => decide (e.halted = false ∧ e.span.resumeDue = true)
    | none => false) = true := by decide +kernel

theorem test_read_channel :
    after .readChannel (withArgs 1 0 0 0 0 0 (withChannel 1 (transfer .streaming 1 0 2) conf)) (fun d =>
    decide (d.lport.args = #v[0x10020404, 1, 0, 2, 0, 0])) = true := by decide +kernel

theorem test_read_landings : after .readLandings (target (landing12 1)) (fun d =>
    decide (d.lport.args = #v[1, 0x1f010000, 0, 0, 0, 0])) = true := by decide +kernel

theorem test_read_window : after .readWindow (withArgs 1 9 9 9 9 9 joined) (fun d =>
    decide (d.lport.args = #v[1, 0x2000, 64, 0xff, 0x0101, 0])) = true := by decide +kernel

theorem test_read_signal : after .readSignal (withArgs 5 9 9 9 9 9 joined) (fun d =>
    decide (d.lport.args = #v[5, 3, 1, 2, 0, 0])) = true := by decide +kernel

/-- R183: kind 6 is SIGNAL, from station 1, event 5, cause FRAME (1). -/
theorem test_take : after .take
    { joined with lport := { joined.lport with queue := [.signal 1 .frame 5 0xbeef] } } (fun d =>
    decide (d.lport.queue = [] ∧ d.lport.notice = (Notice.signal 1 .frame 5 0xbeef).words ∧
      d.lport.notice[3] = 0xbeef ∧ d.lport.notice[0].extractLsb' 16 3 = 1#3)) = true := by decide +kernel

theorem test_take_empty : after .take joined (fun d => decide (d.lport.result = .empty)) = true := by decide +kernel

theorem test_clear_flags : after .clearFlags
    { joined with span := { joined.span with idConflict := true, laneMismatch := true }
                  lport := { joined.lport with loss := true } } (fun d =>
    decide (d = { joined with lport := { joined.lport with command := 20 } })) = true := by decide +kernel

theorem test_unknown_command : after (.unknownCommand { value := 0x115, lanes := 2 }) joined (fun d =>
    decide (d = { joined with lport := { joined.lport with result := .badArgument } })) = true ∧
    run (.unknownCommand (word 0x114)) joined = run .clearFlags joined := by decide +kernel

theorem test_control_write : after (.controlWrite { value := 3, lanes := 1 }) joined (fun d =>
    d.lport.enable && !d.noticeLine) = true := by decide +kernel

theorem test_register_write : after (.registerWrite 6 { value := 0xffffffff, lanes := 5 }) joined (fun d =>
    decide (d.lport.args = #v[0, 0, 0, 0, 0, 0x00ff00ff])) = true ∧
    run (.registerWrite 0 (word 13)) joined = run .haltAssert joined ∧
    run (.registerWrite 13 (word 1)) joined = run (.controlWrite (word 1)) joined := by decide +kernel

theorem test_read_only_word : after (.registerWrite 8 (word 1)) joined (fun d => decide (d = joined)) = true := by
  decide +kernel

/-! ### Pins -/

theorem test_power_on_reset : after (.powerOnReset 5) (target (landing12 1)) (fun d =>
    decide (d = Device.powerOn 5 false)) = true := by decide +kernel

theorem test_trigger : after (.triggerEdge 0) (sending readyCh) (fun d =>
    decide (d.channels[1].state = .offering)) = true ∧
    after (.triggerEdge 0) joined (fun d => decide (d.lport.queue = [.startMissed 1 .line])) = true := by
  decide +kernel

theorem test_halt_line : after (.haltLineChange true) joined (fun d => d.halt.holding && d.halt.line) = true := by
  decide +kernel

/-! ### Frames -/

/-- A JOIN of station `x` with its CRC, on port 1. -/
def joinFrame (x : Byte) : ArrivingFrame :=
  { port := 1, bytes := [0xa0 + x, 0xf0] ++ crcBytes [0xa0 + x, 0xf0], fieldsInRange := true, early := false }

theorem test_discards : after (.frameDiscard (joinFrame 0)) joined (fun d =>
      decide (d.span.idConflict = true ∧ d.lport.queue = [.stationConflict 1])) = true ∧
    after (.frameDiscard (joinFrame 2)) joined (fun d =>
      decide (d = { joined with span := { joined.span with laneMismatch := true } })) = true ∧
    faults (.frameDiscard (joinFrame 1)) joined .frameIsDelivered = true := by decide +kernel

theorem test_bad_crc : after (.frameDiscard { joinFrame 0 with bytes := [0xa0, 0xf0, 0, 0] }) joined (fun d =>
    decide (d = joined)) = true := by decide +kernel

theorem test_offer_admitted : after (.offerArrives 1 2 6 (fields 3 0 200)) joined (fun d =>
    decide (d.admission.landings =
      [{ offer := offer12, accepted := 0, written := 0, limit := 4, phase := .active, timer := some 20 }] ∧
      d.span.lane = some { source := 0, dest := .station 1, body := .grant 2 6 0 4 })) = true := by decide +kernel

theorem test_offer_refused : after (.offerArrives 1 2 6 (fields 3 2 64)) joined (fun d =>
    decide (d.span.lane = some { source := 0, dest := .station 1, body := .refuse 2 6 .access })) = true := by
  decide +kernel

theorem test_wait : after (.waitArrives 1 1 4) (sending (transfer .offering 0 0 0)) (fun d =>
    decide (d.channels[1] = { transfer .queued 0 0 0 with timer := some 50 })) = true := by decide +kernel

theorem test_grant : after (.grantArrives 1 1 4 0 2) (sending (transfer .offering 0 0 0)) (fun d =>
    decide (d.channels[1].state = .streaming ∧ d.channels[1].limit = 2 ∧
      d.port.access = some (.read { channel := 1, buffer := 0, block := 0, address := 0x8000, bytes := 64, level := 2 } false) ∧
      d.port.reads = [{ channel := 1, buffer := 1, block := 1, address := 0x8040, bytes := 36, level := 2 }])) = true := by
  decide +kernel

theorem test_stale_grant : after (.grantArrives 1 1 3 0 2) (sending (transfer .offering 0 0 0)) (fun d =>
    decide (d.span.initiation = [.slot 1 (some { target := 1, generation := 3, reason := .stale }) none])) = true := by
  decide +kernel

theorem test_refuse : after (.refuseArrives 1 1 4 .noWindow) (sending (transfer .queued 0 0 0)) (fun d =>
    decide (d.channels[1].last =
      { outcome := some .refused, reason := some (.refuse .noWindow), generation := 4, bytes := 0 })) = true := by
  decide +kernel

theorem test_block_accepted : after (.blockArrives 1 2 6 1 (List.replicate 64 7)) (target (landing12 1)) (fun d =>
    decide (d.admission.landings = [{ landing12 1 with accepted := 2 }] ∧
      d.port.writes = [{ address := 0x1040, payload := List.replicate 64 7, owner := some key12 }] ∧
      d.port.access = some .write)) = true := by decide +kernel

theorem test_block_beyond_the_limit : after (.blockArrives 1 2 6 2 (List.replicate 64 7)) (target (landing12 2)) (fun d =>
    decide (d.port.writes = [] ∧
      d.span.replies = [{ key := key12, generation := 6, kind := .receipt 2 2 false }])) = true := by decide +kernel

theorem test_receipt : after (.receiptArrives 1 1 4 1 2 false) (sending (transfer .draining 2 0 2)) (fun d =>
    decide (d.channels[1].accepted = 1 ∧ d.channels[1].state = .draining)) = true := by decide +kernel

theorem test_final_receipt : after (.receiptArrives 1 1 4 2 2 true) (sending (transfer .draining 2 1 2)) (fun d =>
    decide (d.channels[1].last = { outcome := some .done, reason := none, generation := 4, bytes := 100 } ∧
      d.lport.queue = [.channelEnded 1 1 3 4 .done none 100])) = true := by decide +kernel

theorem test_pause : after (.pauseArrives 1 1 4 1) (sending (transfer .draining 2 0 2)) (fun d =>
    decide (d.channels[1] = { transfer .paused 1 1 2 with timer := some 100 })) = true := by decide +kernel

theorem test_withdraw : after (.withdrawArrives 1 2 6 .aborted) (target (landing12 1)) (fun d =>
    decide (d.admission.landings = [] ∧ d.lport.queue = [.landingEnded key12 0 6 (.withdrawn .aborted) 64])) = true := by
  decide +kernel

theorem test_signal_frame : after (.signalArrives 1 5 9) (sending readyCh) (fun d =>
    decide (d.channels[1].state = .offering ∧ d.lport.queue = [.signal 1 .frame 5 9])) = true ∧
    after (.signalArrives 2 5 9) (sending readyCh) (fun d => decide (d = sending readyCh)) = true := by decide +kernel

theorem test_join_frame : after (.joinArrives 3) joined (fun d =>
    decide (d.control.peers[3] = { presence := .present, window := some 3 } ∧
      d.lport.queue = [.peerChange 3 .joined])) = true := by decide +kernel

theorem test_leave_frame : after (.leaveArrives 1) (target (landing12 1)) (fun d =>
    decide (d.control.peers[1].presence = .absent ∧ d.admission.landings = [] ∧
      d.lport.queue = [.peerChange 1 .left, .landingEnded key12 0 6 .peerLeft 64])) = true := by decide +kernel

/-- The joined station with station 1 in its halt set. -/
def haltedBy1 : Device :=
  { onLane .resume joined with
    halt := { joined.halt with members := joined.halt.members.set 1 true, lapse := joined.halt.lapse.set 1 (some 8) } }

/-- R79, R33: the run of a teardown ends the event, so LANDING_RESUMED follows HALT_CHANGE(TEARDOWN). -/
theorem test_teardown_notices : after (.leaveArrives 1)
    { haltedBy1 with admission := { haltedBy1.admission with
        landings := [landing12 1]
        suspended := [{ suspended12 with offer := { offer12 with key := { source := 2, channel := 0 } } }] } } (fun d =>
    decide (d.lport.queue = [.peerChange 1 .left, .landingEnded key12 0 6 .peerLeft 64, .haltChange 1 .teardown,
      .landingResumed { source := 2, channel := 0 } 0 6 64])) = true := by decide +kernel

theorem test_halt_frame : after (.haltArrives 1) joined (fun d =>
    decide (d.halt.members[1] = true ∧ d.halt.lapse[1] = some 8 ∧ d.lport.queue = [.haltChange 1 .halt])) = true := by
  decide +kernel

theorem test_resume_frame : after (.resumeArrives 1) haltedBy1 (fun d =>
    decide (d.halted = false ∧ d.halt.lapse[1] = none ∧ d.lport.queue = [.haltChange 1 .resume])) = true := by
  decide +kernel

/-! ### The lane -/

theorem test_third_join_joins : after .joinTransmissionComplete
    (onLane .join { inState .joining joined with control := { (inState .joining joined).control with joinCount := 2 } })
    (fun d => decide (d.control.state = .joined ∧ d.control.joinCount = 3 ∧ d.span.lane = none)) = true ∧
    after .joinTransmissionComplete (onLane .join (inState .joining joined))
    (fun d => decide (d.control.state = .joining ∧ d.control.joinCount = 1 ∧ d.control.spacing = some 1)) = true := by
  decide +kernel

theorem test_left : after .leaveTransmissionComplete (onLane .leave (inState .leaving joined)) (fun d =>
    decide (d.control.state = .config ∧ d.control.peers[1].presence = .absent ∧
      d.lport.queue = [.leftSpan 0])) = true := by decide +kernel

theorem test_lane_freed : after .frameTransmissionComplete (onLane .resume joined) (fun d =>
    decide (d = joined)) = true ∧ faults .frameTransmissionComplete joined .nothingTransmitted = true := by
  decide +kernel

/-! ### Timers -/

theorem test_join_spacing : after .joinSpacingExpiry
    { inState .joining joined with control := { (inState .joining joined).control with spacing := some 1 } } (fun d =>
    decide (d.control.spacing = none ∧ d.span.lane = some { source := 0, dest := .all, body := .join })) = true := by
  decide +kernel

theorem test_join_window : after (.joinRepeatWindowExpiry 2) joined (fun d =>
    decide (d.control.peers[2] = { presence := .present, window := none })) = true ∧
    faults (.joinRepeatWindowExpiry 1) joined .timerNotRunning = true := by decide +kernel

theorem test_offer_repeated : after (.offerReplyTimerExpiry 1) (sending (transfer .offering 0 0 0)) (fun d =>
    decide (d.channels[1].sends = 2 ∧ d.span.initiation =
      [.slot 1 none (some (.offer 1 4 { fields 2 3 100 with offset := 64, landingEvent := some 7 }))])) = true := by
  decide +kernel

theorem test_stream_repeats : after (.streamReplyTimerExpiry 1) (sending (transfer .draining 2 0 2)) (fun d =>
    decide (d.channels[1].state = .streaming ∧ d.channels[1].next = 0 ∧ d.channels[1].retry = 1)) = true := by
  decide +kernel

theorem test_queue_expires : after (.queueTimerExpiry 1) (sending (transfer .queued 0 0 0)) (fun d =>
    decide (d.channels[1].last.outcome = some .queueExpired)) = true := by decide +kernel

theorem test_pause_expires : after (.pauseTimerExpiry 1) (sending (transfer .paused 1 1 2)) (fun d =>
    decide (d.channels[1].last.outcome = some .pauseExpired ∧ d.channels[1].last.bytes = 64)) = true := by decide +kernel

theorem test_lifetime : after (.lifetimeExpiry 1 2) (withWaiting [waiting12] (onLane .resume joined)) (fun d =>
    decide (d.admission.waiting = [] ∧
      d.span.replies = [{ key := key12, generation := 6, kind := .refuse .expired }])) = true := by decide +kernel

theorem test_landing_timer : after (.landingTimerExpiry 1 2) (target (landing12 1)) (fun d =>
    decide (d.admission.landings = [] ∧
      d.span.replies = [{ key := key12, generation := 6, kind := .refuse .timeout }])) = true := by decide +kernel

/-- The station holds the span halted, at its input's asking. -/
def holding : Device :=
  { onLane .resume joined with
    halt := { joined.halt with members := joined.halt.members.set 0 true, request := true, holding := true,
                               repeatTimer := some 2 } }

theorem test_halt_repeats : after .repeatTimerExpiry holding (fun d => d.span.haltDue) = true := by decide +kernel

theorem test_lapse : after (.lapseTimerExpiry 1) haltedBy1 (fun d =>
    decide (d.halted = false ∧ d.lport.queue = [.haltChange 1 .lapse])) = true := by decide +kernel

/-! ### Memory -/

def read1 : ReadRequest := { channel := 1, buffer := 0, block := 1, address := 0x8040, bytes := 36, level := 2 }

/-- C1 waits for the bytes of its block 1. -/
def fetching (abandoned : Bool) : Device :=
  { sending { transfer .streaming 1 0 2 with buffers := #v[.fetching 1, .empty] } with
    port := { writes := [], reads := [], access := some (.read read1 abandoned) } }

theorem test_read_fills : after (.readCompletion (List.replicate 36 9)) (fetching false) (fun d =>
    decide (d.channels[1].buffers[0] = .holding 1 (List.replicate 36 9) ∧ d.port.access = none)) = true ∧
    faults (.readCompletion [9]) (fetching false) .wrongDataLength = true := by decide +kernel

theorem test_read_error : after .readError (fetching false) (fun d =>
    decide (d.channels[1].last.outcome = some .fault ∧ d.port.access = none)) = true := by decide +kernel

theorem test_write_done : after .writeCompletion
    (writing [writeOf (some key12)] (target { landing12 1 with written := 0 })) (fun d =>
    decide (d.port.writes = [] ∧ d.admission.landings = [{ landing12 1 with limit := 4 }] ∧
      d.span.replies = [{ key := key12, generation := 6, kind := .receipt 1 4 false }])) = true := by decide +kernel

theorem test_last_write_lands : after .writeCompletion
    (writing [writeOf (some key12)] (target (settling12 3))) (fun d =>
    decide (d.admission.landings = [] ∧ d.admission.recent = [{ key := key12, generation := 6, blocks := 4 }] ∧
      d.span.replies = [{ key := key12, generation := 6, kind := .receipt 4 4 true }] ∧
      d.lport.queue = [.landingEnded key12 0 6 .landed 200])) = true := by decide +kernel

theorem test_write_error : after .writeError
    (writing [writeOf (some key12)] (target (settling12 3))) (fun d =>
    decide (d.admission.landings = [] ∧
      d.span.replies = [{ key := key12, generation := 6, kind := .refuse .fault }])) = true := by decide +kernel

/-! ### States that meet the hypotheses of the statements, clause by clause

Each theorem is named after the statement in Sys2Proof/Certificates/Slice0/Obligations.lean whose hypotheses it shows to
be met; the clauses stand in the statement's order, at the ends of their ranges. -/

set_option synthInstance.maxSize 4000
set_option synthInstance.maxHeartbeats 400000

/-- C1 in ARG0. -/
def on1 (d : Device) : Device := withArgs 1 0 0 0 0 0 d

theorem test_meets_StepTakesTheFrontCommand :
    State.reset.pending = [] ∧ step { State.reset with pending := [.take, .join] } =
      exec .take { State.reset with pending := [.join] } := ⟨rfl, rfl⟩

theorem test_meets_QueueNumberAndConfigurationAreHeld :
    (∃ t, exec (.registerWrite 0 (word 4)) (quiet joined) = .next t ∧ joined.control.state ≠ .config) ∧
    (∃ t, exec .take (quiet conf) = .next t ∧ writesConfig .take = false) ∧
    writesConfig (.registerWrite 0 (word 4)) = true ∧ writesConfig (.registerWrite 0 (word 5)) = false ∧
    writesConfig (.unknownCommand (word 1)) = true :=
  ⟨⟨_, rfl, by decide⟩, ⟨_, rfl, rfl⟩, by decide, by decide, by decide⟩

theorem test_meets_StopsAreImpossibleEvents :
    (joined.impossible (.frameDiscard (joinFrame 1)) ∧ joined.impossible .joinTransmissionComplete ∧
      joined.impossible .frameTransmissionComplete ∧ joined.impossible (.joinRepeatWindowExpiry 1)) ∧
    faults (.queueTimerExpiry 1) (sending (transfer .paused 1 1 2)) .timerNotRunning = true ∧
    faults (.landingTimerExpiry 1 2) joined .timerNotRunning = true ∧
    faults .writeError joined .noAccessInFlight = true := by
  refine ⟨?_, ?_⟩
  · simp only [Device.impossible]; decide +kernel
  · decide +kernel

theorem test_meets_GenerationsAdvanceAtABegin :
    (run .start (on1 (sending readyCh))).isSome = true ∧ ∀ x, Instr.start ≠ .powerOnReset x :=
  ⟨by decide +kernel, nofun⟩

theorem test_meets_CommandsOutsideTheirStatesAreRefused :
    (inState .leaving conf).control.state = .leaving ∧
    (∀ l ∈ [[StationState.config], [.joining, .joined], [.config, .joining, .joined], [.joined]],
      StationState.leaving ∉ l) := by decide

theorem test_meets_SetWindowWritesOneEntry :
    (let d := withArgs 15 0xffffffc0 64 0 0x0100 0 conf
     d.control.state = .config ∧ d.arg 0 < 16 ∧ d.arg 1 % 64 = 0 ∧ d.arg 2 % 64 = 0 ∧ 64 ≤ d.arg 2 ∧
      d.arg 2 ≤ 16777216 ∧ d.arg 1 + d.arg 2 = 4294967296 ∧ d.argByte 4 1 = 1) ∧
    joined.control.state ≠ .config ∧
    (let d := withArgs 16 0 64 0 0 0 conf
     d.control.state = .config ∧ ¬d.arg 0 < 16) ∧
    (let d := withArgs 0 0 16777280 0 0 0 conf
     d.control.state = .config ∧ ¬d.arg 2 ≤ 16777216) := by decide +kernel

theorem test_meets_SetSignalWritesOneEntry :
    (let d := withArgs 31 3 7 0 0 0 conf
     d.control.state = .config ∧ d.arg 0 < 32 ∧ d.arg 1 = SignalAction.noticeAndStart.code ∧
      d.arg 2 = (7 : ChannelNo).val) ∧
    joined.control.state ≠ .config ∧
    (let d := withArgs 31 4 7 0 0 0 conf
     d.control.state = .config ∧ ¬d.arg 1 ≤ 3) := by decide +kernel

theorem test_meets_SetLineAndSetTimersWriteTheirSettings :
    (let d := withArgs 7 0 0 0 0 0 conf
     d.control.state = .config ∧ d.arg 0 < 8 ∧ d.arg 1 = 0) ∧
    (let d := withArgs 7 4 0 0 0 0 conf
     d.control.state = .config ∧ d.arg 0 < 8 ∧ d.arg 1 = (3 : LineNo).val + 1) ∧
    (let d := withArgs 7 5 0 0 0 0 conf
     d.control.state = .config ∧ ¬d.arg 1 ≤ 4) ∧
    (let d := withArgs 1 255 1 255 8 0 conf
     d.control.state = .config ∧ 1 ≤ d.arg 4 ∧ d.arg 4 ≤ 8 ∧
      ∀ i : Fin 4, 1 ≤ d.arg (i.castLE (by decide)) ∧ d.arg (i.castLE (by decide)) ≤ 255) ∧
    (let d := withArgs 1 256 1 1 8 0 conf
     d.control.state = .config ∧ ¬d.arg 1 ≤ 255) := by decide +kernel

theorem test_meets_ReadingATableEntry :
    (let d := withArgs 15 0 0 0 0 0 conf
     d.arg 0 = (15 : WindowNo).val ∧ d.config.windows[(15 : WindowNo)].size ≤ 16777216 ∧
      d.control.state = .config ∧ d.config.legal ∧ (run .readWindow d).any (fun e => (run .setWindow e).isSome) = true) ∧
    (let d := withArgs 31 0 0 0 0 0 conf
     d.arg 0 = (31 : EventNo).val ∧ (run .readSignal d).any (fun e => (run .setSignal e).isSome) = true) ∧
    15 < (withArgs 16 0 0 0 0 0 conf).arg 0 ∧ 31 < (withArgs 32 0 0 0 0 0 conf).arg 0 := by decide +kernel

theorem test_meets_ReadChannelCopiesTheChannel :
    (let d := withArgs 7 0 0 0 0 0 (withChannel 7 (transfer .draining 2 0 2) joined)
     d.arg 0 = (7 : ChannelNo).val ∧ d.channels[(7 : ChannelNo)].countersOk ∧ d.channels[(7 : ChannelNo)].rangesOk) ∧
    7 < (withArgs 8 0 0 0 0 0 conf).arg 0 := by decide +kernel

theorem test_meets_ReadLandingsCopiesTheCounts :
    let d := target { landing12 0 with limit := 4 }
    d.admission.bounded ∧ d.holding + d.admission.reserved ≤ 32 ∧ d.span.queuesOk := by decide +kernel

/-- A notice queue with `n` notices. -/
def notices (n : Nat) : LocalPort := { conf.lport with queue := List.replicate n (.leftSpan 0) }

theorem test_meets_NoticesArePostedAndTaken :
    (notices 31).queue.length < 32 ∧ 32 ≤ (notices 32).queue.length ∧
    (notices 1).queue = .leftSpan 0 :: [] ∧ (notices 1).loss = false ∧ (notices 2).queue ≠ [] ∧
    (notices 0).queue = [] := by decide +kernel

theorem test_meets_NoticeRecordLayout :
    noticeWords 10 (some 7) (some 7) (some 15) (some 15) (some 10) (some 9) (some 1048576) (some 31) 65535 =
      #v[0xff77ff0a, 0x001f090a, 0x00100000, 0x0000ffff] ∧
    noticeWords 0 none none none none none none none none 0 = #v[0, 0, 0, 0] := by decide +kernel

theorem test_meets_ClearFlagsClearsTheThree :
    conf.control.state ≠ .leaving ∧ conf.lport.queue = [] ∧ (inState .leaving conf).control.state = .leaving := by
  decide +kernel

theorem test_meets_RegisterWindowReadsAndWrites :
    (word 0x101).commandNumber = 1 ∧ (word 20).commandNumber = 20 ∧ (word 0).commandNumber = 0 ∧ 20 < (word 21).commandNumber ∧ (word 0x115).commandNumber = 21 ∧
    (∀ w : Fin 16, w ∈ ([7, 8, 12, 14, 15] : List (Fin 16)) → 7 ≤ w.val ∧ w ≠ 13) ∧
    (let d := { haltedBy1 with lport := { notices 32 with loss := true } }
     d.lport.queue.length ≤ 32 ∧ d.readWord 8 = 0x1200a) := by decide +kernel

theorem test_meets_LoadStoresADescriptor :
    (let d := withArgs 7 0x01070f07 0x00ffffff 0xfff00000 0x00100000 0xff1f conf
     let a : Descriptor := { target := 7, window := 15, offset := 16777215, source := 0xfff00000, length := 1048576,
                             level := 7, landingEvent := some 31, doneEvent := none, chain := true }
     d.control.state ≠ .leaving ∧ d.arg 0 = (7 : ChannelNo).val ∧ d.argByte 1 0 = a.target.val ∧
      a.target ≠ d.control.number ∧ d.argByte 1 1 = a.window.val ∧ d.argByte 1 2 = a.level.val ∧
      a.chain = decide (d.argByte 1 3 ≠ 0) ∧ d.arg 2 = a.offset ∧ d.lport.args[(3 : Fin 6)] = a.source ∧
      d.arg 4 = a.length ∧ a.source.toNat + a.length = 4294967296 ∧ d.argByte 5 0 = 31 ∧
      a.landingEvent = eventOf (d.argByte 5 0) ∧ d.argByte 5 1 = 255 ∧ a.doneEvent = eventOf (d.argByte 5 1) ∧
      d.channels[(7 : ChannelNo)].state = .empty ∧ (withChannel 7 readyCh d).channels[(7 : ChannelNo)].state = .ready ∧
      (withChannel 7 (transfer .queued 0 0 0) d).channels[(7 : ChannelNo)].state.inTransfer = true) ∧
    (let d := withArgs 0 1 0 0 0 0xffff conf
     d.arg 0 ≤ 7 ∧ ¬1 ≤ d.arg 4) ∧
    7 < (withArgs 8 0 0 0 0 0 conf).arg 0 ∧ (inState .leaving conf).control.state = .leaving := by decide +kernel

theorem test_meets_ClearAndStopAtRest :
    (on1 conf).control.state ≠ .leaving ∧ (on1 conf).arg 0 = (1 : ChannelNo).val ∧
    (on1 conf).channels[(1 : ChannelNo)].state = .empty ∧
    (on1 (sending readyCh)).channels[(1 : ChannelNo)].state = .ready ∧
    (on1 (sending (transfer .queued 0 0 0))).channels[(1 : ChannelNo)].state.inTransfer = true ∧
    7 < (withArgs 8 0 0 0 0 0 conf).arg 0 ∧ (inState .leaving conf).control.state = .leaving := by decide +kernel

theorem test_meets_StartActsByState :
    (let d := on1 (sending readyCh)
     d.leaveOk ∧ d.arg 0 = (1 : ChannelNo).val ∧ d.control.state = .joined ∧
      d.channels[(1 : ChannelNo)].state = .ready ∧ d.channels[(1 : ChannelNo)].active = some desc) ∧
    (let d := on1 (sending (transfer .queued 0 0 0))
     d.leaveOk ∧ d.control.state = .joined ∧ d.channels[(1 : ChannelNo)].state.inTransfer = true) ∧
    (let d := on1 (inState .joining (sending readyCh))
     d.leaveOk ∧ d.control.state = .joining ∧ d.channels[(1 : ChannelNo)].state ≠ .empty) ∧
    (let d := on1 joined
     d.leaveOk ∧ d.channels[(1 : ChannelNo)].state = .empty) ∧
    7 < (withArgs 8 0 0 0 0 0 joined).arg 0 := by decide +kernel

theorem test_meets_StopAndRefuseEndTheTransfer :
    (let d := on1 (sending (transfer .draining 2 0 2))
     d.control.state ≠ .leaving ∧ d.arg 0 = (1 : ChannelNo).val ∧ d.channels[(1 : ChannelNo)].state.inTransfer = true ∧
      d.channels[(1 : ChannelNo)].active = some desc ∧ d.hears 1 ∧ d.matched 1 1 4 desc ∧ d.served) := by decide +kernel

theorem test_meets_StopAndRefuseEndTheTransfer_ignored :
    (sending readyCh).hears 1 ∧ (sending readyCh).served ∧ ∀ a, ¬(sending readyCh).matched 1 1 4 a :=
  ⟨by decide +kernel, by decide +kernel, fun _ h => absurd h.1 (by decide +kernel)⟩

/-- Eight SIGNAL entries wait. -/
def signals8 (d : Device) : Device :=
  { d with span := { d.span with initiation := List.replicate 8 (.signal .all 5 0) } }

theorem test_meets_SignalCommandQueuesAnEntry :
    (let d := withArgs 15 31 0xffff 0 0 0 joined
     d.leaveOk ∧ d.control.state = .joined ∧ d.arg 0 = 15 ∧ d.arg 1 = (31 : EventNo).val ∧ d.arg 2 ≤ 65535 ∧
      d.span.signalCount < 8 ∧ 8 ≤ (signals8 d).span.signalCount) ∧
    (let d := withArgs 7 0 0 0 0 0 joined
     d.arg 0 = (7 : Station).val ∧ (7 : Station) ≠ d.control.number) ∧
    (let d := withArgs 15 0 0x10000 0 0 0 joined
     d.control.state = .joined ∧ ¬d.arg 2 ≤ 65535) ∧ conf.control.state ≠ .joined := by decide +kernel

theorem test_meets_JoinCommandBeginsJoining :
    conf.leaveOk ∧ conf.control.state = .config ∧ conf.span.isIdle ∧ joined.control.state ≠ .config := by
  decide +kernel

theorem test_meets_LeaveCommandEndsTheWork :
    (let d := target (landing12 1)
     d.haltOk ∧ d.joinOk ∧ d.poolOk ∧ d.control.state = .joined ∧ d.channelsOk) ∧
    (let d := withLanding (landing12 1) holding
     d.haltOk ∧ d.halt.holding = true ∧ d.joinOk ∧ d.poolOk ∧ d.control.state = .joined ∧ d.channelsOk) ∧
    (let d := withChannel 1 { readyCh with latch := true } (inState .joining joined)
     d.haltOk ∧ d.joinOk ∧ d.poolOk ∧ d.control.state = .joining ∧ d.channelsOk ∧
      d.channels[(1 : ChannelNo)].state ≠ .empty) := by decide +kernel

theorem test_meets_ResetStationByState :
    conf.control.state = .config ∧ (joined.haltOk ∧ joined.joinOk ∧ joined.control.state = .joined) ∧
    (holding.haltOk ∧ holding.joinOk ∧ holding.control.state = .joined ∧ holding.halt.holding = true) ∧
    (let d := inState .leaving (onLane .halt joined)
     d.served ∧ d.control.state = .leaving ∧ d.control.owed = false ∧ d.span.leaveOnLane = false) ∧
    (let d := inState .leaving (onLane .leave joined)
     d.served ∧ d.control.owed = false ∧ d.span.leaveOnLane = true ∧
      { d with control := { d.control with owed := true } }.served) := by decide +kernel

theorem test_meets_HoldingFollowsTheRequests :
    (joined.haltOk ∧ joined.control.state = .joined ∧ joined.halt.holding = false) ∧
    (holding.haltOk ∧ holding.control.state = .joined ∧ holding.halt.holding = true ∧ holding.halt.line = false) ∧
    (let d := { holding with halt := { holding.halt with request := false, line := true } }
     d.haltOk ∧ d.halt.holding = true ∧ d.halt.request = false) ∧
    (conf.haltOk ∧ conf.control.state ≠ .joined) := by decide +kernel

theorem test_meets_TriggerEdgeStartsBoundChannels :
    joined.leaveOk ∧ joined.served ∧ (∀ c : ChannelNo, joined.config.lines[c] ≠ some 3) ∧
    joined.control.state ≠ .leaving := by decide +kernel

/-- A BLOCK frame to station 0, on port 1, with `n` bytes between its first two header bytes and its CRC. -/
def blockFrame (n : Nat) : ArrivingFrame :=
  { port := 1, bytes := [0x51, 0x00] ++ List.replicate n 0 ++ crcBytes ([0x51, 0x00] ++ List.replicate n 0),
    fieldsInRange := true, early := false }

theorem test_meets_DiscardedFramesLeaveOnlyFlags :
    faults (.frameDiscard (blockFrame 4)) joined .frameIsDelivered = true ∧
    lengthSuits 5 71 = true ∧ lengthSuits 5 72 = false ∧
    after (.frameDiscard (blockFrame 3)) joined (fun d => decide (d = joined)) = true ∧
    after (.frameDiscard { blockFrame 4 with early := true }) joined (fun d => decide (d = joined)) = true ∧
    after (.frameDiscard { blockFrame 4 with fieldsInRange := false }) joined (fun d => decide (d = joined)) = true ∧
    after (.frameDiscard { blockFrame 4 with bytes := [0x51, 0x30, 0, 0, 0, 1] ++ crcBytes [0x51, 0x30, 0, 0, 0, 1] })
      joined (fun d => decide (d = joined)) = true ∧
    after (.frameDiscard (joinFrame 0)) { joined with span := { joined.span with idConflict := true } }
      (fun d => decide (d.lport.queue = [])) = true := by decide +kernel

theorem test_meets_FrameHeaderLengthAndCrc :
    (let f : Frame := { source := 7, dest := .station 6, body := .block 7 15 0 [1] }
     f.header = [0x57, 0x60, 0x7f] ∧ f.body.transfer = some (7, 15) ∧ f.length = 8) ∧
    (let f : Frame := { source := 0, dest := .all, body := .join }
     f.header = [0xa0, 0xf0] ∧ f.body.transfer = none ∧ f.length = 4) := by decide +kernel

theorem test_meets_FramesAreTakenOnTheSpanAlone :
    frameFrom (.waitArrives 1 1 4) = some 1 ∧ conf.control.state = .config ∧
    Instr.wellFormed (.pauseArrives 1 0 0 16384) = false ∧
    (frameFrom (.haltArrives 0) = some 0 ∧ joined.control.state = .joined ∧ joined.control.owed = false ∧
      (0 : Station) = joined.control.number) ∧
    (frameFrom (.haltArrives 7) = some 7 ∧ (7 : Station) ≠ joined.control.number ∧
      joined.control.peers[(7 : Station)].presence = .absent ∧ Instr.haltArrives 7 ≠ .joinArrives 7 ∧
      Instr.haltArrives 7 ≠ .leaveArrives 7) := by decide +kernel

theorem test_meets_OffersAreJudgedAndAdmitted :
    (joined.hears 1 ∧ joined.admission.lacks key12 ∧ (fields 7 0 1).inRange = true ∧ (fields 0 15 1048576).inRange = true) ∧
    joined.config.windows[(15 : WindowNo)].enabled = false ∧
    (joined.config.windows[(2 : WindowNo)].enabled = true ∧
      joined.config.windows[(2 : WindowNo)].mask.getLsbD (1 : Station).val = false) ∧
    (joined.config.windows[(1 : WindowNo)].mask.getLsbD (1 : Station).val = true ∧
      joined.config.windows[(1 : WindowNo)].size < 0 + 65 ∧ 0 + 64 ≤ joined.config.windows[(1 : WindowNo)].size ∧
      joined.admission.landings.length < 8 ∧ joined.config.windows[(1 : WindowNo)].mode = .exclusive ∧
      (∀ l ∈ joined.admission.landings, l.offer.fields.window ≠ 1) ∧ 0 < joined.free) := by decide +kernel

/-- An offer of key (2, C0) at this level into W1. -/
def offer20 (level : Level) : Offer := { key := { source := 2, channel := 0 }, generation := 0, fields := fields level 1 64 }

/-- W1's occupant, of level 3, no block accepted. -/
def occupant : Landing :=
  { offer := { offer12 with fields := fields 3 1 64 }, accepted := 0, written := 0, limit := 1, phase := .active,
    timer := some 20 }

/-- An entry of level 3 for W1, of station 3's channel c. -/
def waiting3 (c : ChannelNo) : PendingEntry :=
  { offer := { key := { source := 3, channel := c }, generation := 0, fields := fields 3 1 64 }, lifetime := some 50 }

def full : List PendingEntry := [waiting3 0, waiting3 1, waiting3 2, waiting3 3, waiting3 4, waiting3 5, waiting3 6]

theorem test_meets_OffersWaitOrAreTurnedAway :
    (let d := target occupant
     d.hears 2 ∧ (fields 3 1 64).inRange = true ∧ d.admission.lacks { source := 2, channel := 0 } ∧
      d.judge (offer20 3) = none ∧ d.canAdmit 1 = false ∧ d.victim (offer20 3) = none ∧ d.admission.waiting.length < 8) ∧
    (let d := withWaiting (full ++ [waiting3 7]) (target occupant)
     d.admission.lacks { source := 2, channel := 0 } ∧ d.victim (offer20 3) = none ∧ d.canAdmit 1 = false ∧
      7 ≤ full.length ∧ (waiting3 7).level ≤ (3 : Level).val) ∧
    (let d := withWaiting (full ++ [waiting3 7]) (target { occupant with phase := .settling })
     d.judge (offer20 2) = none ∧ d.victim (offer20 2) = none ∧ d.canAdmit 1 = false ∧ (2 : Level).val < (waiting3 7).level) := by
  decide +kernel

theorem test_meets_OffersOfAKnownKey :
    (let d := target (landing12 1)
     d.hears 1 ∧ (fields 3 0 200).inRange = true ∧ d.admission.keysOk ∧ d.poolOk ∧
      landing12 1 ∈ d.admission.landings ++ d.admission.suspended ∧ (landing12 1).offer.key = key12 ∧
      (landing12 1).phase = .active ∧ (landing12 1).offer.generation = 6 ∧ (landing12 1).offer.generation ≠ 7) ∧
    (let d := target (settling12 4)
     d.admission.keysOk ∧ settling12 4 ∈ d.admission.landings ∧ (settling12 4).phase = .settling) ∧
    (let d := withSuspended suspended12 (onLane .resume joined)
     d.admission.keysOk ∧ d.poolOk ∧ suspended12 ∈ d.admission.suspended ∧ suspended12.phase = .suspended) ∧
    (let d := withWaiting [waiting12] (onLane .resume joined)
     d.admission.keysOk ∧ d.poolOk ∧ waiting12 ∈ d.admission.waiting ∧ waiting12.offer.key = key12) := by decide +kernel

theorem test_meets_VictimOfAnOffer :
    (target occupant).victim (offer20 2) = some occupant ∧ (target occupant).victim (offer20 3) = none := by decide +kernel

theorem test_meets_PreemptionSuspendsTheVictim :
    let d := target occupant
    d.hears 2 ∧ (fields 2 1 64).inRange = true ∧ d.poolOk ∧ d.admission.bounded ∧ d.withinConfig ∧
    d.admission.lacks { source := 2, channel := 0 } ∧ d.judge (offer20 2) = none ∧ d.canAdmit 1 = false ∧
    d.victim (offer20 2) = some occupant ∧ (∀ r ∈ d.span.replies, r.key ≠ occupant.offer.key) ∧
    0 < 32 - (d.port.writes.length + (d.admission.reserved - (occupant.limit - occupant.accepted))) ∧
    d.admission.waiting.length < 8 := by decide +kernel

/-- Thirty-two blocks of removed records are still to be written, so no buffer is free. -/
def noBuffer (d : Device) : Device := writing (List.replicate 32 (writeOf none)) d

theorem test_meets_PreemptionSuspendsTheVictim_noBuffer :
    let o := { occupant with offer := { occupant.offer with generation := 0 }, limit := 0 }
    let d := noBuffer (target o)
    d.hears 2 ∧ (fields 2 1 64).inRange = true ∧ d.poolOk ∧ d.admission.bounded ∧ d.withinConfig ∧
    d.admission.lacks { source := 2, channel := 0 } ∧ d.judge (offer20 2) = none ∧ d.canAdmit 1 = false ∧
    d.victim (offer20 2) = some o ∧ d.admission.waiting.length < 8 ∧
    32 - (d.port.writes.length + (d.admission.reserved - (o.limit - o.accepted))) = 0 := by decide +kernel

theorem test_meets_RunsTakeTheFirstCandidate :
    (withWaiting [waiting12] (withSuspended suspended12 joined)).bestCandidate = some (.resume suspended12) ∧
    (withWaiting [waiting12] joined).bestCandidate = some (.enter waiting12) ∧
    joined.control.owed = false ∧
    (let d := writing [writeOf (some key12)] (target { landing12 1 with written := 0 })
     d.control.state = .joined ∧ d.poolOk ∧ d.admission.bounded ∧ (run .writeCompletion d).isSome = true) := by
  decide +kernel

theorem test_meets_BlocksInOrderAreAccepted :
    (let d := target (landing12 1)
     d.hears 1 ∧ blockInRange 1 (List.replicate 64 7) = true ∧ d.admission.keysOk ∧
      d.admission.landings = [] ++ landing12 1 :: [] ∧ (landing12 1).phase = .active ∧ 1 = (landing12 1).accepted ∧
      1 < (landing12 1).limit ∧ (List.replicate 64 (7 : Byte)).length = 64) ∧
    (let l := { landing12 3 with limit := 4 }
     (target l).hears 1 ∧ (target l).admission.keysOk ∧ l.phase = .active ∧ 3 < l.limit ∧ 3 + 1 = l.blocks ∧
      (List.replicate 8 (7 : Byte)).length = l.offer.fields.length - 64 * 3) := by decide +kernel

def recent12 : RecentEntry := { key := key12, generation := 6, blocks := 4 }

def withRecent (d : Device) : Device := { d with admission := { d.admission with recent := [recent12] } }

/-- A GRANT of the landing's key still waits to be sent. -/
def granting (d : Device) : Device :=
  { d with span := { d.span with replies := [{ key := key12, generation := 6, kind := .grant 0 2 }] } }

theorem test_meets_OtherBlocksDrawTheirReply :
    (let d := target (landing12 1)
     d.hears 1 ∧ d.admission.keysOk ∧ landing12 1 ∈ d.admission.landings ∧ (landing12 1).offer.generation ≠ 7 ∧
      (landing12 1).phase = .active ∧ ¬0 = (landing12 1).accepted ∧ ¬2 < (landing12 1).limit ∧
      (∃ r ∈ (granting d).span.replies, r.key = key12 ∧ r.generation = 6 ∧ r.kind = .grant 0 2) ∧
      d.span.replies = []) ∧
    (let d := target (settling12 0)
     settling12 0 ∈ d.admission.landings ∧ (settling12 0).phase = .settling) ∧
    (let d := withSuspended suspended12 joined
     d.admission.keysOk ∧ suspended12 ∈ d.admission.suspended ∧ suspended12.phase = .suspended) ∧
    (let d := withWaiting [waiting12] joined
     d.admission.keysOk ∧ waiting12 ∈ d.admission.waiting ∧ waiting12.offer.key = key12) ∧
    (let d := withRecent joined
     d.admission.keysOk ∧ recent12 ∈ d.admission.recent ∧ recent12.key = key12) ∧
    (joined.admission.lacks key12 ∧ ∀ r ∈ joined.admission.recent, r.key ≠ key12) := by decide +kernel

theorem test_meets_WithdrawRemovesTheRecord :
    (let d := target (landing12 1)
     d.hears 1 ∧ d.poolOk ∧ d.admission.bounded ∧ landing12 1 ∈ d.admission.landings ∧
      (landing12 1).offer.key = key12 ∧ (landing12 1).offer.generation = 6) ∧
    (let d := withWaiting [waiting12] (onLane .resume joined)
     d.hears 1 ∧ d.poolOk ∧ d.admission.bounded ∧ waiting12 ∈ d.admission.waiting ∧ waiting12.offer.generation = 6) ∧
    (joined.hears 1 ∧ joined.poolOk ∧ joined.admission.bounded ∧ joined.served ∧
      (∀ l ∈ joined.admission.landings ++ joined.admission.suspended, l.offer.key = key12 → l.offer.generation ≠ 6) ∧
      ∀ w ∈ joined.admission.waiting, w.offer.key = key12 → w.offer.generation ≠ 6) := by decide +kernel

/-- The block owes a soft reset. -/
def owing (d : Device) : Device := { d with control := { d.control with state := .leaving, owed := true } }

theorem test_meets_WritesCompleteOrFail :
    (let d := writing [writeOf none] (target (landing12 1))
     d.poolOk ∧ d.admission.bounded ∧ d.control.owed = false ∧ d.port.access = some .write ∧
      d.port.writes = writeOf none :: [] ∧ (writeOf none).owner = none) ∧
    (let l := { landing12 1 with written := 0 }
     let d := writing [writeOf (some key12)] (target l)
     d.poolOk ∧ d.admission.bounded ∧ l ∈ d.admission.landings ∧ l.written + 1 < l.blocks ∧ l.phase = .active ∧
      l.limit < l.blocks ∧ l.limit - l.accepted < d.config.credit ∧ ∀ r ∈ d.span.replies, r.key ≠ key12) ∧
    (let d := writing [writeOf (some key12)] (target (settling12 3))
     d.poolOk ∧ settling12 3 ∈ d.admission.landings ∧ (settling12 3).written + 1 = (settling12 3).blocks) ∧
    (let l := { suspended12 with written := 0 }
     let d := writing [writeOf (some key12)] (withSuspended l (onLane .resume joined))
     d.poolOk ∧ d.admission.bounded ∧ l ∈ d.admission.suspended ∧ l.written + 1 < l.blocks) ∧
    (let d := owing (writing [writeOf (some key12)] (target (settling12 3)))
     d.poolOk ∧ d.admission.bounded ∧ d.leaveOk ∧ d.control.owed = true ∧ settling12 3 ∈ d.admission.landings ∧
      d.port.access = some .write) := by decide +kernel

theorem test_meets_WaitsAndGrantsMoveTheChannel :
    (let d := sending (transfer .offering 0 0 0)
     d.hears 1 ∧ d.matched 1 1 4 desc ∧ d.channels[(1 : ChannelNo)].state = .offering ∧ d.served ∧ d.fetchOk ∧
      grantInRange 0 1 = true ∧ grantInRange 1 2 = true ∧ 1 < 2 ∧ 2 ≤ blockCount desc.length) ∧
    (let d := sending (transfer .queued 0 0 0)
     d.hears 1 ∧ d.matched 1 1 4 desc ∧ d.fetchOk ∧ d.served ∧ d.channels[(1 : ChannelNo)].state ≠ .offering) ∧
    (let d := sending (transfer .paused 1 1 2)
     d.hears 1 ∧ d.matched 1 1 4 desc ∧ d.fetchOk ∧ d.channels[(1 : ChannelNo)].state = .paused ∧
      d.channels[(1 : ChannelNo)].accepted ≤ 1) := by decide +kernel

theorem test_meets_StaleGrantsAreAnswered :
    (let d := sending (transfer .offering 0 0 0)
     d.hears 1 ∧ d.served ∧ d.control.state = .joined ∧ d.channels[(1 : ChannelNo)].generation ≠ 3 ∧
      d.matched 1 1 4 desc ∧ 2 ≤ 2 ∧ blockCount desc.length < 3) ∧
    (let d := sending (transfer .draining 2 0 2)
     d.hears 1 ∧ d.served ∧ d.matched 1 1 4 desc ∧ d.channels[(1 : ChannelNo)].state = .draining) ∧
    (let d := sending (transfer .paused 1 1 2)
     d.matched 1 1 4 desc ∧ d.served ∧ d.channels[(1 : ChannelNo)].state = .paused ∧
      0 < d.channels[(1 : ChannelNo)].accepted) ∧
    (let d := inState .joining (sending readyCh)
     d.hears 1 ∧ d.served ∧ d.control.state = .joining ∧ d.channels[(1 : ChannelNo)].state = .ready ∧
      d.channels[(1 : ChannelNo)].generation = 4) := by decide +kernel

theorem test_meets_StaleGrantsAreAnswered_ignored :
    let d := sending (transfer .offering 0 0 0)
    d.hears 2 ∧ d.channels[(1 : ChannelNo)].generation = 4 ∧ d.channels[(1 : ChannelNo)].state.inTransfer = true ∧
    ∀ a, ¬d.matched 2 1 4 a :=
  ⟨by decide +kernel, by decide +kernel, by decide +kernel, fun a h => by
    have e : desc = a := by
      have : (sending (transfer .offering 0 0 0)).channels[(1 : ChannelNo)].active = some desc := by decide +kernel
      exact Option.some.inj (this ▸ h.2.1)
    subst e
    exact absurd h.2.2.1 (by decide)⟩

theorem test_meets_ReceiptsAdvanceTheChannel :
    (let d := sending (transfer .draining 2 0 2)
     d.hears 1 ∧ d.channelsOk ∧ receiptInRange 2 2 = true ∧ d.matched 1 1 4 desc ∧ 2 ≤ blockCount desc.length ∧
      d.channels[(1 : ChannelNo)].state = .draining) ∧
    (let d := sending (transfer .paused 1 1 2)
     d.hears 1 ∧ d.channelsOk ∧ d.matched 1 1 4 desc ∧ d.channels[(1 : ChannelNo)].state = .paused) ∧
    (let d := sending (transfer .queued 0 0 0)
     d.hears 1 ∧ d.channelsOk ∧ d.served ∧ d.matched 1 1 4 desc ∧ d.channels[(1 : ChannelNo)].state = .queued) := by
  decide +kernel

theorem test_meets_FinalReceiptEndsDone :
    (let d := sending (transfer .draining 2 1 2)
     d.hears 1 ∧ d.control.state = .joined ∧ d.channelsOk ∧ d.matched 1 1 4 desc ∧
      d.channels[(1 : ChannelNo)].state = .draining ∧ d.channels[(1 : ChannelNo)].standby = none) ∧
    (let d := sending { transfer .draining 2 1 2 with standby := some desc }
     d.hears 1 ∧ d.channelsOk ∧ d.matched 1 1 4 desc ∧ d.channels[(1 : ChannelNo)].standby = some desc) := by
  decide +kernel

theorem test_meets_PausesSetTheChannelAside :
    (let d := sending (transfer .draining 2 0 2)
     d.hears 1 ∧ d.matched 1 1 4 desc ∧ d.channels[(1 : ChannelNo)].state = .draining ∧
      d.channels[(1 : ChannelNo)].accepted ≤ 0 ∧ 1 ≤ d.channels[(1 : ChannelNo)].limit ∧ 1 < blockCount desc.length) ∧
    (let d := sending (transfer .queued 0 0 0)
     d.hears 1 ∧ d.served ∧
      ¬(d.channels[(1 : ChannelNo)].state = .streaming ∨ d.channels[(1 : ChannelNo)].state = .draining)) := by
  decide +kernel

theorem test_meets_SignalFramesApplyTheirEntry :
    joined.hears 1 ∧ joined.config.signals[(5 : EventNo)].mask.getLsbD (1 : Station).val = true ∧
    joined.hears 2 ∧ joined.config.signals[(5 : EventNo)].mask.getLsbD (2 : Station).val = false ∧ joined.served := by
  decide +kernel

theorem test_meets_PeersJoinRestartAndLeave :
    (let d := target (landing12 1)
     d.control.state = .joined ∧ d.control.owed = false ∧ d.poolOk ∧ d.served ∧
      ((3 : Station) ≠ d.control.number ∧ d.control.peers[(3 : Station)].presence = .absent) ∧
      (d.control.peers[(2 : Station)].presence = .present ∧ d.control.peers[(2 : Station)].window.isSome = true) ∧
      (d.control.peers[(1 : Station)].presence = .present ∧ d.control.peers[(1 : Station)].window = none)) := by
  decide +kernel

theorem test_meets_HaltAndResumeOfAPeer :
    (haltedBy1.hears 1 ∧ haltedBy1.halt.members[(1 : Station)] = true) ∧
    (joined.hears 2 ∧ joined.halt.members[(2 : Station)] = false ∧ joined.served) := by decide +kernel

theorem test_meets_JoinAndLeaveTransmissions :
    (let d := onLane .join { inState .joining joined with control := { (inState .joining joined).control with joinCount := 1 } }
     d.onLane .join ∧ d.control.state = .joining ∧ d.control.joinCount + 1 < 3) ∧
    (let d := onLane .join { inState .joining joined with control := { (inState .joining joined).control with joinCount := 2 } }
     d.onLane .join ∧ 3 ≤ d.control.joinCount + 1 ∧ d.haltOk) ∧
    (let d := onLane .join (inState .leaving joined)
     d.onLane .join ∧ d.control.state ≠ .joining) ∧
    (let d := onLane .leave (inState .leaving joined)
     d.onLane .leave ∧ d.control.owed = false ∧ d.control.peersOk ∧
      { d with control := { d.control with owed := true } }.control.owed = true) := by decide +kernel

/-- C1 holds its next block. -/
def readyToSend : Device :=
  withChannel 1 { transfer .streaming 0 0 2 with buffers := #v[.holding 0 [1], .empty] } joined

theorem test_meets_LaneArbiterTakesTheFirstFrame :
    ((onLane .resume joined).span.lane.isSome = true ∧ FrameBody.resume ≠ .join ∧ FrameBody.resume ≠ .leave) ∧
    (joined.span.lane = none ∧ joined.span.joinDue = false ∧ joined.span.replies = [] ∧ ¬joined.drained ∧
      (inState .leaving joined).drained) ∧
    (haltedBy1.halted = true ∧ (InitEntry.slot 1 none (some (.offer 1 4 (fields 0 0 1)))).isOfferAlone = true ∧
      (InitEntry.signal .all 0 0).isOfferAlone = false) := by decide +kernel

theorem test_meets_LaneArbiterTakesTheFirstFrame_idle :
    joined.span.lane = none ∧ joined.span.initiation = [] ∧
    ∀ (c : ChannelNo) a data, ¬joined.channels[c].hasReady a data := by
  have none : ∀ c : ChannelNo, joined.channels[c].state ≠ .streaming := by decide +kernel
  exact ⟨by decide +kernel, by decide +kernel, fun c _ _ h => none c h.1⟩

theorem test_meets_LaneArbiterSendsBlocks :
    readyToSend.fetchOk ∧ readyToSend.span.isIdle ∧ readyToSend.halted = false ∧ readyToSend.control.state = .joined ∧
    readyToSend.control.owed = false ∧ readyToSend.channels[(1 : ChannelNo)].hasReady desc [1] ∧
    ∀ (b : ChannelNo) a' data', readyToSend.channels[b].hasReady a' data' → b ≠ 1 →
      desc.level < a'.level ∨ desc.level = a'.level ∧ 1 < b := by
  have none : ∀ b : ChannelNo, b ≠ 1 → readyToSend.channels[b].state ≠ .streaming := by decide +kernel
  exact ⟨by decide +kernel, by decide +kernel, by decide +kernel, by decide +kernel, by decide +kernel,
    by decide +kernel, fun b _ _ h hb => absurd h.1 (none b hb)⟩

theorem test_meets_MemoryPortServesItsClients :
    (let d := sending (transfer .streaming 0 0 2)
     d.span.lane ≠ none ∧ d.port.access = none ∧ d.port.writes = [] ∧ d.port.reads = []) ∧
    (let d := { joined with port := { writes := [writeOf none], reads := [read1], access := none } }
     d.span.lane = none ∧ d.halted = false ∧ (∀ c : ChannelNo, d.channels[c].state ≠ .streaming) ∧
      d.port.access = none ∧ d.port.writes ≠ []) ∧
    (let d := { haltedBy1 with port := { writes := [], reads := [read1, { read1 with buffer := 1, level := 1 }], access := none } }
     d.halted = true ∧ d.port.reads = [read1] ++ { read1 with buffer := 1, level := 1 } :: [] ∧
      ∀ q ∈ [read1], (1 : Level) < q.level) ∧
    ((fetching false).port.access = some (.read read1 false) ∧ (List.replicate 36 (9 : Byte)).length = read1.bytes ∧
      (fetching false).channels[read1.channel].active = some desc) ∧
    (fetching true).port.access = some (.read read1 true) := by decide +kernel

theorem test_meets_HousekeepingTimersExpire :
    (let d := { inState .joining joined with control := { (inState .joining joined).control with spacing := some 1 } }
     d.leaveOk ∧ d.joinOk ∧ d.control.spacing.isSome = true) ∧
    joined.control.peers[(2 : Station)].window.isSome = true ∧
    (holding.haltOk ∧ holding.halt.repeatTimer.isSome = true) ∧
    (haltedBy1.haltOk ∧ haltedBy1.halt.lapse[(1 : Station)].isSome = true) := by decide +kernel

theorem test_meets_TransferTimersExpire :
    (∀ ch ∈ [transfer .offering 0 0 0, { transfer .offering 0 0 0 with sends := 4 },
        transfer .streaming 0 0 2, { transfer .draining 2 0 2 with retry := 3 }, transfer .streaming 1 1 2,
        transfer .queued 0 0 0, transfer .paused 1 1 2],
      (sending ch).halted = false ∧ (sending ch).channels[(1 : ChannelNo)].active = some desc ∧
      (sending ch).channels[(1 : ChannelNo)].timer.isSome = true) ∧
    (let d := withWaiting [waiting12] joined
     d.halted = false ∧ waiting12 ∈ d.admission.waiting ∧ d.admission.keysOk ∧ waiting12.lifetime.isSome = true) ∧
    (let d := target (landing12 1)
     d.halted = false ∧ landing12 1 ∈ d.admission.landings ∧ d.poolOk ∧ (landing12 1).timer.isSome = true ∧
      d.control.owed = false ∧ ∀ r ∈ d.span.replies, r.key ≠ key12) := by decide +kernel

theorem test_meets_QueuesHoldTheirPositions :
    (let p : Reply := { key := key12, generation := 6, kind := .refuse .busy }
     (∀ q ∈ ([] : List Reply), q.key ≠ p.key) ∧ p.kind.isRefuse = true ∧
      placeReply [p] { p with kind := .wait } = [p] ∧
      placeReply [p] { p with generation := 7, kind := .wait } = [{ p with generation := 7, kind := .wait }]) ∧
    (let e : InitEntry := .slot 2 none (some (.offer 1 4 (fields 0 0 1)))
     e.slotChannel ≠ some 1 ∧ [e].all InitEntry.nonEmpty = true ∧ (InitEntry.signal .all 0 0).slotChannel ≠ some 2) := by
  decide +kernel

theorem test_meets_QueuesStayInBounds :
    let d := target (landing12 1)
    d.noticesOk ∧ d.span.queuesOk ∧ d.admission.bounded ∧ d.admission.ordered ∧
    (∃ t, step { dev := d, pending := [.take] } = .next t) :=
  ⟨by decide +kernel, by decide +kernel, by decide +kernel, by decide +kernel, _, rfl⟩

theorem test_meets_ChannelsStayInOrder :
    readyToSend.channelsOk ∧ readyToSend.fetchOk ∧
    (let d := sending (transfer .draining 2 0 2)
     d.channelsOk ∧ d.fetchOk ∧ d.wantedOk ∧ ∃ t, step { dev := d, pending := [.receiptArrives 1 1 4 2 2 true] } = .next t) :=
  ⟨by decide +kernel, by decide +kernel, by decide +kernel, by decide +kernel, by decide +kernel, _, rfl⟩

theorem test_meets_LandingsStayInOrder :
    let d := target (landing12 1)
    d.poolOk ∧ d.withinConfig ∧ d.config.legal ∧
    ∃ t, step { dev := d, pending := [.blockArrives 1 2 6 1 (List.replicate 64 0)] } = .next t :=
  ⟨by decide +kernel, by decide +kernel, by decide +kernel, _, rfl⟩

theorem test_meets_StationStaysInOrder :
    let d := sending (transfer .draining 2 0 2)
    d.channelsOk ∧ d.fetchOk ∧ d.control.peersOk ∧ d.stationOk ∧
    ∃ t, step { dev := d, pending := [.haltArrives 1] } = .next t :=
  ⟨by decide +kernel, by decide +kernel, by decide +kernel, by decide +kernel, _, rfl⟩

theorem test_meets_LaneAndPortStayServed :
    (onLane .resume joined).served ∧
    ∃ t, step { dev := onLane .resume joined, pending := [.frameTransmissionComplete] } = .next t :=
  ⟨by decide +kernel, _, rfl⟩

end Sys2Proof.Tests
end

/-! A BLOCK at the target: what the search for its key finds (R69), what a delivered frame of a known peer does, which
block is accepted (R94) and which reply any other draws (R95, R96). -/

namespace Sys2Proof.Machine

/-! ### The search for a key in collections that hold it once (R69) -/

theorem find?_key_eq_some {α : Type} {key : α → Key} {xs : List α} (h : (xs.map key).Nodup) {a : α} (ha : a ∈ xs) :
    (xs.find? fun b => decide (key b = key a)) = some a := by
  have hsome : (xs.find? fun b => decide (key b = key a)).isSome = true :=
    List.find?_isSome.mpr ⟨a, ha, decide_eq_true rfl⟩
  obtain ⟨b, hb⟩ := Option.isSome_iff_exists.mp hsome
  have hkey : key b = key a := of_decide_eq_true (List.find?_some (p := fun b => decide (key b = key a)) hb)
  rw [hb, List.inj_on_of_nodup_map h (List.mem_of_find?_eq_some hb) ha hkey]

theorem find?_key_eq_none {α : Type} {key : α → Key} {xs : List α} {k : Key} (h : ∀ a ∈ xs, key a ≠ k) :
    (xs.find? fun b => decide (key b = k)) = none :=
  List.find?_eq_none.mpr fun a ha => by simp [h a ha]

section
variable {a : AdmissionUnit}

/-- R69 by collection: each holds a key at most once, and no two of them share one. -/
theorem AdmissionUnit.keysOk_parts (h : a.keysOk) :
    ((a.landings ++ a.suspended).map (·.offer.key)).Nodup ∧ (a.waiting.map (·.offer.key)).Nodup ∧
      (a.recent.map (·.key)).Nodup ∧ (∀ e ∈ a.waiting, ∀ l ∈ a.landings ++ a.suspended, l.offer.key ≠ e.offer.key) ∧
      ∀ r ∈ a.recent, a.lacks r.key := by
  simp only [AdmissionUnit.keysOk, AdmissionUnit.keys, ← List.map_append, List.nodup_append'] at h
  obtain ⟨⟨hrecords, hwaiting, hpending⟩, hrecent, hlanded⟩ := h
  refine ⟨hrecords, hwaiting, hrecent, fun e he l hl heq => ?_, fun r hr => ⟨fun l hl heq => ?_, fun e he heq => ?_⟩⟩
  · exact hpending (List.mem_map_of_mem hl) (List.mem_map.mpr ⟨e, he, heq.symm⟩)
  · exact hlanded (List.mem_append_left _ (List.mem_map_of_mem hl)) (List.mem_map.mpr ⟨r, hr, heq.symm⟩)
  · exact hlanded (List.mem_append_right _ (List.mem_map_of_mem he)) (List.mem_map.mpr ⟨r, hr, heq.symm⟩)

theorem AdmissionUnit.keysOk_landings (h : a.keysOk) : (a.landings.map (·.offer.key)).Nodup := by
  obtain ⟨hrecords, -⟩ := a.keysOk_parts h
  rw [List.map_append] at hrecords
  exact hrecords.of_append_left

theorem AdmissionUnit.find_record (h : a.keysOk) {l : Landing} (hl : l ∈ a.landings ++ a.suspended) :
    a.find l.offer.key = .landing l := by
  obtain ⟨hrecords, -⟩ := a.keysOk_parts h
  simp only [AdmissionUnit.find, find?_key_eq_some hrecords hl]

theorem AdmissionUnit.find_waiting (h : a.keysOk) {e : PendingEntry} (he : e ∈ a.waiting) :
    a.find e.offer.key = .pending e := by
  obtain ⟨-, hwaiting, -, hother, -⟩ := a.keysOk_parts h
  simp only [AdmissionUnit.find, find?_key_eq_none (hother e he), find?_key_eq_some hwaiting he]

theorem AdmissionUnit.find_recent (h : a.keysOk) {r : RecentEntry} (hr : r ∈ a.recent) :
    a.find r.key = .recent r := by
  obtain ⟨-, -, hrecent, -, hlacks⟩ := a.keysOk_parts h
  obtain ⟨hrecords, hwaiting⟩ := hlacks r hr
  simp only [AdmissionUnit.find, find?_key_eq_none hrecords, find?_key_eq_none hwaiting,
    find?_key_eq_some hrecent hr]

theorem AdmissionUnit.find_nothing {k : Key} (hlacks : a.lacks k) (hrecent : ∀ r ∈ a.recent, r.key ≠ k) :
    a.find k = .nothing := by
  obtain ⟨hrecords, hwaiting⟩ := hlacks
  simp only [AdmissionUnit.find, find?_key_eq_none hrecords, find?_key_eq_none hwaiting,
    find?_key_eq_none hrecent]

theorem AdmissionUnit.landing_of_mem (h : a.keysOk) {l : Landing} (hl : l ∈ a.landings) :
    a.landing l.offer.key = some l :=
  find?_key_eq_some (a.keysOk_landings h) hl

/-- A change of one landing keeps it at its place in grant order and leaves the others as they were. -/
theorem AdmissionUnit.updLanding_at (h : a.keysOk) {before after : List Landing} {l : Landing}
    (hsplit : a.landings = before ++ l :: after) (f : Landing → Landing) :
    a.updLanding l.offer.key f = { a with landings := before ++ f l :: after } := by
  have hkeys := a.keysOk_landings h
  rw [hsplit, List.map_append, List.map_cons, List.nodup_middle, List.nodup_cons, ← List.map_append] at hkeys
  obtain ⟨hnotin, -⟩ := hkeys
  have hother : ∀ m ∈ before ++ after, m.offer.key ≠ l.offer.key := fun m hm heq =>
    hnotin (List.mem_map.mpr ⟨m, hm, heq⟩)
  have hsame : ∀ ms : List Landing, (∀ m ∈ ms, m ∈ before ++ after) →
      (ms.map fun m => if m.offer.key = l.offer.key then f m else m) = ms := fun ms hms =>
    (List.map_congr_left fun m hm => if_neg (hother m (hms m hm))).trans (List.map_id' ms)
  simp only [AdmissionUnit.updLanding, hsplit, List.map_append, List.map_cons, if_true,
    hsame before fun m hm => List.mem_append_left _ hm, hsame after fun m hm => List.mem_append_right _ hm]

end

/-! ### A delivered frame of a peer that is PRESENT (R8 to R10, R30) -/

theorem StationControl.receiving_of_hears {d : Device} {x : Station} (h : d.hears x) : d.control.receiving = true := by
  obtain ⟨hstate, howed, -, -⟩ := h
  rcases hstate with hs | hs <;> simp [StationControl.receiving, hs, howed]

theorem Device.notePeer_of_present {d : Device} {x : Station} (h : d.control.peers[x].presence = .present) :
    d.notePeer x = d := by
  simp only [Device.notePeer, h]

theorem Device.arrive_of_hears {d : Device} {x : Station} (h : d.hears x) (handle : Device → Device) :
    d.arrive x true handle = (handle d).settle := by
  have hreceiving := StationControl.receiving_of_hears h
  obtain ⟨-, -, hother, hpresent⟩ := h
  simp [Device.arrive, hreceiving, hother, Device.notePeer_of_present hpresent]

theorem exec_blockArrives_of_hears {s : State} {x : Station} {number : Nat} {payload : List Byte}
    (hx : s.dev.hears x) (hr : blockInRange number payload = true) (c : ChannelNo) (g : Generation) :
    exec (.blockArrives x c g number payload) s =
      s.next (s.dev.handleBlock { source := x, channel := c } g number payload).settle := by
  have hexec : exec (.blockArrives x c g number payload) s = execBlockArrives x c g number payload s := rfl
  rw [hexec, execBlockArrives, hr, Device.arrive_of_hears hx]

/-! ### Which block is accepted, and what it does (R94) -/

theorem Landing.accepts_iff (l : Landing) (g : Generation) (number : Nat) (payload : List Byte) :
    l.accepts g number payload = true ↔
      (l.phase = .active ∧ l.offer.generation = g) ∧ number = l.accepted ∧ number < l.limit ∧
        payload.length = (if number + 1 = l.blocks then l.offer.fields.length - 64 * number else 64) := by
  simp only [Landing.accepts, Bool.and_eq_true, decide_eq_true_eq, and_assoc]
  rfl

theorem Landing.accepts_not_active {l : Landing} {g : Generation} {number : Nat} {payload : List Byte}
    (h : l.phase ≠ .active) : l.accepts g number payload = false :=
  Bool.eq_false_iff.mpr fun hacc => by
    obtain ⟨⟨hphase, -⟩, -⟩ := (l.accepts_iff g number payload).mp hacc
    exact h hphase

theorem Landing.accepts_other_generation {l : Landing} {g : Generation} {number : Nat} {payload : List Byte}
    (h : l.offer.generation ≠ g) : l.accepts g number payload = false :=
  Bool.eq_false_iff.mpr fun hacc => by
    obtain ⟨⟨-, hgen⟩, -⟩ := (l.accepts_iff g number payload).mp hacc
    exact h hgen

theorem Landing.accept_active (l : Landing) (tLand : Nat) (h : l.phase = .active) :
    l.accept tLand =
      { l with accepted := l.accepted + 1, timer := some tLand,
               phase := if l.accepted + 1 = l.blocks then .settling else .active } := by
  rw [Landing.accept, h]

section
variable {d : Device}

theorem Device.handleBlock_accepted (h : d.admission.keysOk) {l : Landing} {g : Generation} {number : Nat}
    {payload : List Byte} (hl : l ∈ d.admission.landings) (hacc : l.accepts g number payload = true) :
    d.handleBlock l.offer.key g number payload = d.acceptBlock l payload := by
  simp only [Device.handleBlock, d.admission.landing_of_mem h hl, hacc, if_true]

theorem Device.acceptBlock_at (h : d.admission.keysOk) {before after : List Landing} {l : Landing}
    (hsplit : d.admission.landings = before ++ l :: after) (payload : List Byte) :
    d.acceptBlock l payload =
      { d with
        admission := { d.admission with landings := before ++ l.accept d.config.tLand :: after }
        port := { d.port with
          writes := d.port.writes ++
            [{ address := d.landingAddress l l.accepted, payload := payload, owner := some l.offer.key }] } } := by
  simp only [Device.acceptBlock, Device.updAdmission, Device.updPort, d.admission.updLanding_at h hsplit]

end

/-- Settles O36: the landing found for the key meets R94's conditions, and its acceptance changes it in place. -/
theorem blocksInOrderAreAccepted : Obligations.BlocksInOrderAreAccepted := by
  intro s x c g number payload before after l hx hr hk hsplit hkey hactive hgen hnumber hlimit hlength taken
  have hmem : l ∈ s.dev.admission.landings := hsplit ▸ List.mem_append_right before List.mem_cons_self
  have hacc : l.accepts g number payload = true :=
    (l.accepts_iff g number payload).mpr ⟨⟨hactive, hgen⟩, hnumber, hlimit, hlength⟩
  have haccept : l.accept s.dev.config.tLand = taken := l.accept_active _ hactive
  have hhandle := (s.dev.handleBlock_accepted hk hmem hacc).trans (s.dev.acceptBlock_at hk hsplit payload)
  rw [hkey, haccept, ← hnumber] at hhandle
  rw [exec_blockArrives_of_hears hx hr, hhandle, Device.landingAddress, hkey]

/-! ### The reply a record's RECEIPT is claimed as (R96) -/

/-- R13: this reply has been claimed and takes its place in the reply queue. -/
def Device.replied (d : Device) (k : Key) (g : Generation) (r : ReplyKind) : Device :=
  { d with span := { d.span with replies := placeReply d.span.replies { key := k, generation := g, kind := r } } }

theorem Device.claimReply_replied {d : Device} (ho : d.control.owed = false) (k : Key) (g : Generation)
    (r : ReplyKind) : d.claimReply k g r = d.replied k g r := by
  simp [Device.claimReply, ho, Device.replied, Device.updSpan]

theorem ReplyKind.isGrant_iff (r : ReplyKind) : r.isGrant = true ↔ ∃ a b, r = .grant a b := by
  cases r <;> simp [ReplyKind.isGrant]

/-- R96: a GRANT of this key and generation is in the reply queue. -/
theorem Device.grantWaits_iff (d : Device) (k : Key) (g : Generation) :
    d.grantWaits k g = true ↔
      ∃ r ∈ d.span.replies, r.key = k ∧ r.generation = g ∧ ∃ a b, r.kind = .grant a b := by
  simp only [Device.grantWaits, List.any_eq_true, Bool.and_eq_true, decide_eq_true_eq, ReplyKind.isGrant_iff, and_assoc]

theorem Device.claimReceipt_of_grantWaits {d : Device} {l : Landing} (hp : l.phase = .active)
    (hw : d.grantWaits l.offer.key l.offer.generation = true) (final : Bool) :
    d.claimReceipt l final = d.claimReply l.offer.key l.offer.generation (.grant l.accepted l.limit) :=
  if_pos ⟨hp, hw⟩

theorem Device.claimReceipt_of_not {d : Device} {l : Landing}
    (h : ¬(l.phase = .active ∧ d.grantWaits l.offer.key l.offer.generation = true)) (final : Bool) :
    d.claimReceipt l final = d.claimReply l.offer.key l.offer.generation (.receipt l.accepted l.limit final) :=
  if_neg h

/-! ### The reply that a discarded BLOCK draws (R95) -/

/-- A BLOCK is discarded when its key is found at no landing that accepts it. -/
theorem Device.handleBlock_discarded {d : Device} {k : Key} {g : Generation} {number : Nat} {payload : List Byte}
    (h : d.admission.keysOk) (hno : ∀ l, d.admission.find k = .landing l → l.accepts g number payload = false) :
    d.handleBlock k g number payload = d.answerBlock k g := by
  rcases hfound : d.admission.landing k with _ | l
  · simp only [Device.handleBlock, hfound]
  · have hl : l ∈ d.admission.landings := List.mem_of_find?_eq_some hfound
    have hkey : l.offer.key = k :=
      of_decide_eq_true (List.find?_some (p := fun m : Landing => decide (m.offer.key = k)) hfound)
    have hacc := hno l (hkey ▸ d.admission.find_record h (List.mem_append_left _ hl))
    simp [Device.handleBlock, hfound, hacc]

section
variable {d : Device} {k : Key} {g : Generation}

theorem Device.answerBlock_active {l : Landing} (hf : d.admission.find k = .landing l)
    (hg : l.offer.generation = g) (hp : l.phase = .active) : d.answerBlock k g = d.claimReceipt l false := by
  simp only [Device.answerBlock, hf, hg, if_true, hp]

theorem Device.answerBlock_settling {l : Landing} (hf : d.admission.find k = .landing l)
    (hg : l.offer.generation = g) (hp : l.phase = .settling) :
    d.answerBlock k g = d.claimReply k g (.receipt l.blocks l.blocks false) := by
  simp only [Device.answerBlock, hf, hg, if_true, hp]

theorem Device.answerBlock_suspended {l : Landing} (hf : d.admission.find k = .landing l)
    (hg : l.offer.generation = g) (hp : l.phase = .suspended) :
    d.answerBlock k g = d.claimReply k g (.pause l.accepted) := by
  simp only [Device.answerBlock, hf, hg, if_true, hp]

theorem Device.answerBlock_waiting {e : PendingEntry} (hf : d.admission.find k = .pending e)
    (hg : e.offer.generation = g) : d.answerBlock k g = d.claimReply k g .wait := by
  simp only [Device.answerBlock, hf, hg, if_true]

theorem Device.answerBlock_recent {r : RecentEntry} (hf : d.admission.find k = .recent r)
    (hg : r.generation = g) : d.answerBlock k g = d.claimReply k g (.receipt r.blocks r.blocks true) := by
  simp only [Device.answerBlock, hf, hg, if_true]

/-- The generation of the record or entry that a search found. -/
def Found.generation : Found → Option Generation
  | .landing l => some l.offer.generation
  | .pending e => some e.offer.generation
  | .recent r => some r.generation
  | .nothing => none

/-- Nothing of this generation is known under the key. -/
theorem Device.answerBlock_unknown {f : Found} (hf : d.admission.find k = f) (hg : f.generation ≠ some g) :
    d.answerBlock k g = d.claimReply k g (.refuse .unknown) := by
  cases f with
  | landing l => simp only [Device.answerBlock, hf, if_neg fun h : l.offer.generation = g => hg (congrArg some h)]
  | pending e => simp only [Device.answerBlock, hf, if_neg fun h : e.offer.generation = g => hg (congrArg some h)]
  | recent r => simp only [Device.answerBlock, hf, if_neg fun h : r.generation = g => hg (congrArg some h)]
  | nothing => simp only [Device.answerBlock, hf]

end

/-- The event of a BLOCK changes the reply queue alone, by a claim of this reply. -/
def State.draws (s : State) (k : Key) (g : Generation) (number : Nat) (payload : List Byte) (r : ReplyKind) : Prop :=
  exec (.blockArrives k.source k.channel g number payload) s = s.next (s.dev.replied k g r).settle

section
variable {s : State} {k : Key} {g : Generation} {number : Nat} {payload : List Byte}
variable (hx : s.dev.hears k.source) (hr : blockInRange number payload = true) (hk : s.dev.admission.keysOk)
include hx hr hk

/-- A BLOCK whose key is found at no landing that accepts it draws what `answerBlock` claims. -/
theorem State.draws_of_answer {r : ReplyKind}
    (hno : ∀ l, s.dev.admission.find k = .landing l → l.accepts g number payload = false)
    (ha : s.dev.answerBlock k g = s.dev.claimReply k g r) : s.draws k g number payload r := by
  have howed : s.dev.control.owed = false := by
    obtain ⟨-, howed, -⟩ := hx
    exact howed
  rw [State.draws, exec_blockArrives_of_hears hx hr, Device.handleBlock_discarded hk hno, ha,
    Device.claimReply_replied howed]

theorem State.draws_of_landing {l : Landing} {r : ReplyKind} (hf : s.dev.admission.find k = .landing l)
    (hno : l.accepts g number payload = false) (ha : s.dev.answerBlock k g = s.dev.claimReply k g r) :
    s.draws k g number payload r :=
  State.draws_of_answer hx hr hk (fun m hm => by cases hf.symm.trans hm; exact hno) ha

theorem State.draws_unknown {f : Found} (hf : s.dev.admission.find k = f) (hg : f.generation ≠ some g) :
    s.draws k g number payload (.refuse .unknown) := by
  refine State.draws_of_answer hx hr hk (fun l hl => ?_) (Device.answerBlock_unknown hf hg)
  obtain rfl : f = .landing l := hf.symm.trans hl
  exact Landing.accepts_other_generation fun h => hg (congrArg some h)

theorem State.draws_active {l : Landing} (hf : s.dev.admission.find k = .landing l) (hkey : l.offer.key = k)
    (hg : l.offer.generation = g) (hp : l.phase = .active) (hno : l.accepts g number payload = false) :
    (s.dev.grantWaits k g = true → s.draws k g number payload (.grant l.accepted l.limit)) ∧
    (¬s.dev.grantWaits k g = true → s.draws k g number payload (.receipt l.accepted l.limit false)) := by
  subst hkey hg
  have hanswer := Device.answerBlock_active hf rfl hp
  exact ⟨fun hw => State.draws_of_landing hx hr hk hf hno
      (hanswer.trans (Device.claimReceipt_of_grantWaits hp hw false)),
    fun hw => State.draws_of_landing hx hr hk hf hno
      (hanswer.trans (Device.claimReceipt_of_not (fun h => hw h.2) false))⟩

theorem State.draws_settling {l : Landing} (hf : s.dev.admission.find k = .landing l)
    (hg : l.offer.generation = g) (hp : l.phase = .settling) :
    s.draws k g number payload (.receipt l.blocks l.blocks false) :=
  State.draws_of_landing hx hr hk hf (Landing.accepts_not_active (by simp [hp])) (Device.answerBlock_settling hf hg hp)

theorem State.draws_suspended {l : Landing} (hf : s.dev.admission.find k = .landing l)
    (hg : l.offer.generation = g) (hp : l.phase = .suspended) : s.draws k g number payload (.pause l.accepted) :=
  State.draws_of_landing hx hr hk hf (Landing.accepts_not_active (by simp [hp])) (Device.answerBlock_suspended hf hg hp)

theorem State.draws_waiting {e : PendingEntry} (hf : s.dev.admission.find k = .pending e)
    (hg : e.offer.generation = g) : s.draws k g number payload .wait :=
  State.draws_of_answer hx hr hk (fun l hl => by cases hf.symm.trans hl) (Device.answerBlock_waiting hf hg)

theorem State.draws_recent {r : RecentEntry} (hf : s.dev.admission.find k = .recent r)
    (hg : r.generation = g) : s.draws k g number payload (.receipt r.blocks r.blocks true) :=
  State.draws_of_answer hx hr hk (fun l hl => by cases hf.symm.trans hl) (Device.answerBlock_recent hf hg)

end

/-- Settles O37: by what R69's search finds for the key, each BLOCK that is not accepted claims the reply of R95. -/
theorem otherBlocksDrawTheirReply : Obligations.OtherBlocksDrawTheirReply := by
  refine ⟨fun d l final howed => ⟨fun hp hw => ?_, fun h => ?_⟩, ?_⟩
  · rw [← Device.grantWaits_iff] at hw
    exact (Device.claimReceipt_of_grantWaits hp hw final).trans (Device.claimReply_replied howed ..)
  · rw [← Device.grantWaits_iff, ← not_and_or] at h
    exact (Device.claimReceipt_of_not h final).trans (Device.claimReply_replied howed ..)
  intro s x c g number payload hx hr hk key draws
  refine ⟨fun l hl hkey => ?_, fun e he hkey => ?_, fun r hrec hkey => ?_, fun hlacks hrecent => ?_⟩
  · have hf : s.dev.admission.find key = .landing l := hkey ▸ s.dev.admission.find_record hk hl
    refine ⟨fun hg => State.draws_unknown hx hr hk hf fun h => hg (Option.some.inj h), fun hg hp _ hnot => ?_,
      State.draws_settling hx hr hk hf, State.draws_suspended hx hr hk hf⟩
    have hno : l.accepts g number payload = false := Bool.eq_false_iff.mpr fun h => by
      obtain ⟨-, hconditions⟩ := (l.accepts_iff g number payload).mp h
      exact hnot hconditions
    rw [← Device.grantWaits_iff]
    exact State.draws_active hx hr hk hf hkey hg hp hno
  · have hf : s.dev.admission.find key = .pending e := hkey ▸ s.dev.admission.find_waiting hk he
    exact ⟨State.draws_waiting hx hr hk hf, fun hg => State.draws_unknown hx hr hk hf fun h => hg (Option.some.inj h)⟩
  · have hf : s.dev.admission.find key = .recent r := hkey ▸ s.dev.admission.find_recent hk hrec
    exact ⟨State.draws_recent hx hr hk hf, fun hg => State.draws_unknown hx hr hk hf fun h => hg (Option.some.inj h)⟩
  · exact State.draws_unknown hx hr hk (s.dev.admission.find_nothing hlacks hrecent) (Option.some_ne_none g).symm

end Sys2Proof.Machine

/-! A PAUSE at the source: when it fits (R124), the channel it sets aside, and the event that ignores any other (R125). -/

namespace Sys2Proof.Machine

/-! ### The end of an event that changes nothing -/

/-- R27: a station that hears its peers is not leaving, so it has no drained report to make. -/
theorem Device.settle_served_of_hears {d : Device} {x : Station} (hx : d.hears x) (h : d.served) : d.settle = d := by
  obtain ⟨hstate, -⟩ := hx
  refine d.settle_served h fun _ hdrained => ?_
  obtain ⟨hleaving, -⟩ := hdrained
  simp [hleaving] at hstate

/-! ### Which PAUSE is taken (R124) -/

theorem Channel.matchesReply_iff (ch : Channel) (x : Station) (g : Generation) :
    ch.matchesReply x g = true ↔
      ∃ a, ch.active = some a ∧ ch.state.inTransfer = true ∧ a.target = x ∧ ch.generation = g := by
  rcases hactive : ch.active with _ | a <;> simp [Channel.matchesReply, hactive, and_assoc]

theorem Channel.pauseFits_iff {ch : Channel} {a : Descriptor} (hactive : ch.active = some a) (block : Nat) :
    ch.pauseFits block = true ↔ ch.accepted ≤ block ∧ block ≤ ch.limit ∧ block < blockCount a.length := by
  simp [Channel.pauseFits, hactive, and_assoc]

/-- R124: a PAUSE matches the transfer of descriptor a on a STREAMING or DRAINING channel, and fits it. -/
def Device.pausedBy (d : Device) (x : Station) (c : ChannelNo) (g : Generation) (block : Nat) (a : Descriptor) : Prop :=
  d.matched x c g a ∧ (d.channels[c].state = .streaming ∨ d.channels[c].state = .draining) ∧
    d.channels[c].accepted ≤ block ∧ block ≤ d.channels[c].limit ∧ block < blockCount a.length

section
variable {d : Device} {x : Station} {c : ChannelNo} {g : Generation} {block : Nat}

theorem Device.handlePause_taken {a : Descriptor} (h : d.pausedBy x c g block a) :
    d.handlePause x c g block = d.takePause c block := by
  obtain ⟨⟨htransfer, hactive, htarget, hgen⟩, hstate, hrange⟩ := h
  have hmatches := (d.channels[c].matchesReply_iff x g).mpr ⟨a, hactive, htransfer, htarget, hgen⟩
  have hfits := (Channel.pauseFits_iff hactive block).mpr hrange
  rcases hstate with hs | hs <;> simp only [Device.handlePause, hmatches, hfits, hs, Bool.and_self, if_true]

theorem Device.handlePause_ignored (h : ∀ a, ¬d.pausedBy x c g block a) : d.handlePause x c g block = d := by
  unfold Device.handlePause
  split
  next hboth =>
    rw [Bool.and_eq_true] at hboth
    obtain ⟨hmatches, hfits⟩ := hboth
    obtain ⟨a, hactive, htransfer, htarget, hgen⟩ := (d.channels[c].matchesReply_iff x g).mp hmatches
    have hrange := (Channel.pauseFits_iff hactive block).mp hfits
    have hno : ¬(d.channels[c].state = .streaming ∨ d.channels[c].state = .draining) :=
      fun hstate => h a ⟨⟨htransfer, hactive, htarget, hgen⟩, hstate, hrange⟩
    split
    next hs => exact absurd (.inl hs) hno
    next hs => exact absurd (.inr hs) hno
    all_goals rfl
  next => rfl

end

/-! ### The event of a PAUSE -/

theorem Device.takePause_eq (d : Device) (c : ChannelNo) (block : Nat) :
    d.takePause c block =
      { d with
        channels := d.channels.set c
          { d.channels[c] with
            state := .paused, accepted := block, next := block, timer := some d.config.tPause,
            buffers := #v[.empty, .empty] }
        port := d.port.without c } := by
  simp [Device.takePause, Device.emptyBuffers_all, Device.updChannel]

theorem exec_pauseArrives_of_hears {s : State} {x : Station} {block : Nat} (hx : s.dev.hears x)
    (hr : pauseInRange block = true) (c : ChannelNo) (g : Generation) :
    exec (.pauseArrives x c g block) s = s.next (s.dev.handlePause x c g block).settle := by
  have hexec : exec (.pauseArrives x c g block) s = execPauseArrives x c g block s := rfl
  rw [hexec, execPauseArrives, hr, Device.arrive_of_hears hx]

/-- Settles O44: the PAUSE that R124 lets in sets the channel aside; at any other the handler keeps the state, and a
served block has nothing left to choose. -/
theorem pausesSetTheChannelAside : Obligations.PausesSetTheChannelAside := by
  intro s x c g block hx hblock ch fits
  have hexec := exec_pauseArrives_of_hears hx (decide_eq_true hblock) c g
  refine ⟨fun a ha => ?_, fun hserved hno => ?_⟩
  · have htaken : s.dev.pausedBy x c g block a := ha
    rw [hexec, Device.handlePause_taken htaken, Device.takePause_eq]
  · have hignored : ∀ a, ¬s.dev.pausedBy x c g block a := hno
    rw [hexec, Device.handlePause_ignored hignored, Device.settle_served_of_hears hx hserved]
    rfl

end Sys2Proof.Machine

/-! What one step can do: the register window is written, the configuration record is written, or the work of an event is done
and the free lane and the free memory port choose. Every invariant is derived from this one inversion of `exec`. -/

namespace Sys2Proof.Machine

/-! ### The three kinds of things a command or event does -/

/-- The two states differ in the Local Port alone, and not in the notices that wait. -/
def Device.beside (d e : Device) : Prop :=
  ∃ f : LocalPort → LocalPort, (∀ p, (f p).queue = p.queue) ∧ e = d.updLocal f

theorem Device.beside_refl (d : Device) : d.beside d := ⟨id, fun _ => rfl, rfl⟩

theorem Device.beside_updLocal (d : Device) {f : LocalPort → LocalPort} (h : ∀ p, (f p).queue = p.queue) :
    d.beside (d.updLocal f) := ⟨f, h, rfl⟩

theorem Device.beside_trans {d e g : Device} (h : d.beside e) (h' : e.beside g) : d.beside g := by
  obtain ⟨f, hf, rfl⟩ := h
  obtain ⟨f', hf', rfl⟩ := h'
  exact ⟨f' ∘ f, fun p => (hf' _).trans (hf p), rfl⟩

/-- R30: what the owner of a delivered frame of peer x does. -/
inductive Device.Handles (d : Device) (x : Station) : Device → Prop
  | offer (c g) {f : OfferFields} (h : f.inRange = true) :
    Handles d x (d.handleOffer { key := { source := x, channel := c }, generation := g, fields := f })
  | block (c g) {number payload} (h : blockInRange number payload = true) :
    Handles d x (d.handleBlock { source := x, channel := c } g number payload)
  | withdraw (c g reason) : Handles d x (d.handleWithdraw { source := x, channel := c } g reason)
  | wait (c g) : Handles d x (d.handleWait x c g)
  | grant (c g) {start limit} (h : grantInRange start limit = true) : Handles d x (d.handleGrant x c g start limit)
  | refuse (c g reason) : Handles d x (d.handleRefuse x c g reason)
  | receipt (c g) {accepted limit} (final) (h : receiptInRange accepted limit = true) :
    Handles d x (d.handleReceipt x c g accepted limit final)
  | pause (c g) {block} (h : pauseInRange block = true) : Handles d x (d.handlePause x c g block)
  | signal (e a) : Handles d x (d.handleSignal x e a)
  | halt : Handles d x (d.haltFrom x)
  | resume : Handles d x (d.leaveHalt x .resume)

/-- The work of a command or event that ends with the choices of the lane and the memory port (log 6). -/
inductive Device.Works (d : Device) : Device → Prop
  | join (h : d.control.state = .config) :
    Works d (d.updControl fun c => { c with state := .joining, joinCount := 0 }).makeJoinDue
  | leave (h : onSpan d.control.state = true) : Works d d.startLeaving
  | reset : Works d d.resetStation
  | start {c e} (h : d.tryStart c = some e) : Works d e
  | stop {c : ChannelNo} (hs : notLeaving d.control.state = true) (h : d.channels[c].state.inTransfer = true) :
    Works d (d.endTransfer c .aborted none)
  | signal (dest e a) (hs : d.control.state = .joined) (h : d.span.signalCount < Config.signalMax) :
    Works d (d.claimInitiation (· ++ [.signal dest e a]))
  | request (r : Bool) (h : d.control.state = .joined) :
    Works d (d.updHalt fun h => { h with request := r }).updateHold
  | line (level : Bool) : Works d (d.updHalt fun h => { h with line := level }).updateHold
  | edge (line) : Works d (d.lineStarts line)
  | frame {x e} (hr : d.control.receiving = true) (hx : x ≠ d.control.number) (h : (d.notePeer x).Handles x e) :
    Works d e
  | joinFrame {x} (hr : d.control.receiving = true) (hx : x ≠ d.control.number) : Works d (d.handleJoin x)
  | leaveFrame {x} (hr : d.control.receiving = true) (hx : x ≠ d.control.number) : Works d (d.handleLeave x)
  | joinSent (h : d.onLane .join) : Works d d.freeLane.countJoin
  | leaveSent (h : d.onLane .leave) (ho : d.control.owed = false) : Works d d.freeLane.returnToConfig
  | resetSent (h : d.onLane .leave) (ho : d.control.owed = true) : Works d d.softReset
  | sent (hj : ¬d.onLane .join) (hl : ¬d.onLane .leave) : Works d d.freeLane
  | spacing (h : d.control.spacing.isSome = true) : Works d (d.updControl fun c => { c with spacing := none }).makeJoinDue
  | offerTimer {c : ChannelNo} (h : d.channels[c].state = .offering) : Works d (d.resendOffer c)
  | streamTimer {c : ChannelNo} (h : d.channels[c].state = .streaming ∨ d.channels[c].state = .draining) :
    Works d (d.streamExpiry c)
  | queueTimer {c : ChannelNo} (h : d.channels[c].state = .queued) : Works d (d.endTransfer c .queueExpired none)
  | pauseTimer {c : ChannelNo} (h : d.channels[c].state = .paused) : Works d (d.endTransfer c .pauseExpired none)
  | lifetime {e} (h : e ∈ d.admission.waiting) : Works d (d.expireWaiting e)
  | landingTimer {l} (h : l ∈ d.admission.landings) : Works d (d.landTimeout l)
  | repeatTimer (h : d.halt.repeatTimer.isSome = true) :
    Works d (d.makeHaltDue.updHalt fun h => { h with repeatTimer := some Config.haltRepeat })
  | lapseTimer {x : Station} (h : d.halt.lapse[x].isSome = true) : Works d (d.leaveHalt x .lapse)
  | readFilled {r} (data) (h : d.port.access = some (.read r false)) : Works d (d.freePort.fillBuffer r data)
  | readDropped {r} (h : d.port.access = some (.read r true)) : Works d d.freePort
  | readFailed {r} (h : d.port.access = some (.read r false)) : Works d (d.freePort.endTransfer r.channel .fault none)
  | written {w ws} (ha : d.port.access = some .write) (hw : d.port.writes = w :: ws) :
    Works d (d.popWrite.writeDone w.owner)
  | writeFailed {w ws} (ha : d.port.access = some .write) (hw : d.port.writes = w :: ws) :
    Works d (d.popWrite.writeFailed w.owner)

/-- R21: a SET command that CONFIG accepts writes the configuration record. -/
inductive Device.Configures (d : Device) : Device → Prop
  | window (w : WindowNo) {e : WindowEntry} (h : e.legal) :
    Configures d (d.updConfig fun c => { c with windows := c.windows.set w e })
  | signal (n : EventNo) (e) : Configures d (d.updConfig fun c => { c with signals := c.signals.set n e })
  | line (c : ChannelNo) (b) : Configures d (d.updConfig fun r => { r with lines := r.lines.set c b })
  | timers {reply queue pause land credit : Nat} (hr : 1 ≤ reply ∧ reply ≤ 255) (hq : 1 ≤ queue ∧ queue ≤ 255)
      (hp : 1 ≤ pause ∧ pause ≤ 255) (hl : 1 ≤ land ∧ land ≤ 255) (hc : 1 ≤ credit ∧ credit ≤ 8) :
    Configures d (d.updConfig fun r =>
      { r with tReply := reply, tQueue := queue, tPause := pause, tLand := land, credit := credit })

/-- What a command or event does that leaves the lane and the memory port no new choice. -/
inductive Device.Writes (d : Device) : Device → Prop
  | nothing : Writes d d
  | load (c : ChannelNo) {a : Descriptor} (h : 1 ≤ a.length ∧ a.length ≤ Config.lengthMax) : Writes d (d.updChannel c (·.load a))
  | stopIdle (c : ChannelNo) (h : d.channels[c].state.inTransfer = false) : Writes d (d.updChannel c Channel.stopIdle)
  | clear (c : ChannelNo) (h : d.channels[c].state.inTransfer = false) :
    Writes d (d.updChannel c fun ch => { ch with active := none, standby := none, latch := false, state := .empty })
  | take {n ns} (h : d.lport.queue = n :: ns) :
    Writes d (d.updLocal fun p => { p with queue := ns, notice := n.words })
  | clearFlags : Writes d d.clearFlags
  | ownNumber (x) : Writes d (d.noteOwnNumber x)
  | mismatch : Writes d d.noteLaneMismatch
  | closeWindow (x : Station) : Writes d (d.setPeer x d.control.peers[x].presence none)

/-- What a command or event makes of the block; the configuration record is written only where `sets` allows it. -/
def Device.Leads (sets : Bool) (d t : Device) : Prop :=
  ∃ d' e, d.beside d' ∧
    (d'.Works e ∧ e.settle.beside t ∨ d'.Writes e ∧ e.beside t ∨
      (sets = true ∧ d'.control.state = .config ∧ d'.Configures e) ∧ e.beside t)

section
variable {sets : Bool} {d e t : Device}

theorem Device.Works.leads (h : d.Works e) : d.Leads sets e.settle :=
  ⟨d, e, d.beside_refl, .inl ⟨h, e.settle.beside_refl⟩⟩

theorem Device.Writes.leads (h : d.Writes e) : d.Leads sets e :=
  ⟨d, e, d.beside_refl, .inr (.inl ⟨h, e.beside_refl⟩)⟩

theorem Device.Configures.leads (hs : d.control.state = .config) (h : d.Configures e) : d.Leads true e :=
  ⟨d, e, d.beside_refl, .inr (.inr ⟨⟨rfl, hs, h⟩, e.beside_refl⟩)⟩

theorem Device.leads_refl (d : Device) : d.Leads sets d := Device.Writes.nothing.leads

theorem Device.Leads.trans_beside (h : d.Leads sets e) (ht : e.beside t) : d.Leads sets t := by
  obtain ⟨d', g, hd, hwork | hwrite | hset⟩ := h
  · exact ⟨d', g, hd, .inl ⟨hwork.1, Device.beside_trans hwork.2 ht⟩⟩
  · exact ⟨d', g, hd, .inr (.inl ⟨hwrite.1, Device.beside_trans hwrite.2 ht⟩)⟩
  · exact ⟨d', g, hd, .inr (.inr ⟨hset.1, Device.beside_trans hset.2 ht⟩)⟩

theorem Device.Leads.of_beside (hd : d.beside e) (h : e.Leads sets t) : d.Leads sets t := by
  obtain ⟨d', g, he, h⟩ := h
  exact ⟨d', g, Device.beside_trans hd he, h⟩

/-- A command leads where its body leads, when the station state accepts it. -/
theorem Device.command_leads {number : Nat} {acc : StationState → Bool} {body : Device → Device × ResultCode}
    (h : ∀ d', acc d'.control.state = true → Device.Leads sets d' (body d').1) :
    d.Leads sets (d.command number acc body) := by
  unfold Device.command
  refine Device.Leads.of_beside (d.beside_updLocal (f := fun p => { p with command := BitVec.ofNat 8 number }) fun _ => rfl) ?_
  dsimp only
  refine Device.Leads.trans_beside ?_ (Device.beside_updLocal _ fun _ => rfl)
  split
  next hacc => exact h _ hacc
  next => exact Device.leads_refl _

end

/-! ### The bodies of the twenty commands -/

theorem inConfig_iff {c : StationState} : inConfig c = true ↔ c = .config := by cases c <;> simp [inConfig]
theorem inJoined_iff {c : StationState} : inJoined c = true ↔ c = .joined := by cases c <;> simp [inJoined]
theorem onSpan_iff {c : StationState} : onSpan c = true ↔ c = .joining ∨ c = .joined := by cases c <;> simp [onSpan]
theorem notLeaving_iff {c : StationState} : notLeaving c = true ↔ c ≠ .leaving := by cases c <;> simp [notLeaving]

/-- R135: an entry that SET_WINDOW accepts is legal. -/
theorem Device.parseWindow_legal {d : Device} {e : WindowEntry} (h : d.parseWindow = some e) : e.legal := by
  simp only [Device.parseWindow] at h
  split at h
  next hchecks =>
    obtain ⟨hbase, hsize, hlow, hhigh, hspace, -⟩ := hchecks
    obtain rfl := Option.some.inj h
    exact ⟨hbase, hsize, hlow, hhigh, hspace⟩
  next => cases h

/-- R42: a descriptor that LOAD accepts has a length in range. -/
theorem Device.parseDescriptor_length {d : Device} {a : Descriptor} (h : d.parseDescriptor = some a) :
    1 ≤ a.length ∧ a.length ≤ Config.lengthMax := by
  unfold Device.parseDescriptor at h
  split at h
  next =>
    split at h
    next =>
      split at h
      next hranges =>
        obtain ⟨-, -, hlow, hhigh, -⟩ := hranges
        obtain rfl := Option.some.inj h
        exact ⟨hlow, hhigh⟩
      next => cases h
    next => cases h
  next => cases h

section
variable {d : Device}

theorem setWindowBody_leads (hs : inConfig d.control.state = true) : d.Leads true (setWindowBody d).1 := by
  unfold setWindowBody
  split
  next h =>
    split
    next e he => exact (Device.Configures.window ⟨d.arg 0, h⟩ (Device.parseWindow_legal he)).leads (inConfig_iff.mp hs)
    next => exact d.leads_refl
  next => exact d.leads_refl

theorem setSignalBody_leads (hs : inConfig d.control.state = true) : d.Leads true (setSignalBody d).1 := by
  unfold setSignalBody
  split
  next h =>
    split
    next e he => exact (Device.Configures.signal ⟨d.arg 0, h⟩ e).leads (inConfig_iff.mp hs)
    next => exact d.leads_refl
  next => exact d.leads_refl

theorem setLineBody_leads (hs : inConfig d.control.state = true) : d.Leads true (setLineBody d).1 := by
  unfold setLineBody
  split
  next h =>
    split
    next b hb => exact (Device.Configures.line ⟨d.arg 0, h⟩ b).leads (inConfig_iff.mp hs)
    next => exact d.leads_refl
  next => exact d.leads_refl

theorem setTimersBody_leads (hs : inConfig d.control.state = true) : d.Leads true (setTimersBody d).1 := by
  unfold setTimersBody
  split
  next h =>
    obtain ⟨r1, r2, q1, q2, p1, p2, l1, l2, c1, c2⟩ := of_decide_eq_true h
    exact (Device.Configures.timers ⟨r1, r2⟩ ⟨q1, q2⟩ ⟨p1, p2⟩ ⟨l1, l2⟩ ⟨c1, c2⟩).leads (inConfig_iff.mp hs)
  next => exact d.leads_refl

variable {sets : Bool}

theorem loadBody_leads : d.Leads sets (loadBody d).1 := by
  unfold loadBody
  split
  next h =>
    split
    next a ha => exact (Device.Writes.load ⟨d.arg 0, h⟩ (Device.parseDescriptor_length ha)).leads
    next => exact d.leads_refl
  next => exact d.leads_refl

theorem startBody_leads : d.Leads sets (startBody d).1 := by
  unfold startBody
  split
  next h =>
    split
    next e he => exact (Device.Works.start he).leads
    next => exact d.leads_refl
  next => exact d.leads_refl

theorem stopBody_leads (hs : notLeaving d.control.state = true) : d.Leads sets (stopBody d).1 := by
  unfold stopBody
  split
  next h =>
    split
    next ht => exact (Device.Works.stop (c := ⟨d.arg 0, h⟩) hs ht).leads
    next ht => exact (Device.Writes.stopIdle ⟨d.arg 0, h⟩ (Bool.eq_false_iff.mpr ht)).leads
  next => exact d.leads_refl

theorem clearBody_leads : d.Leads sets (clearBody d).1 := by
  unfold clearBody
  split
  next h =>
    split
    next => exact d.leads_refl
    next ht => exact (Device.Writes.clear ⟨d.arg 0, h⟩ (Bool.eq_false_iff.mpr ht)).leads
  next => exact d.leads_refl

theorem signalBody_leads (hs : inJoined d.control.state = true) : d.Leads sets (signalBody d).1 := by
  unfold signalBody
  split
  next dest hdest =>
    split
    next he =>
      split
      next =>
        split
        next hcount => exact (Device.Works.signal dest ⟨d.arg 1, he⟩ _ (inJoined_iff.mp hs) hcount).leads
        next => exact d.leads_refl
      next => exact d.leads_refl
    next => exact d.leads_refl
  next => exact d.leads_refl

/-- A read command changes the ARG words at most. -/
theorem Device.leads_updLocal (f : LocalPort → LocalPort) (h : ∀ p, (f p).queue = p.queue) : d.Leads sets (d.updLocal f) :=
  d.leads_refl.trans_beside (d.beside_updLocal h)

theorem readChannelBody_leads : d.Leads sets (readChannelBody d).1 := by
  unfold readChannelBody
  split
  next => exact d.leads_updLocal (fun p => { p with args := d.channels[d.arg 0].words }) fun _ => rfl
  next => exact d.leads_refl

theorem readWindowBody_leads : d.Leads sets (readWindowBody d).1 := by
  unfold readWindowBody
  split
  next => exact d.leads_updLocal (fun p => { p with args := d.config.windows[d.arg 0].words p.args[(0 : Fin 6)] }) fun _ => rfl
  next => exact d.leads_refl

theorem readSignalBody_leads : d.Leads sets (readSignalBody d).1 := by
  unfold readSignalBody
  split
  next => exact d.leads_updLocal (fun p => { p with args := d.config.signals[d.arg 0].words p.args[(0 : Fin 6)] }) fun _ => rfl
  next => exact d.leads_refl

theorem takeBody_leads : d.Leads sets (takeBody d).1 := by
  unfold takeBody
  split
  next n ns hq => exact (Device.Writes.take hq).leads
  next => exact d.leads_refl

end

/-! ### Every command and event -/

/-- A meaning goes on in the same queue, with a block that the old one leads to. -/
def State.Leads (sets : Bool) (s : State) (o : Host.Outcome State Fault Refusal) : Prop :=
  ∀ t, o = .next t → t.pending = s.pending ∧ s.dev.Leads sets t.dev

section
variable {sets : Bool} {s : State}

theorem State.leads_next {e : Device} (h : s.dev.Leads sets e) : s.Leads sets (s.next e) := by
  rintro t ⟨⟩
  exact ⟨rfl, h⟩

theorem State.leads_event {e : Device} (h : s.dev.Works e) : s.Leads sets (s.event e) := State.leads_next h.leads

theorem State.leads_fault (f : Fault) : s.Leads sets (.fault f) := by
  intro t h
  cases h

theorem State.leads_command {number : Nat} {acc : StationState → Bool} {body : Device → Device × ResultCode}
    (h : ∀ d, acc d.control.state = true → Device.Leads sets d (body d).1) :
    s.Leads sets (s.next (s.dev.command number acc body)) :=
  State.leads_next (Device.command_leads h)

/-- R173: each of the twenty numbers, and a number that is no command's. -/
theorem executeNumber_leads (n : Nat) : s.Leads (decide (1 ≤ n) && decide (n ≤ 4)) (executeNumber n s) := by
  unfold executeNumber
  split
  case h_1 => exact State.leads_command fun d => setWindowBody_leads
  case h_2 => exact State.leads_command fun d => setSignalBody_leads
  case h_3 => exact State.leads_command fun d => setLineBody_leads
  case h_4 => exact State.leads_command fun d => setTimersBody_leads
  case h_5 => exact State.leads_command fun d hs => (Device.Works.join (inConfig_iff.mp hs)).leads
  case h_6 => exact State.leads_command fun d hs => (Device.Works.leave hs).leads
  case h_7 => exact State.leads_command fun d _ => Device.Works.reset.leads
  case h_8 => exact State.leads_command fun d _ => loadBody_leads
  case h_9 => exact State.leads_command fun d _ => startBody_leads
  case h_10 => exact State.leads_command fun d => stopBody_leads
  case h_11 => exact State.leads_command fun d _ => clearBody_leads
  case h_12 => exact State.leads_command fun d => signalBody_leads
  case h_13 => exact State.leads_command fun d hs => (Device.Works.request true (inJoined_iff.mp hs)).leads
  case h_14 => exact State.leads_command fun d hs => (Device.Works.request false (inJoined_iff.mp hs)).leads
  case h_15 => exact State.leads_command fun d _ => readChannelBody_leads
  case h_16 => exact State.leads_command fun d _ => d.leads_updLocal (fun p => { p with args := d.landingWords }) fun _ => rfl
  case h_17 => exact State.leads_command fun d _ => readWindowBody_leads
  case h_18 => exact State.leads_command fun d _ => readSignalBody_leads
  case h_19 => exact State.leads_command fun d _ => takeBody_leads
  case h_20 => exact State.leads_command fun d _ => Device.Writes.clearFlags.leads
  case h_21 => exact State.leads_command fun d _ => d.leads_refl

theorem Device.writeControl_leads {d : Device} (v : Word) : d.Leads sets (d.writeControl v) :=
  Device.leads_updLocal _ fun _ => rfl

theorem Device.writeArg_leads {d : Device} (word : Fin 16) (v : Word) : d.Leads sets (d.writeArg word v) := by
  unfold Device.writeArg
  split
  next => exact Device.leads_updLocal _ fun _ => rfl
  next => exact d.leads_refl

theorem execRegisterWrite_leads (word : Fin 16) (w : WordWrite) :
    s.Leads (decide (word = 0) && decide (1 ≤ w.commandNumber) && decide (w.commandNumber ≤ 4))
      (execRegisterWrite word w s) := by
  unfold execRegisterWrite
  split
  next h =>
    simp only [h, decide_true, Bool.true_and]
    exact executeNumber_leads _
  next =>
    split
    next => exact State.leads_next (Device.writeControl_leads _)
    next => exact State.leads_next (Device.writeArg_leads word _)

theorem execFrameDiscard_leads (f : ArrivingFrame) : s.Leads sets (execFrameDiscard f s) := by
  unfold execFrameDiscard
  split
  next => exact State.leads_next s.dev.leads_refl
  next => exact State.leads_next (Device.Writes.ownNumber _).leads
  next => exact State.leads_next Device.Writes.mismatch.leads
  next => exact State.leads_fault _

theorem Device.arrive_leads {d : Device} {x : Station} {inRange : Bool} {handle : Device → Device}
    (h : inRange = true → (d.notePeer x).Handles x (handle (d.notePeer x))) :
    d.Leads sets (d.arrive x inRange handle) := by
  unfold Device.arrive
  split
  next => exact d.leads_refl
  next hrange =>
    simp only [Bool.or_eq_true, Bool.not_eq_true', not_or, Bool.not_eq_false] at hrange
    obtain ⟨hreceiving, hrange⟩ := hrange
    split
    next => exact (Device.Writes.ownNumber x).leads
    next hx => exact (Device.Works.frame hreceiving hx (h hrange)).leads

theorem State.leads_arrive {x : Station} {inRange : Bool} {handle : Device → Device}
    (h : inRange = true → (s.dev.notePeer x).Handles x (handle (s.dev.notePeer x))) :
    s.Leads sets (s.next (s.dev.arrive x inRange handle)) :=
  State.leads_next (Device.arrive_leads h)

theorem State.leads_arriveControl {x : Station} {handle : Device → Device}
    (h : s.dev.control.receiving = true → x ≠ s.dev.control.number → s.dev.Works (handle s.dev)) :
    s.Leads sets (s.next (s.dev.arriveControl x handle)) := by
  refine State.leads_next ?_
  unfold Device.arriveControl
  split
  next => exact s.dev.leads_refl
  next hreceiving =>
    simp only [Bool.not_eq_true', Bool.not_eq_false] at hreceiving
    split
    next => exact (Device.Writes.ownNumber x).leads
    next hx => exact (h hreceiving hx).leads

/-- An event of a timer: it faults unless the timer runs. -/
theorem State.leads_ite {p : Prop} [Decidable p] {o : Host.Outcome State Fault Refusal} {f : Fault}
    (h : p → s.Leads sets o) : s.Leads sets (if p then o else .fault f) := by
  split
  next hp => exact h hp
  next => exact State.leads_fault f

theorem execReadCompletion_leads (data : List Byte) : s.Leads sets (execReadCompletion data s) := by
  unfold execReadCompletion
  split
  next r abandoned hr =>
    refine State.leads_ite fun _ => ?_
    cases abandoned with
    | true => exact State.leads_event (.readDropped hr)
    | false => exact State.leads_event (.readFilled data hr)
  next => exact State.leads_fault _
  next => exact State.leads_fault _

theorem execReadError_leads : s.Leads sets (execReadError s) := by
  unfold execReadError
  split
  next r abandoned hr =>
    cases abandoned with
    | true => exact State.leads_event (.readDropped hr)
    | false => exact State.leads_event (.readFailed hr)
  next => exact State.leads_fault _
  next => exact State.leads_fault _

theorem execWriteCompletion_leads : s.Leads sets (execWriteCompletion s) := by
  unfold execWriteCompletion
  split
  next w ws ha hw => exact State.leads_event (.written ha hw)
  all_goals exact State.leads_fault _

theorem execWriteError_leads : s.Leads sets (execWriteError s) := by
  unfold execWriteError
  split
  next w ws ha hw => exact State.leads_event (.writeFailed ha hw)
  all_goals exact State.leads_fault _

theorem execLifetimeExpiry_leads (x : Station) (c : ChannelNo) : s.Leads sets (execLifetimeExpiry x c s) := by
  unfold execLifetimeExpiry
  split
  next e he => exact State.leads_ite fun _ => State.leads_event (.lifetime (List.mem_of_find?_eq_some he))
  next => exact State.leads_fault _

theorem execLandingTimerExpiry_leads (x : Station) (c : ChannelNo) : s.Leads sets (execLandingTimerExpiry x c s) := by
  unfold execLandingTimerExpiry
  split
  next l hl => exact State.leads_ite fun _ => State.leads_event (.landingTimer (List.mem_of_find?_eq_some hl))
  next => exact State.leads_fault _

theorem Device.onLane_iff {d : Device} {f : Frame} (h : d.span.lane = some f) (b : FrameBody) : d.onLane b ↔ f.body = b := by
  simp [Device.onLane, h]

theorem execJoinTransmissionComplete_leads : s.Leads sets (execJoinTransmissionComplete s) := by
  unfold execJoinTransmissionComplete
  split
  next f hf => exact State.leads_ite fun h => State.leads_event (.joinSent ((Device.onLane_iff hf _).mpr h))
  next => exact State.leads_fault _

theorem execLeaveTransmissionComplete_leads : s.Leads sets (execLeaveTransmissionComplete s) := by
  unfold execLeaveTransmissionComplete
  split
  next f hf =>
    refine State.leads_ite fun h => ?_
    have hlane := (Device.onLane_iff hf _).mpr h
    split
    next ho => exact State.leads_event (.resetSent hlane ho)
    next ho => exact State.leads_event (.leaveSent hlane (Bool.eq_false_iff.mpr ho))
  next => exact State.leads_fault _

theorem execFrameTransmissionComplete_leads : s.Leads sets (execFrameTransmissionComplete s) := by
  unfold execFrameTransmissionComplete
  split
  next f hf =>
    split
    next => exact State.leads_fault _
    next h =>
      rw [← Device.onLane_iff hf, ← Device.onLane_iff hf, not_or] at h
      exact State.leads_event (.sent h.1 h.2)
  next => exact State.leads_fault _

/-- What one command or event, other than a power-on reset, can do. -/
theorem exec_leads (i : Instr) (s : State) (h : ∀ n, i ≠ .powerOnReset n) : s.Leads (writesConfig i) (exec i s) := by
  cases i with
  | setWindow => exact executeNumber_leads 1
  | setSignal => exact executeNumber_leads 2
  | setLine => exact executeNumber_leads 3
  | setTimers => exact executeNumber_leads 4
  | join => exact executeNumber_leads 5
  | leave => exact executeNumber_leads 6
  | resetStation => exact executeNumber_leads 7
  | load => exact executeNumber_leads 8
  | start => exact executeNumber_leads 9
  | stop => exact executeNumber_leads 10
  | clear => exact executeNumber_leads 11
  | signal => exact executeNumber_leads 12
  | haltAssert => exact executeNumber_leads 13
  | haltRelease => exact executeNumber_leads 14
  | readChannel => exact executeNumber_leads 15
  | readLandings => exact executeNumber_leads 16
  | readWindow => exact executeNumber_leads 17
  | readSignal => exact executeNumber_leads 18
  | take => exact executeNumber_leads 19
  | clearFlags => exact executeNumber_leads 20
  | unknownCommand w => exact executeNumber_leads w.commandNumber
  | controlWrite w => exact State.leads_next (Device.writeControl_leads _)
  | registerWrite word w => exact execRegisterWrite_leads word w
  | powerOnReset n => exact absurd rfl (h n)
  | triggerEdge line => exact State.leads_event (.edge line)
  | haltLineChange level => exact State.leads_event (.line level)
  | frameDiscard f => exact execFrameDiscard_leads f
  | offerArrives x c g f => exact State.leads_arrive (.offer c g)
  | waitArrives x c g => exact State.leads_arrive fun _ => .wait c g
  | grantArrives x c g a b => exact State.leads_arrive (.grant c g)
  | refuseArrives x c g r => exact State.leads_arrive fun _ => .refuse c g r
  | blockArrives x c g n p => exact State.leads_arrive (.block c g)
  | receiptArrives x c g a b f => exact State.leads_arrive (.receipt c g f)
  | pauseArrives x c g b => exact State.leads_arrive (.pause c g)
  | withdrawArrives x c g r => exact State.leads_arrive fun _ => .withdraw c g r
  | signalArrives x e a => exact State.leads_arrive fun _ => .signal e a
  | joinArrives x => exact State.leads_arriveControl .joinFrame
  | leaveArrives x => exact State.leads_arriveControl .leaveFrame
  | haltArrives x => exact State.leads_arrive fun _ => .halt
  | resumeArrives x => exact State.leads_arrive fun _ => .resume
  | joinTransmissionComplete => exact execJoinTransmissionComplete_leads
  | leaveTransmissionComplete => exact execLeaveTransmissionComplete_leads
  | frameTransmissionComplete => exact execFrameTransmissionComplete_leads
  | joinSpacingExpiry => exact State.leads_ite fun h => State.leads_event (.spacing h)
  | joinRepeatWindowExpiry x => exact State.leads_ite fun _ => State.leads_next (Device.Writes.closeWindow x).leads
  | offerReplyTimerExpiry c => exact State.leads_ite fun h => State.leads_event (.offerTimer h.1)
  | streamReplyTimerExpiry c => exact State.leads_ite fun h => State.leads_event (.streamTimer h.1)
  | queueTimerExpiry c => exact State.leads_ite fun h => State.leads_event (.queueTimer h.1)
  | pauseTimerExpiry c => exact State.leads_ite fun h => State.leads_event (.pauseTimer h.1)
  | lifetimeExpiry x c => exact execLifetimeExpiry_leads x c
  | landingTimerExpiry x c => exact execLandingTimerExpiry_leads x c
  | repeatTimerExpiry => exact State.leads_ite fun h => State.leads_event (.repeatTimer h)
  | lapseTimerExpiry x => exact State.leads_ite fun h => State.leads_event (.lapseTimer h)
  | readCompletion data => exact execReadCompletion_leads data
  | readError => exact execReadError_leads
  | writeCompletion => exact execWriteCompletion_leads
  | writeError => exact execWriteError_leads

end

/-! ### How an invariant is proved -/

/-- From P before an event to R after it, by way of Q where the choices of the lane and the memory port are made. -/
structure EventRule (P Q R : Device → Prop) : Prop where
  registers : ∀ {d e : Device}, d.beside e → P d → P e
  answered : ∀ {d e : Device}, d.beside e → R d → R e
  works : ∀ {d e : Device}, d.Works e → P d → Q e
  settles : ∀ {d : Device}, Q d → R d.settle
  writes : ∀ {d e : Device}, d.Writes e → P d → R e
  configures : ∀ {d e : Device}, d.control.state = .config → d.Configures e → P d → R e

theorem EventRule.leads {P Q R : Device → Prop} (rule : EventRule P Q R) {sets : Bool} {d t : Device}
    (h : d.Leads sets t) (hd : P d) : R t := by
  obtain ⟨d', e, hbeside, ⟨hwork, ht⟩ | ⟨hwrite, ht⟩ | ⟨⟨-, hstate, hset⟩, ht⟩⟩ := h
  · exact rule.answered ht (rule.settles (rule.works hwork (rule.registers hbeside hd)))
  · exact rule.answered ht (rule.writes hwrite (rule.registers hbeside hd))
  · exact rule.answered ht (rule.configures hstate hset (rule.registers hbeside hd))

/-- An invariant holds after every step, if power-on gives it and every event keeps it. -/
theorem EventRule.step {P Q : Device → Prop} (rule : EventRule P Q P) (hpower : ∀ n line, P (Device.powerOn n line))
    {s t : State} (h : step s = .next t) (hs : P s.dev) : P t.dev := by
  unfold Machine.step at h
  split at h
  next =>
    obtain rfl := Host.Outcome.next.inj h
    exact hs
  next i rest _ =>
    by_cases hi : ∃ n, i = .powerOnReset n
    · obtain ⟨n, rfl⟩ := hi
      obtain rfl := Host.Outcome.next.inj h
      exact hpower n _
    · obtain ⟨-, hleads⟩ := exec_leads i _ (not_exists.mp hi) t h
      exact rule.leads hleads hs

end Sys2Proof.Machine

/-! The choices that end an event: when the lane and the memory port have nothing left to take (R15, R141), and that this is
so after every step. -/

namespace Sys2Proof.Machine

/-! ### Choosing from a list -/

theorem mem_eight (c : Fin 8) : c ∈ eight := by revert c; decide

theorem nodup_eight : eight.Nodup := by decide

theorem firstMin_eq_none {α : Type} {f : α → Nat} {l : List α} : firstMin f l = none ↔ l = [] := by
  cases l with
  | nil => simp [firstMin]
  | cons a as =>
    simp only [firstMin, reduceCtorEq, iff_false]
    split
    next => simp
    next => split <;> simp

/-! ### When a choice finds nothing -/

theorem SpanInterface.pickStation_eq_none {s : SpanInterface} :
    s.pickStation = none ↔ s.joinDue = false ∧ s.haltDue = false ∧ s.resumeDue = false ∧ s.leaveDue = false := by
  unfold SpanInterface.pickStation
  cases s.joinDue <;> cases s.haltDue <;> cases s.resumeDue <;> cases s.leaveDue <;> simp

theorem FetchBuffer.dataOf_eq_some {b : FetchBuffer} {block : Nat} {data : List Byte} :
    b.dataOf block = some data ↔ b = .holding block data := by
  cases b <;> simp [FetchBuffer.dataOf]

/-- The two buffers of a channel, searched in order. -/
theorem Vector.findSome?_two {α β : Type} (v : Vector α 2) (f : α → Option β) :
    v.toList.findSome? f = (f v[(0 : Fin 2)]).or (f v[(1 : Fin 2)]) := by
  obtain ⟨⟨l⟩, hl⟩ := v
  match l, hl with
  | [a, b], _ =>
    show [a, b].findSome? f = (f a).or (f b)
    simp only [List.findSome?_cons, List.findSome?_nil]
    cases f a with
    | some x => rfl
    | none => cases f b <;> rfl

theorem Channel.hasReady_of_readyBlock {ch : Channel} {a : Descriptor} {data : List Byte}
    (h : ch.readyBlock = some (a, data)) : ch.hasReady a data := by
  unfold Channel.readyBlock at h
  split at h
  next a' data' hactive hdata =>
    split at h
    next hstate =>
      obtain ⟨rfl, rfl⟩ := Prod.mk.inj (Option.some.inj h)
      rw [Vector.findSome?_two, Option.or_eq_some_iff] at hdata
      refine ⟨hstate.1, hactive, hstate.2, ?_⟩
      rcases hdata with h0 | ⟨-, h1⟩
      · exact ⟨0, FetchBuffer.dataOf_eq_some.mp h0⟩
      · exact ⟨1, FetchBuffer.dataOf_eq_some.mp h1⟩
    next => cases h
  next => cases h

theorem Channel.readyBlock_of_hasReady {ch : Channel} {a : Descriptor} {data : List Byte} (h : ch.hasReady a data) :
    ∃ data', ch.readyBlock = some (a, data') := by
  obtain ⟨hstate, hactive, hnext, b, hb⟩ := h
  have hsome : (ch.buffers.toList.findSome? (FetchBuffer.dataOf ch.next)).isSome = true := by
    rw [Vector.findSome?_two]
    have hb' := FetchBuffer.dataOf_eq_some.mpr hb
    rcases Fin.forall_fin_two (p := fun b => b = 0 ∨ b = 1) |>.mpr ⟨.inl rfl, .inr rfl⟩ b with rfl | rfl
    · rw [hb', Option.some_or]
      rfl
    · rw [hb']
      cases ch.buffers[(0 : Fin 2)].dataOf ch.next <;> rfl
  obtain ⟨data', hdata⟩ := Option.isSome_iff_exists.mp hsome
  exact ⟨data', by simp [Channel.readyBlock, hactive, hdata, hstate, hnext]⟩

theorem Channel.readyBlock_eq_none {ch : Channel} : ch.readyBlock = none ↔ ∀ a data, ¬ch.hasReady a data := by
  constructor
  · intro h a data hready
    obtain ⟨data', hsome⟩ := Channel.readyBlock_of_hasReady hready
    simp [h] at hsome
  · intro h
    rcases hsome : ch.readyBlock with _ | ⟨a, data⟩
    · rfl
    · exact absurd (Channel.hasReady_of_readyBlock hsome) (h a data)

theorem Device.readyChannel_eq_none {d : Device} :
    d.readyChannel = none ↔ ∀ c : ChannelNo, d.channels[c].readyBlock = none := by
  simp only [Device.readyChannel, firstMin_eq_none, List.filter_eq_nil_iff, mem_eight, forall_true_left,
    Option.not_isSome_iff_eq_none]

/-! ### The choices leave nothing (log 6) -/

theorem Device.sendBlock_lane {d : Device} {c : ChannelNo} (h : d.channels[c].readyBlock.isSome = true) :
    (d.sendBlock c).span.lane ≠ none := by
  obtain ⟨⟨a, data⟩, hready⟩ := Option.isSome_iff_exists.mp h
  simp only [Device.sendBlock, hready, Device.requestReads_keeps, Device.updChannel_span, Device.emptyBuffers_keeps,
    Device.updSpan_span]
  exact Option.some_ne_none _

theorem firstMin_mem {α : Type} {f : α → Nat} {l : List α} {a : α} (h : firstMin f l = some a) : a ∈ l := by
  induction l with
  | nil => simp [firstMin] at h
  | cons b bs ih =>
    simp only [firstMin] at h
    split at h
    next =>
      obtain rfl := Option.some.inj h
      exact List.mem_cons_self
    next x hx =>
      split at h
      next =>
        obtain rfl := Option.some.inj h
        exact List.mem_cons_self
      next =>
        obtain rfl := Option.some.inj h
        exact List.mem_cons_of_mem _ (ih hx)

/-- R15: a lane that stays free found nothing to take. -/
theorem Device.chooseFrame_idle {d : Device} (h : d.chooseFrame.span.lane = none) :
    d.chooseFrame = d ∧ d.span.pickStation = none ∧ d.span.replies = [] ∧
      pickInitiation d.control.number d.halted d.span.initiation = none ∧
      (d.halted = false → d.control.owed = false → d.readyChannel = none) := by
  unfold Device.chooseFrame at h ⊢
  split at h
  next f hf => simp [hf] at h
  next hlane =>
    split at h
    next b s hpick => simp at h
    next hpick =>
      split at h
      next => simp at h
      next hreplies =>
        split at h
        next => simp at h
        next hinit =>
          simp only [hpick, hreplies, hinit, true_and]
          split at h
          next hstill =>
            simp only [hstill, if_true, true_and]
            intro hh ho
            simp [hh, ho] at hstill
          next hruns =>
            split at h
            next c hc =>
              have hready : c ∈ eight.filter fun c => d.channels[c].readyBlock.isSome := firstMin_mem hc
              exact absurd h (Device.sendBlock_lane (List.mem_filter.mp hready).2)
            next hnone => simp [hruns, hnone]

/-- R141: a port that stays free found no client. -/
theorem MemoryPort.issue_idle {p : MemoryPort} (h : p.issue.access = none) : p.issue = p ∧ p.writes = [] ∧ p.reads = [] := by
  unfold MemoryPort.issue at h ⊢
  split at h
  next a ha => simp [ha] at h
  next ha =>
    split at h
    next => simp at h
    next hw =>
      split at h
      next => simp at h
      next hr => simp [hw, firstMin_eq_none.mp hr]

theorem Device.settle_isServed (d : Device) : d.settle.served := by
  refine ⟨fun hlane => ?_, fun hfree => ?_⟩
  · obtain ⟨hsame, hidle⟩ := Device.chooseFrame_idle (d := d.reportDrained) hlane
    have hsettle : d.settle = d.reportDrained.updPort MemoryPort.issue := by rw [Device.settle, hsame]
    rw [hsettle]
    exact hidle
  · obtain ⟨hsame, hidle⟩ := MemoryPort.issue_idle hfree
    have hport : d.settle.port = d.reportDrained.chooseFrame.port := hsame
    rw [hport]
    exact hidle

/-! ### What does not disturb a served block -/

/-- Being served depends on the lane, the dues, the queues, the halt set, the blocks that are ready and the port alone. -/
theorem Device.served_of_same {d e : Device} (hs : d.served) (hspan : e.span = { d.span with
      idConflict := e.span.idConflict, laneMismatch := e.span.laneMismatch })
    (hnumber : e.control.number = d.control.number) (howed : e.control.owed = d.control.owed) (hhalt : e.halt = d.halt)
    (hready : ∀ c : ChannelNo, d.channels[c].readyBlock = none → e.channels[c].readyBlock = none)
    (hport : e.port = d.port) : e.served := by
  simp only [Device.served, SpanInterface.pickStation_eq_none, Device.readyChannel_eq_none, Device.halted] at hs ⊢
  rw [hspan, hnumber, howed, hhalt, hport]
  obtain ⟨hlane, hport⟩ := hs
  refine ⟨fun h => ?_, hport⟩
  obtain ⟨hdue, hreplies, hinit, hblocks⟩ := hlane h
  exact ⟨hdue, hreplies, hinit, fun hh ho c => hready c (hblocks hh ho c)⟩

theorem Channel.readyBlock_of_not_streaming {ch : Channel} (h : ch.state ≠ .streaming) : ch.readyBlock = none :=
  Channel.readyBlock_eq_none.mpr fun _ _ hready => h hready.1

/-- R43: at rest the descriptor becomes the active one. -/
theorem Channel.load_atRest {ch : Channel} (h : ch.state.inTransfer = false) (a : Descriptor) :
    ch.load a = { ch with active := some a, state := .ready } := by
  unfold Channel.load
  cases hs : ch.state <;> simp_all [ChannelState.inTransfer]

/-- R43: in a transfer the descriptor becomes the standby. -/
theorem Channel.load_inTransfer {ch : Channel} (h : ch.state.inTransfer = true) (a : Descriptor) :
    ch.load a = { ch with standby := some a } := by
  unfold Channel.load
  cases hs : ch.state <;> simp_all [ChannelState.inTransfer]

theorem Channel.load_readyBlock (ch : Channel) (a : Descriptor) (h : ch.readyBlock = none) :
    (ch.load a).readyBlock = none := by
  cases ht : ch.state.inTransfer with
  | false =>
    rw [Channel.load_atRest ht]
    exact Channel.readyBlock_of_not_streaming (by simp)
  | true =>
    rw [Channel.load_inTransfer ht]
    exact h

theorem Channel.promote_not_streaming (ch : Channel) : ch.promote.state ≠ .streaming := by
  unfold Channel.promote
  split <;> simp

theorem Channel.stopIdle_readyBlock (ch : Channel) (h : ch.readyBlock = none) : ch.stopIdle.readyBlock = none := by
  unfold Channel.stopIdle
  split
  next => exact Channel.readyBlock_of_not_streaming ch.promote_not_streaming
  all_goals exact h

/-- A property of every channel after one of them has changed. -/
theorem Device.forall_updChannel {d : Device} {c : ChannelNo} {f : Channel → Channel} {p : ChannelNo → Channel → Prop} :
    (∀ b : ChannelNo, p b (d.updChannel c f).channels[b]) ↔
      p c (f d.channels[c]) ∧ ∀ b : ChannelNo, b ≠ c → p b d.channels[b] := by
  constructor
  · intro h
    refine ⟨by simpa using h c, fun b hb => ?_⟩
    have := h b
    rwa [Device.updChannel_other d c f hb.symm] at this
  · rintro ⟨hc, hother⟩ b
    by_cases hb : b = c
    · subst hb
      rwa [Device.updChannel_same]
    · rw [Device.updChannel_other d c f (Ne.symm hb)]
      exact hother b hb

theorem Device.updChannel_served {d : Device} (hs : d.served) (c : ChannelNo) {f : Channel → Channel}
    (hf : d.channels[c].readyBlock = none → (f d.channels[c]).readyBlock = none) : (d.updChannel c f).served :=
  Device.served_of_same hs rfl rfl rfl rfl
    (Device.forall_updChannel (p := fun b ch => d.channels[b].readyBlock = none → ch.readyBlock = none)
      |>.mpr ⟨hf, fun _ _ h => h⟩) rfl

theorem Device.beside_served {d e : Device} (h : d.beside e) (hs : d.served) : e.served := by
  obtain ⟨f, -, rfl⟩ := h
  exact hs

theorem Device.noteOwnNumber_span (d : Device) (x : Station) :
    (d.noteOwnNumber x).span = { d.span with idConflict := true } := by
  unfold Device.noteOwnNumber
  split <;> simp

theorem Device.Writes.served {d e : Device} (h : d.Writes e) (hs : d.served) : e.served := by
  cases h with
  | nothing => exact hs
  | load c h => exact Device.updChannel_served hs c (Channel.load_readyBlock _ _)
  | stopIdle c h => exact Device.updChannel_served hs c (Channel.stopIdle_readyBlock _)
  | clear c h => exact Device.updChannel_served hs c fun _ => Channel.readyBlock_of_not_streaming (by simp)
  | take h => exact hs
  | clearFlags => exact Device.served_of_same hs rfl rfl rfl rfl (fun _ h => h) rfl
  | ownNumber x =>
    refine Device.served_of_same hs ?_ ?_ ?_ ?_ (fun c h => ?_) ?_
    · rw [Device.noteOwnNumber_span]
    all_goals simp only [Device.noteOwnNumber_keeps]
    exact h
  | mismatch => exact Device.served_of_same hs rfl rfl rfl rfl (fun _ h => h) rfl
  | closeWindow x => exact Device.served_of_same hs rfl rfl rfl rfl (fun _ h => h) rfl

theorem Device.Configures.served {d e : Device} (h : d.Configures e) (hs : d.served) : e.served := by
  cases h <;> exact Device.served_of_same hs rfl rfl rfl rfl (fun _ h => h) rfl

theorem Device.powerOn_served (n : Station) (line : Bool) : (Device.powerOn n line).served := by
  refine ⟨fun _ => ⟨rfl, rfl, rfl, fun _ _ => ?_⟩, fun _ => ⟨rfl, rfl⟩⟩
  rw [Device.readyChannel_eq_none]
  intro c
  simp [Device.powerOn, Channel.afterReset, Channel.readyBlock]

theorem servedRule : EventRule Device.served (fun _ => True) Device.served where
  registers := Device.beside_served
  answered := Device.beside_served
  works _ _ := trivial
  settles {d} _ := d.settle_isServed
  writes := Device.Writes.served
  configures _ := Device.Configures.served

/-- Settles O60: what ends with the choices is served by them, and the other commands and events bring no frame, no ready
block and no access. -/
theorem laneAndPortStayServed : Obligations.LaneAndPortStayServed := fun _ _ hs h =>
  servedRule.step Device.powerOn_served h hs

end Sys2Proof.Machine

/-! What the shared operations tell the outside: the replies and claims they place in the transmit queues (R13, R14), and the
notices they post (R180). One relation says both, and each operation is shown once to be of it. -/

namespace Sys2Proof.Machine

/-! ### Moves of the transmit queues -/

/-- One change of the reply queue or of the initiation queue by a claim, by the begin or the end of a transfer, or by the
removal of a peer's frames. -/
inductive SpanInterface.Move (s : SpanInterface) : SpanInterface → Prop
  | reply (r) : Move s { s with replies := placeReply s.replies r }
  | current (c f) : Move s { s with initiation := placeCurrent c f s.initiation }
  | earlier (c w) : Move s { s with initiation := placeEarlier c w s.initiation }
  | slot (c f) : Move s { s with initiation := changeSlot c f s.initiation }
  | forget (p : Reply → Bool) : Move s { s with replies := s.replies.filter p }

/-- Any number of such changes. -/
abbrev SpanInterface.Moves : SpanInterface → SpanInterface → Prop := Relation.ReflTransGen SpanInterface.Move

/-- A property of the Span Interface that one change keeps is kept by all. -/
theorem SpanInterface.Moves.keeps {P : SpanInterface → Prop} (hP : ∀ {s t : SpanInterface}, s.Move t → P s → P t)
    {s t : SpanInterface} (h : s.Moves t) (hs : P s) : P t := by
  induction h with
  | refl => exact hs
  | tail _ hmove ih => exact hP hmove ih

/-- The lane, the dues and the flags are not the queues'. -/
theorem SpanInterface.Moves.frame {s t : SpanInterface} (h : s.Moves t) :
    t = { s with replies := t.replies, initiation := t.initiation } := by
  refine h.keeps (P := fun t => t = { s with replies := t.replies, initiation := t.initiation }) ?_ rfl
  intro t u hmove ht
  cases hmove <;> rw [ht]

/-! ### Notices posted -/

/-- The notices of the Channel Unit and the Signal Unit. -/
def Notice.ofTransfer : Notice → Bool
  | .channelEnded .. | .startMissed .. | .signal .. => true
  | .landingEnded .. | .landingSuspended .. | .landingResumed .. | .peerChange .. | .haltChange .. | .leftSpan _
  | .stationConflict _ => false

/-- The notice of a landing resumed by a run (R81). -/
def Notice.ofResume : Notice → Bool
  | .landingResumed .. => true
  | .channelEnded .. | .startMissed .. | .signal .. | .landingEnded .. | .landingSuspended .. | .peerChange ..
  | .haltChange .. | .leftSpan _ | .stationConflict _ => false

/-- The notices of the Admission Unit, and those of the landing event it may apply (R100). -/
def Notice.ofLanding (n : Notice) : Bool :=
  match n with
  | .landingEnded .. | .landingSuspended .. | .landingResumed .. | .startMissed .. | .signal .. => true
  | .channelEnded .. | .peerChange .. | .haltChange .. | .leftSpan _ | .stationConflict _ => false

/-- Notices of this class are posted, in some order, and the Local Port is else as it was. -/
def LocalPort.Posts (p : Notice → Bool) (a b : LocalPort) : Prop :=
  ∃ ns : List Notice, (∀ n ∈ ns, p n = true) ∧ b = ns.foldl LocalPort.post a

theorem LocalPort.posts_refl {p : Notice → Bool} (a : LocalPort) : a.Posts p a := ⟨[], by simp, rfl⟩

theorem LocalPort.posts_one {p : Notice → Bool} (a : LocalPort) {n : Notice} (h : p n = true) : a.Posts p (a.post n) :=
  ⟨[n], by simpa using h, rfl⟩

theorem LocalPort.Posts.trans {p : Notice → Bool} {a b c : LocalPort} (h : a.Posts p b) (h' : b.Posts p c) :
    a.Posts p c := by
  obtain ⟨ns, hns, rfl⟩ := h
  obtain ⟨ms, hms, rfl⟩ := h'
  refine ⟨ns ++ ms, fun n hn => ?_, (List.foldl_append ..).symm⟩
  rcases List.mem_append.mp hn with hn | hn
  · exact hns n hn
  · exact hms n hn

theorem LocalPort.Posts.mono {p q : Notice → Bool} (hpq : ∀ n, p n = true → q n = true) {a b : LocalPort}
    (h : a.Posts p b) : a.Posts q b := by
  obtain ⟨ns, hns, rfl⟩ := h
  exact ⟨ns, fun n hn => hpq n (hns n hn), rfl⟩

/-! ### The two together -/

/-- An operation moves the transmit queues, posts notices of this class, and leaves the rest of both units as it was. -/
structure Device.Tells (p : Notice → Bool) (d e : Device) : Prop where
  moves : d.span.Moves e.span
  posts : d.lport.Posts p e.lport

section
variable {p q : Notice → Bool} {d e g : Device}

theorem Device.tells_refl (d : Device) : d.Tells p d := ⟨.refl, d.lport.posts_refl⟩

theorem Device.tells_of_keeps (hspan : e.span = d.span) (hlport : e.lport = d.lport) : d.Tells p e :=
  ⟨hspan.symm ▸ .refl, hlport.symm ▸ d.lport.posts_refl⟩

theorem Device.tells_of_move (hspan : d.span.Move e.span) (hlport : e.lport = d.lport) : d.Tells p e :=
  ⟨.single hspan, hlport.symm ▸ d.lport.posts_refl⟩

theorem Device.Tells.trans (h : d.Tells p e) (h' : e.Tells p g) : d.Tells p g :=
  ⟨h.moves.trans h'.moves, h.posts.trans h'.posts⟩

theorem Device.Tells.mono (hpq : ∀ n, p n = true → q n = true) (h : d.Tells p e) : d.Tells q e :=
  ⟨h.moves, h.posts.mono hpq⟩

/-- A later change of a unit other than the two. -/
theorem Device.Tells.then (h : d.Tells p e) (hspan : g.span = e.span) (hlport : g.lport = e.lport) : d.Tells p g :=
  h.trans (Device.tells_of_keeps hspan hlport)

theorem Device.Tells.updAdmission (h : d.Tells p e) {f : AdmissionUnit → AdmissionUnit} : d.Tells p (e.updAdmission f) :=
  h.then rfl rfl
theorem Device.Tells.updPort (h : d.Tells p e) {f : MemoryPort → MemoryPort} : d.Tells p (e.updPort f) := h.then rfl rfl
theorem Device.Tells.updHalt (h : d.Tells p e) {f : HaltUnit → HaltUnit} : d.Tells p (e.updHalt f) := h.then rfl rfl
theorem Device.Tells.updControl (h : d.Tells p e) {f : StationControl → StationControl} : d.Tells p (e.updControl f) :=
  h.then rfl rfl
theorem Device.Tells.updChannel (h : d.Tells p e) {c : ChannelNo} {f : Channel → Channel} :
    d.Tells p (e.updChannel c f) := h.then rfl rfl
theorem Device.Tells.requestReads (h : d.Tells p e) {c : ChannelNo} : d.Tells p (e.requestReads c) :=
  h.then (by simp) (by simp)
theorem Device.Tells.removeRecord (h : d.Tells p e) {k : Key} : d.Tells p (e.removeRecord k) := h.then rfl rfl

theorem Device.post_tells (d : Device) {n : Notice} (h : p n = true) : d.Tells p (d.post n) :=
  ⟨.refl, d.lport.posts_one h⟩

theorem Device.Tells.post (h : d.Tells p e) {n : Notice} (hn : p n = true) : d.Tells p (e.post n) :=
  h.trans (e.post_tells hn)

/-- A walk over a list of operations. -/
theorem Device.foldl_tells {α : Type} {f : Device → α → Device} (h : ∀ (d : Device) (a : α), d.Tells p (f d a)) (l : List α) (d : Device) :
    d.Tells p (l.foldl f d) := by
  induction l generalizing d with
  | nil => exact d.tells_refl
  | cons a l ih => exact (h d a).trans (ih _)

theorem Device.claimReply_tells (d : Device) (k : Key) (n : Generation) (r : ReplyKind) : d.Tells p (d.claimReply k n r) := by
  unfold Device.claimReply
  split
  next => exact d.tells_refl
  next => exact Device.tells_of_move (.reply _) rfl

theorem Device.Tells.reply (h : d.Tells p e) (k : Key) (n : Generation) (r : ReplyKind) : d.Tells p (e.claimReply k n r) :=
  h.trans (e.claimReply_tells k n r)

theorem Device.claimReceipt_tells (d : Device) (l : Landing) (final : Bool) : d.Tells p (d.claimReceipt l final) := by
  unfold Device.claimReceipt
  split <;> exact d.claimReply_tells _ _ _

/-! ### The Channel Unit -/

theorem Device.claimInitiation_tells (d : Device) {f : List InitEntry → List InitEntry}
    (h : d.span.Move { d.span with initiation := f d.span.initiation }) : d.Tells p (d.claimInitiation f) := by
  unfold Device.claimInitiation
  split
  next => exact d.tells_refl
  next => exact Device.tells_of_move h rfl

theorem Device.claimOffer_tells (d : Device) (c : ChannelNo) (a : Descriptor) : d.Tells p (d.claimOffer c a) :=
  d.claimInitiation_tells (.current ..)

theorem Device.claimWithdraw_tells (d : Device) (c : ChannelNo) (w : Withdrawal) : d.Tells p (d.claimWithdraw c w) := by
  unfold Device.claimWithdraw
  split
  next => exact d.claimInitiation_tells (.current ..)
  next => exact d.claimInitiation_tells (.earlier ..)

theorem Device.removeOffer_tells (d : Device) (c : ChannelNo) : d.Tells p (d.removeOffer c) :=
  Device.tells_of_move (.slot ..) rfl

theorem Device.answerStale_tells (d : Device) (c : ChannelNo) (x : Station) (n : Generation) :
    d.Tells p (d.answerStale c x n) := by
  unfold Device.answerStale
  split
  next => exact d.tells_refl
  next => exact d.claimWithdraw_tells _ _

theorem Device.beginTransfer_tells (d : Device) (c : ChannelNo) : d.Tells p (d.beginTransfer c) := by
  unfold Device.beginTransfer
  split
  next => exact d.tells_refl
  next a _ =>
    refine Device.Tells.then (Device.Tells.trans ?_ (Device.claimOffer_tells _ c a)) rfl rfl
    exact ((Device.tells_of_keeps (by simp) (by simp)).then rfl rfl).trans (Device.tells_of_move (.slot ..) rfl)

theorem Device.tryStart_tells {c : ChannelNo} (h : d.tryStart c = some e) : d.Tells p e := by
  unfold Device.tryStart at h
  split at h
  next =>
    split at h
    next => cases h
    next => exact Option.some.inj h ▸ d.beginTransfer_tells c
    all_goals exact Option.some.inj h ▸ d.tells_refl.updChannel
  next =>
    split at h
    next => cases h
    all_goals exact Option.some.inj h ▸ d.tells_refl.updChannel
  all_goals cases h

theorem Device.startOrMiss_tells (hp : ∀ c m, p (.startMissed c m) = true) (d : Device) (c : ChannelNo) (m : MissedCause) :
    d.Tells p (d.startOrMiss c m) := by
  unfold Device.startOrMiss
  split
  next h => exact Device.tryStart_tells h
  next => exact d.post_tells (hp c m)

theorem Device.applySignal_tells (hp : ∀ c m, p (.startMissed c m) = true) (hs : ∀ x c e a, p (.signal x c e a) = true)
    (d : Device) (x : Station) (cause : SignalCause) (event : EventNo) (a : BitVec 16) :
    d.Tells p (d.applySignal x cause event a) := by
  have htold : d.Tells p (if (d.config.signals[event]).action.notices = true then d.post (.signal x cause event a) else d) := by
    split
    next => exact d.post_tells (hs _ _ _ _)
    next => exact d.tells_refl
  unfold Device.applySignal
  dsimp only
  split
  next => exact htold.trans (Device.startOrMiss_tells hp ..)
  next => exact htold

theorem Device.closeTransfer_tells (d : Device) (c : ChannelNo) (a : Descriptor) (o : TransferOutcome) :
    d.Tells p (d.closeTransfer c a o) := by
  have hstop : d.Tells p (d.stopMachinery c) := Device.tells_of_keeps (by simp) (by simp)
  unfold Device.closeTransfer
  split
  next => exact (hstop.trans (Device.claimWithdraw_tells ..)).trans (Device.removeOffer_tells ..)
  next => exact hstop.trans (Device.removeOffer_tells ..)

end

section
variable {d : Device}

theorem Device.recordOutcome_tells (d : Device) (c : ChannelNo) (a : Descriptor) (o : TransferOutcome) (r : Option Reason) :
    d.Tells Notice.ofTransfer (d.recordOutcome c a o r) :=
  d.tells_refl.updChannel.post (by rfl)

theorem Device.applyDone_tells (d : Device) (c : ChannelNo) (a : Descriptor) (o : TransferOutcome) :
    d.Tells Notice.ofTransfer (d.applyDone c a o) := by
  unfold Device.applyDone
  split
  next => exact Device.applySignal_tells (fun _ _ => rfl) (fun _ _ _ _ => rfl) ..
  next => exact d.tells_refl

theorem Device.afterPromotion_tells (d : Device) (c : ChannelNo) (o : TransferOutcome) (chain : Bool) :
    d.Tells Notice.ofTransfer (d.afterPromotion c o chain) := by
  have hunlatched : d.Tells Notice.ofTransfer (d.updChannel c fun ch => { ch with latch := false }) :=
    Device.tells_of_keeps rfl rfl
  unfold Device.afterPromotion
  split
  next =>
    split
    next =>
      split
      next => exact d.beginTransfer_tells c
      next => exact d.tells_refl
    all_goals
      split
      next => exact hunlatched.post (by rfl)
      next => exact d.tells_refl
  next => exact hunlatched

theorem Device.endTransfer_tells (d : Device) (c : ChannelNo) (o : TransferOutcome) (r : Option RefuseReason) :
    d.Tells Notice.ofTransfer (d.endTransfer c o r) := by
  unfold Device.endTransfer
  split
  next => exact d.tells_refl
  next a _ =>
    have hclosed := (d.closeTransfer_tells (p := Notice.ofTransfer) c a o).trans
      (Device.recordOutcome_tells _ c a o (outcomeReason o r))
    exact (hclosed.trans (Device.applyDone_tells _ c a o)).updChannel.trans (Device.afterPromotion_tells _ c o a.chain)

theorem Device.tearChannels_tells (d : Device) (x : Station) (o : TransferOutcome) :
    d.Tells Notice.ofTransfer (d.tearChannels x o) := by
  refine Device.foldl_tells (fun d c => ?_) eight d
  split
  next =>
    split
    next => exact d.endTransfer_tells c o none
    next => exact d.tells_refl
  next => exact d.tells_refl

theorem Device.releaseLatches_tells (d : Device) : d.Tells Notice.ofTransfer d.releaseLatches := by
  refine Device.foldl_tells (fun d c => ?_) eight d
  split
  next => exact d.beginTransfer_tells c
  next => exact d.tells_refl

theorem Device.lineStarts_tells (d : Device) (line : LineNo) : d.Tells Notice.ofTransfer (d.lineStarts line) := by
  refine Device.foldl_tells (fun d c => ?_) eight d
  split
  next => exact Device.startOrMiss_tells (fun _ _ => rfl) d c .line
  next => exact d.tells_refl

theorem Device.leaveChannel_tells (d : Device) (c : ChannelNo) : d.Tells Notice.ofTransfer (d.leaveChannel c) := by
  unfold Device.leaveChannel
  split
  next => exact d.endTransfer_tells c .left none
  next =>
    split
    next => exact d.tells_refl.updChannel.post (by rfl)
    next => exact d.tells_refl

theorem Device.handleWait_tells (d : Device) (x : Station) (c : ChannelNo) (n : Generation) :
    d.Tells Notice.ofTransfer (d.handleWait x c n) := by
  unfold Device.handleWait
  split
  next => exact d.tells_refl.updChannel.trans (Device.removeOffer_tells _ c)
  next => exact d.tells_refl

theorem Device.takeGrant_tells (d : Device) (c : ChannelNo) (start limit : Nat) :
    d.Tells Notice.ofTransfer (d.takeGrant c start limit) := by
  unfold Device.takeGrant
  exact (d.tells_refl.updChannel.trans (Device.removeOffer_tells _ c)).requestReads

theorem Device.handleGrant_tells (d : Device) (x : Station) (c : ChannelNo) (n : Generation) (start limit : Nat) :
    d.Tells Notice.ofTransfer (d.handleGrant x c n start limit) := by
  have hstale : d.Tells Notice.ofTransfer (d.answerStale c x n) := d.answerStale_tells c x n
  unfold Device.handleGrant
  dsimp only
  split
  next => exact hstale
  next =>
    split
    case h_1 | h_2 => exact hstale
    case h_3 | h_4 =>
      split
      next => exact hstale
      next => exact d.tells_refl
    all_goals
      split
      next =>
        split
        next => exact d.takeGrant_tells c start limit
        next => exact hstale
      next => exact d.tells_refl

theorem Device.takeReceipt_tells (d : Device) (c : ChannelNo) (accepted limit : Nat) (final : Bool) :
    d.Tells Notice.ofTransfer (d.takeReceipt c accepted limit final) := by
  have hnoted : d.Tells Notice.ofTransfer
      ((d.updChannel c fun ch => ch.noteReceipt d.config.tReply accepted limit).liftNext c) :=
    Device.tells_of_keeps (by simp) (by simp)
  unfold Device.takeReceipt
  split
  next => exact hnoted.trans (Device.endTransfer_tells ..)
  next => exact hnoted.then (by simp) (by simp)

theorem Device.handleReceipt_tells (d : Device) (x : Station) (c : ChannelNo) (n : Generation) (accepted limit : Nat)
    (final : Bool) : d.Tells Notice.ofTransfer (d.handleReceipt x c n accepted limit final) := by
  unfold Device.handleReceipt
  split
  next =>
    split
    case h_1 | h_2 => exact d.takeReceipt_tells c accepted limit final
    all_goals exact Device.tells_of_keeps rfl rfl
  next => exact d.tells_refl

theorem Device.handleRefuse_tells (d : Device) (x : Station) (c : ChannelNo) (n : Generation) (r : RefuseReason) :
    d.Tells Notice.ofTransfer (d.handleRefuse x c n r) := by
  unfold Device.handleRefuse
  split
  next => exact d.endTransfer_tells c .refused (some r)
  next => exact d.tells_refl

theorem Device.handleSignal_tells (d : Device) (x : Station) (e : EventNo) (a : BitVec 16) :
    d.Tells Notice.ofTransfer (d.handleSignal x e a) := by
  unfold Device.handleSignal
  split
  next => exact Device.applySignal_tells (fun _ _ => rfl) (fun _ _ _ _ => rfl) ..
  next => exact d.tells_refl

theorem Device.resendOffer_tells (d : Device) (c : ChannelNo) : d.Tells Notice.ofTransfer (d.resendOffer c) := by
  unfold Device.resendOffer
  split
  next a _ =>
    split
    next => exact (d.claimOffer_tells c a).then rfl rfl
    next => exact d.endTransfer_tells c .noReply none
  next => exact d.tells_refl

theorem Device.streamExpiry_tells (d : Device) (c : ChannelNo) : d.Tells Notice.ofTransfer (d.streamExpiry c) := by
  unfold Device.streamExpiry
  split
  next => exact d.endTransfer_tells c .noReply none
  next => exact Device.tells_of_keeps (by simp) (by simp)

/-! ### The Admission Unit -/

theorem Device.admitOffer_tells {p : Notice → Bool} (d : Device) (o : Offer) : d.Tells p (d.admitOffer o) :=
  d.tells_refl.updAdmission.reply ..

theorem Device.resumeLanding_tells {p : Notice → Bool} (hp : ∀ k w g n, p (.landingResumed k w g n) = true) (d : Device)
    (l : Landing) : d.Tells p (d.resumeLanding l) :=
  (d.tells_refl.updAdmission.reply ..).post (hp _ _ _ _)

theorem Device.takeCandidate_tells {p : Notice → Bool} (hp : ∀ k w g n, p (.landingResumed k w g n) = true) (d : Device)
    (c : Candidate) : d.Tells p (d.takeCandidate c) := by
  cases c with
  | resume l => exact d.resumeLanding_tells hp l
  | enter e => exact d.tells_refl.updAdmission.trans (Device.admitOffer_tells ..)

theorem Device.raiseLimit_tells {p : Notice → Bool} (d : Device) (l : Landing) : d.Tells p (d.raiseLimit l) :=
  d.tells_refl.updAdmission.trans (Device.claimReceipt_tells ..)

theorem Device.distribute_tells {p : Notice → Bool} (hp : ∀ k w g n, p (.landingResumed k w g n) = true) (d : Device) :
    d.Tells p d.distribute := by
  unfold Device.distribute
  split
  next => exact d.tells_refl
  next =>
    split
    next =>
      split
      next => exact d.raiseLimit_tells _
      next => exact d.takeCandidate_tells hp _
    next => exact d.raiseLimit_tells _
    next => exact d.takeCandidate_tells hp _
    next => exact d.tells_refl

theorem Device.admissionRun_tells {p : Notice → Bool} (hp : ∀ k w g n, p (.landingResumed k w g n) = true) (fuel : Nat)
    (d : Device) : d.Tells p (Device.admissionRun fuel d) := by
  induction fuel generalizing d with
  | zero => exact d.tells_refl
  | succ fuel ih =>
    unfold Device.admissionRun
    split
    next => exact (d.takeCandidate_tells hp _).trans (ih _)
    next => exact d.tells_refl

theorem Device.sweep_tells {p : Notice → Bool} (fuel : Nat) (d : Device) : d.Tells p (Device.sweep fuel d) := by
  induction fuel generalizing d with
  | zero => exact d.tells_refl
  | succ fuel ih =>
    unfold Device.sweep
    split
    next => exact d.tells_refl
    next =>
      split
      next => exact (d.raiseLimit_tells _).trans (ih _)
      next => exact d.tells_refl

theorem Device.runAndSweep_tells {p : Notice → Bool} (hp : ∀ k w g n, p (.landingResumed k w g n) = true) (d : Device) :
    d.Tells p d.runAndSweep := by
  unfold Device.runAndSweep
  split
  next => exact (Device.admissionRun_tells hp _ d).trans (Device.sweep_tells _ _)
  next => exact d.tells_refl

theorem Device.Tells.run {e : Device} (h : d.Tells Notice.ofLanding e) : d.Tells Notice.ofLanding e.runAndSweep :=
  h.trans (e.runAndSweep_tells fun _ _ _ _ => rfl)

theorem Device.runIf_tells {p : Notice → Bool} (hp : ∀ k w g n, p (.landingResumed k w g n) = true) (d : Device) (b : Bool) :
    d.Tells p (runIf b d) := by
  unfold runIf
  split
  next => exact d.runAndSweep_tells hp
  next => exact d.tells_refl

theorem Device.suspend_tells (d : Device) (l : Landing) : d.Tells Notice.ofLanding (d.suspend l) :=
  (d.claimReply_tells ..).updAdmission.post (by rfl)

theorem Device.placeWaiting_tells (d : Device) (o : Offer) : d.Tells Notice.ofLanding (d.placeWaiting o) :=
  d.tells_refl.updAdmission.reply ..

theorem Device.evict_tells (d : Device) (t : PendingEntry) : d.Tells Notice.ofLanding (d.evict t) :=
  (d.tells_refl.updAdmission.reply ..).post (by rfl)

theorem Device.queueOffer_tells (d : Device) (o : Offer) : d.Tells Notice.ofLanding (d.queueOffer o) := by
  unfold Device.queueOffer
  split
  next => exact d.placeWaiting_tells o
  next =>
    split
    next t _ =>
      split
      next => exact (d.evict_tells t).trans (Device.placeWaiting_tells _ o)
      next => exact d.claimReply_tells ..
    next => exact d.placeWaiting_tells o

theorem Device.admitOrQueue_tells (d : Device) (o : Offer) : d.Tells Notice.ofLanding (d.admitOrQueue o) := by
  unfold Device.admitOrQueue
  split
  next => exact d.admitOffer_tells o
  next => exact d.queueOffer_tells o

theorem Device.judgeAndPlace_tells (d : Device) (o : Offer) : d.Tells Notice.ofLanding (d.judgeAndPlace o).1 := by
  unfold Device.judgeAndPlace
  split
  next => exact d.claimReply_tells ..
  next =>
    split
    next l _ => exact (d.suspend_tells l).trans (Device.admitOrQueue_tells _ o)
    next => exact d.admitOrQueue_tells o

theorem Device.supersedeRecord_tells (d : Device) (l : Landing) : d.Tells Notice.ofLanding (d.supersedeRecord l) :=
  d.tells_refl.removeRecord.post (by rfl)

theorem Device.supersedeWaiting_tells (d : Device) (e : PendingEntry) : d.Tells Notice.ofLanding (d.supersedeWaiting e) :=
  d.tells_refl.updAdmission.post (by rfl)

theorem Device.handleOffer_tells (d : Device) (o : Offer) : d.Tells Notice.ofLanding (d.handleOffer o) := by
  have hrun : ∀ (e : Device) (b : Bool), e.Tells Notice.ofLanding (runIf b e) := fun e b => e.runIf_tells (fun _ _ _ _ => rfl) b
  unfold Device.handleOffer
  split
  next l _ =>
    split
    next => exact d.claimReply_tells ..
    next => exact ((d.supersedeRecord_tells l).trans (Device.judgeAndPlace_tells _ o)).trans (hrun _ _)
  next e _ =>
    split
    next => exact d.claimReply_tells ..
    next => exact ((d.supersedeWaiting_tells e).trans (Device.judgeAndPlace_tells _ o)).trans (hrun _ _)
  next =>
    exact (d.tells_refl.updAdmission.trans (Device.judgeAndPlace_tells _ o)).trans (hrun _ _)
  next => exact (d.judgeAndPlace_tells o).trans (hrun _ _)

theorem Device.handleWithdraw_tells (d : Device) (k : Key) (n : Generation) (r : WithdrawReason) :
    d.Tells Notice.ofLanding (d.handleWithdraw k n r) := by
  unfold Device.handleWithdraw
  split
  next =>
    split
    next => exact (d.tells_refl.removeRecord.post (by rfl)).run
    next => exact d.tells_refl
  next =>
    split
    next => exact (d.tells_refl.updAdmission.post (by rfl)).run
    next => exact d.tells_refl
  next => exact d.tells_refl
  next => exact d.tells_refl

theorem Device.answerBlock_tells {p : Notice → Bool} (d : Device) (k : Key) (n : Generation) :
    d.Tells p (d.answerBlock k n) := by
  unfold Device.answerBlock
  split
  next =>
    split
    next =>
      split
      next => exact d.claimReceipt_tells _ _
      next => exact d.claimReply_tells ..
      next => exact d.claimReply_tells ..
    next => exact d.claimReply_tells ..
  next => split <;> exact d.claimReply_tells ..
  next => split <;> exact d.claimReply_tells ..
  next => exact d.claimReply_tells ..

theorem Device.handleBlock_tells {p : Notice → Bool} (d : Device) (k : Key) (n : Generation) (number : Nat)
    (payload : List Byte) : d.Tells p (d.handleBlock k n number payload) := by
  unfold Device.handleBlock
  split
  next =>
    split
    next => exact Device.tells_of_keeps rfl rfl
    next => exact d.answerBlock_tells k n
  next => exact d.answerBlock_tells k n

theorem Device.completeLanding_tells (d : Device) (l : Landing) : d.Tells Notice.ofLanding (d.completeLanding l) := by
  have hended : d.Tells Notice.ofLanding (((d.removeRecord l.offer.key).updAdmission (·.addRecent
      { key := l.offer.key, generation := l.offer.generation, blocks := l.blocks })).post
        (l.offer.ended .landed l.offer.fields.length)) :=
    d.tells_refl.removeRecord.updAdmission.post (by rfl)
  unfold Device.completeLanding
  dsimp only
  split
  next => exact hended.trans (Device.applySignal_tells (fun _ _ => rfl) (fun _ _ _ _ => rfl) ..)
  next => exact hended

theorem Device.placeFreed_tells (d : Device) (k : Key) : d.Tells Notice.ofLanding (d.placeFreed k) := by
  unfold Device.placeFreed
  split
  next =>
    split
    next => exact Device.tells_of_keeps rfl rfl
    next => exact d.distribute_tells fun _ _ _ _ => rfl
  next => exact d.distribute_tells fun _ _ _ _ => rfl

theorem Device.reportWrite_tells (d : Device) (k : Key) : d.Tells Notice.ofLanding (d.reportWrite k) := by
  unfold Device.reportWrite
  split
  next l _ =>
    have hclaimed := d.claimReceipt_tells (p := Notice.ofLanding) l (decide (l.written = l.blocks))
    dsimp only
    split
    next => exact hclaimed.trans (Device.completeLanding_tells _ l)
    next => exact hclaimed
  next => exact d.tells_refl

theorem Device.writeDone_tells (d : Device) (owner : Option Key) : d.Tells Notice.ofLanding (d.writeDone owner) := by
  cases owner with
  | none => exact (d.distribute_tells fun _ _ _ _ => rfl).run
  | some k =>
    exact ((d.tells_refl.updAdmission.trans (Device.placeFreed_tells _ k)).trans (Device.reportWrite_tells _ k)).run

theorem Device.writeFailed_tells (d : Device) (owner : Option Key) : d.Tells Notice.ofLanding (d.writeFailed owner) := by
  have hspread : d.Tells Notice.ofLanding d.distribute.runAndSweep := (d.distribute_tells fun _ _ _ _ => rfl).run
  cases owner with
  | none => exact hspread
  | some k =>
    unfold Device.writeFailed
    dsimp only
    split
    next => exact ((d.tells_refl.updPort.reply ..).updAdmission.post (by rfl)).run
    all_goals exact hspread

theorem Device.landTimeout_tells (d : Device) (l : Landing) : d.Tells Notice.ofLanding (d.landTimeout l) :=
  ((d.claimReply_tells ..).removeRecord.post (by rfl)).run

theorem Device.expireWaiting_tells (d : Device) (e : PendingEntry) : d.Tells Notice.ofLanding (d.expireWaiting e) :=
  (d.tells_refl.updAdmission.reply ..).post (by rfl)

theorem Device.refuseLeaving_tells (d : Device) (o : Offer) (n : Nat) : d.Tells Notice.ofLanding (d.refuseLeaving o n) :=
  (d.claimReply_tells ..).removeRecord.updAdmission.post (by rfl)

theorem Device.leaveLandings_tells (d : Device) : d.Tells Notice.ofLanding d.leaveLandings := by
  unfold Device.leaveLandings
  exact ((Device.foldl_tells (fun d (l : Landing) => d.refuseLeaving_tells l.offer l.byteCount) _ d).trans
    (Device.foldl_tells (fun d (e : PendingEntry) => d.refuseLeaving_tells e.offer 0) _ _)).updAdmission

theorem Device.tearRecord_tells (d : Device) (ending : Ending) (o : Offer) (n : Nat) :
    d.Tells Notice.ofLanding (d.tearRecord ending o n) :=
  d.tells_refl.removeRecord.updAdmission.post (by rfl)

theorem Device.tearLandings_tells (d : Device) (x : Station) (ending : Ending) :
    d.Tells Notice.ofLanding (d.tearLandings x ending) := by
  unfold Device.tearLandings
  exact ((Device.foldl_tells (fun d (l : Landing) => d.tearRecord_tells ending l.offer l.byteCount) _ d).trans
    (Device.foldl_tells (fun d (e : PendingEntry) => d.tearRecord_tells ending e.offer 0) _ _)).updAdmission

/-! ### Station Control and the Halt Unit -/

/-- Notices of any class. -/
abbrev Notice.ofAny (_ : Notice) : Bool := true

theorem Device.Tells.any {p : Notice → Bool} {e : Device} (h : d.Tells p e) : d.Tells Notice.ofAny e := h.mono fun _ _ => rfl

theorem Device.enterHalt_tells (d : Device) (x : Station) (cause : HaltCause) :
    d.Tells Notice.ofAny (d.enterHalt x cause) := by
  unfold Device.enterHalt
  dsimp only
  split
  next => exact Device.tells_of_keeps rfl rfl
  next => exact d.tells_refl.updHalt.post (by rfl)

theorem Device.leaveHalt_tells (d : Device) (x : Station) (cause : HaltCause) :
    d.Tells Notice.ofAny (d.leaveHalt x cause) := by
  unfold Device.leaveHalt
  dsimp only
  split
  next =>
    split
    next => exact Device.tells_of_keeps rfl rfl
    next => exact d.tells_refl.updHalt.post (by rfl)
  next => exact d.tells_refl

theorem Device.haltFrom_tells (d : Device) (x : Station) : d.Tells Notice.ofAny (d.haltFrom x) := by
  unfold Device.haltFrom
  dsimp only
  split
  next => exact Device.tells_of_keeps rfl rfl
  next => exact (d.enterHalt_tells x .halt).then rfl rfl

theorem Device.notePeer_tells (d : Device) (x : Station) : d.Tells Notice.ofAny (d.notePeer x) := by
  unfold Device.notePeer
  split
  next => exact d.tells_refl.updControl.post (by rfl)
  all_goals exact d.tells_refl

theorem Device.removeFramesFor_tells {p : Notice → Bool} (d : Device) (x : Station) : d.Tells p (d.removeFramesFor x) := by
  have hslots : ∀ (l : List ChannelNo) (s : SpanInterface),
      s.Moves { s with initiation := l.foldl (fun q c => changeSlot c (dropFor x) q) s.initiation } := by
    intro l
    induction l with
    | nil => exact fun s => .refl
    | cons c l ih => exact fun s => .trans (.single (.slot c (dropFor x))) (ih _)
  exact ⟨.trans (.single (.forget fun r => decide (r.key.source ≠ x))) (hslots eight _), d.lport.posts_refl⟩

theorem Device.teardown_tells (d : Device) (x : Station) (o : TransferOutcome) (ending : Ending) :
    d.Tells Notice.ofAny (d.teardown x o ending) :=
  ((((d.tearChannels_tells x o).any.trans (Device.tearLandings_tells _ x ending).any).trans
    (Device.leaveHalt_tells _ x .teardown)).trans (Device.removeFramesFor_tells _ x)).trans
    (Device.runIf_tells (fun _ _ _ _ => rfl) _ _)

theorem Device.handleJoin_tells (d : Device) (x : Station) : d.Tells Notice.ofAny (d.handleJoin x) := by
  unfold Device.handleJoin
  split
  next => exact d.notePeer_tells x
  next => exact Device.tells_of_keeps rfl rfl
  next => exact ((d.post_tells (by rfl)).trans (Device.teardown_tells ..)).updControl
  next => exact d.tells_refl

theorem Device.handleLeave_tells (d : Device) (x : Station) : d.Tells Notice.ofAny (d.handleLeave x) := by
  unfold Device.handleLeave
  split
  next => exact ((d.post_tells (by rfl)).trans (Device.teardown_tells ..)).updControl
  all_goals exact d.tells_refl

theorem Device.Handles.tells {d e : Device} {x : Station} (h : d.Handles x e) : d.Tells Notice.ofAny e := by
  cases h with
  | offer c g h => exact (d.handleOffer_tells _).any
  | block c g h => exact d.handleBlock_tells ..
  | withdraw c g reason => exact (d.handleWithdraw_tells ..).any
  | wait c g => exact (d.handleWait_tells ..).any
  | grant c g h => exact (d.handleGrant_tells ..).any
  | refuse c g reason => exact (d.handleRefuse_tells ..).any
  | receipt c g final h => exact (d.handleReceipt_tells ..).any
  | pause c g h => exact Device.tells_of_keeps (by simp) (by simp)
  | signal e a => exact (d.handleSignal_tells ..).any
  | halt => exact d.haltFrom_tells x
  | resume => exact d.leaveHalt_tells x .resume

end

end Sys2Proof.Machine

/-! The transmit queues as lists (R13, R14): where a claim goes, which slots and SIGNAL entries a change leaves, and what the
walk of the arbiter takes. -/

namespace Sys2Proof.Machine

/-! ### The reply queue (R13) -/

theorem placeReply_new {q : List Reply} {r : Reply} (h : ∀ p ∈ q, p.key ≠ r.key) : placeReply q r = q ++ [r] := by
  induction q with
  | nil => rfl
  | cons p q ih =>
    obtain ⟨hp, hq⟩ := List.forall_mem_cons.mp h
    rw [placeReply, if_neg hp, ih hq, List.cons_append]

theorem placeReply_waiting {before after : List Reply} {p r : Reply} (hbefore : ∀ o ∈ before, o.key ≠ r.key)
    (hp : p.key = r.key) :
    placeReply (before ++ p :: after) r =
      if p.kind.isRefuse = true ∧ p.generation = r.generation then before ++ p :: after else before ++ r :: after := by
  induction before with
  | nil =>
    rw [List.nil_append, placeReply, if_pos hp]
    rfl
  | cons o before ih =>
    obtain ⟨ho, hbefore⟩ := List.forall_mem_cons.mp hbefore
    rw [List.cons_append, placeReply, if_neg ho, ih hbefore]
    split <;> rfl

/-- The keys of the reply queue: a new one joins at the tail. -/
theorem placeReply_keys (q : List Reply) (r : Reply) :
    (placeReply q r).map Reply.key = if r.key ∈ q.map Reply.key then q.map Reply.key else q.map Reply.key ++ [r.key] := by
  induction q with
  | nil => rfl
  | cons p q ih =>
    rw [placeReply]
    by_cases hp : p.key = r.key
    · rw [if_pos hp]
      split <;> simp [hp]
    · rw [if_neg hp, List.map_cons, ih]
      simp only [List.map_cons, List.mem_cons, Ne.symm hp, false_or]
      split <;> rfl

theorem placeReply_nodup {q : List Reply} (h : (q.map Reply.key).Nodup) (r : Reply) :
    ((placeReply q r).map Reply.key).Nodup := by
  rw [placeReply_keys]
  split
  next => exact h
  next hnew => exact List.nodup_append_comm.mp (by simpa using ⟨by simpa using hnew, h⟩)

/-- A reply of this key and generation waits after every claim of one. -/
theorem placeReply_waits (q : List Reply) (r : Reply) :
    ∃ p ∈ placeReply q r, p.key = r.key ∧ p.generation = r.generation := by
  induction q with
  | nil => exact ⟨r, by simp [placeReply], rfl, rfl⟩
  | cons p q ih =>
    rw [placeReply]
    split
    next hkey =>
      split
      next h => exact ⟨p, List.mem_cons_self, hkey, h.2⟩
      next => exact ⟨r, List.mem_cons_self, rfl, rfl⟩
    next =>
      obtain ⟨o, ho, h⟩ := ih
      exact ⟨o, List.mem_cons_of_mem _ ho, h⟩

theorem placeReply_mem_new {q : List Reply} {r : Reply} (h : ∀ p ∈ q, p.key ≠ r.key) : r ∈ placeReply q r := by
  rw [placeReply_new h]
  simp

/-- A claim leaves the replies of other keys where they are. -/
theorem mem_placeReply_of_ne {q : List Reply} {r p : Reply} (h : p ∈ q) (hne : p.key ≠ r.key) : p ∈ placeReply q r := by
  induction q with
  | nil => cases h
  | cons o q ih =>
    rw [placeReply]
    rcases List.mem_cons.mp h with rfl | hq
    · rw [if_neg hne]
      exact List.mem_cons_self
    · split
      next => split <;> exact List.mem_cons_of_mem _ hq
      next => exact List.mem_cons_of_mem _ (ih hq)

/-- A reply that waits after a claim waited before it, or is the claimed one. -/
theorem mem_placeReply {q : List Reply} {r p : Reply} (h : p ∈ placeReply q r) : p ∈ q ∨ p = r := by
  induction q with
  | nil =>
    rw [placeReply, List.mem_singleton] at h
    exact .inr h
  | cons o q ih =>
    rw [placeReply] at h
    split at h
    next =>
      split at h
      next => exact .inl h
      next =>
        rcases List.mem_cons.mp h with rfl | hq
        · exact .inr rfl
        · exact .inl (List.mem_cons_of_mem _ hq)
    next =>
      rcases List.mem_cons.mp h with rfl | hq
      · exact .inl List.mem_cons_self
      · rcases ih hq with hq | rfl
        · exact .inl (List.mem_cons_of_mem _ hq)
        · exact .inr rfl

/-! ### The slots of the initiation queue (R14) -/

theorem placeCurrent_new {c : ChannelNo} {f : SlotFrame} {q : List InitEntry} (h : ∀ e ∈ q, e.slotChannel ≠ some c) :
    placeCurrent c f q = q ++ [.slot c none (some f)] := by
  induction q with
  | nil => rfl
  | cons e q ih =>
    obtain ⟨he, hq⟩ := List.forall_mem_cons.mp h
    cases e with
    | slot b w cur =>
      have hb : b ≠ c := fun hb => he (congrArg some hb)
      rw [placeCurrent, if_neg hb, ih hq, List.cons_append]
    | signal t n a => rw [placeCurrent, ih hq, List.cons_append]

theorem placeEarlier_new {c : ChannelNo} {w : Withdrawal} {q : List InitEntry} (h : ∀ e ∈ q, e.slotChannel ≠ some c) :
    placeEarlier c w q = q ++ [.slot c (some w) none] := by
  induction q with
  | nil => rfl
  | cons e q ih =>
    obtain ⟨he, hq⟩ := List.forall_mem_cons.mp h
    cases e with
    | slot b v cur =>
      have hb : b ≠ c := fun hb => he (congrArg some hb)
      rw [placeEarlier, if_neg hb, ih hq, List.cons_append]
    | signal t n a => rw [placeEarlier, ih hq, List.cons_append]

section
variable {c : ChannelNo} {before after : List InitEntry} {earlier : Option Withdrawal} {current : Option SlotFrame}

theorem placeCurrent_slot (h : ∀ e ∈ before, e.slotChannel ≠ some c) (f : SlotFrame) :
    placeCurrent c f (before ++ .slot c earlier current :: after) = before ++ .slot c earlier (some f) :: after := by
  induction before with
  | nil => simp [placeCurrent]
  | cons e before ih =>
    obtain ⟨he, hq⟩ := List.forall_mem_cons.mp h
    cases e with
    | slot b w cur =>
      have hb : b ≠ c := fun hb => he (congrArg some hb)
      rw [List.cons_append, placeCurrent, if_neg hb, ih hq, List.cons_append]
    | signal t n a => rw [List.cons_append, placeCurrent, ih hq, List.cons_append]

theorem placeEarlier_slot (h : ∀ e ∈ before, e.slotChannel ≠ some c) (w : Withdrawal) :
    placeEarlier c w (before ++ .slot c earlier current :: after) = before ++ .slot c (some w) current :: after := by
  induction before with
  | nil => simp [placeEarlier]
  | cons e before ih =>
    obtain ⟨he, hq⟩ := List.forall_mem_cons.mp h
    cases e with
    | slot b v cur =>
      have hb : b ≠ c := fun hb => he (congrArg some hb)
      rw [List.cons_append, placeEarlier, if_neg hb, ih hq, List.cons_append]
    | signal t n a => rw [List.cons_append, placeEarlier, ih hq, List.cons_append]

end

/-- What a change of channel c's frames makes of one position. -/
def InitEntry.change (c : ChannelNo) (f : Option Withdrawal → Option SlotFrame → Option Withdrawal × Option SlotFrame) :
    InitEntry → InitEntry
  | .slot b e cur => if b = c then .slot b (f e cur).1 (f e cur).2 else .slot b e cur
  | .signal t n a => .signal t n a

section
variable {c : ChannelNo} {f : Option Withdrawal → Option SlotFrame → Option Withdrawal × Option SlotFrame}

theorem changeSlot_eq (q : List InitEntry) : changeSlot c f q = (q.map (InitEntry.change c f)).filter InitEntry.nonEmpty := by
  rfl

theorem InitEntry.change_slotChannel (e : InitEntry) : (e.change c f).slotChannel = e.slotChannel := by
  cases e with
  | slot b w cur =>
    rw [InitEntry.change]
    split <;> rfl
  | signal t n a => rfl

theorem InitEntry.change_other {e : InitEntry} (h : e.slotChannel ≠ some c) : e.change c f = e := by
  cases e with
  | slot b w cur => exact if_neg fun hb => h (congrArg some hb)
  | signal t n a => rfl

theorem InitEntry.change_isSignal (e : InitEntry) : (e.change c f).isSignal = e.isSignal := by
  cases e with
  | slot b w cur =>
    rw [InitEntry.change]
    split <;> rfl
  | signal t n a => rfl

theorem changeSlot_append (p q : List InitEntry) : changeSlot c f (p ++ q) = changeSlot c f p ++ changeSlot c f q := by
  simp only [changeSlot_eq, List.map_append, List.filter_append]

theorem changeSlot_other {q : List InitEntry} (h : ∀ e ∈ q, e.slotChannel ≠ some c) (hq : q.all InitEntry.nonEmpty = true) :
    changeSlot c f q = q := by
  have hmap : q.map (InitEntry.change c f) = q :=
    (List.map_congr_left fun e he => InitEntry.change_other (h e he)).trans (List.map_id' q)
  rw [changeSlot_eq, hmap, List.filter_eq_self]
  exact List.all_eq_true.mp hq

theorem changeSlot_cons_slot (e : Option Withdrawal) (cur : Option SlotFrame) (q : List InitEntry) :
    changeSlot c f (.slot c e cur :: q) =
      (if (InitEntry.slot c (f e cur).1 (f e cur).2).nonEmpty then [.slot c (f e cur).1 (f e cur).2] else []) ++
        changeSlot c f q := by
  simp only [changeSlot_eq, List.map_cons, InitEntry.change, if_true, List.filter_cons]
  split <;> rfl

/-! ### Slots and SIGNAL entries -/

theorem InitEntry.nonEmpty_of_isSignal {e : InitEntry} (h : e.isSignal = true) : e.nonEmpty = true := by
  cases e with
  | slot b w cur => cases h
  | signal t n a => rfl

theorem InitEntry.slotChannel_of_isSignal {e : InitEntry} (h : e.isSignal = true) : e.slotChannel = none := by
  cases e with
  | slot b w cur => cases h
  | signal t n a => rfl

/-- The SIGNAL entries stay as they are, in their order. -/
theorem changeSlot_signals (q : List InitEntry) : (changeSlot c f q).filter InitEntry.isSignal = q.filter InitEntry.isSignal := by
  rw [changeSlot_eq, List.filter_filter]
  induction q with
  | nil => rfl
  | cons e q ih =>
    have hboth : (decide ((e.change c f).isSignal = true) && decide ((e.change c f).nonEmpty = true)) = e.isSignal := by
      rw [InitEntry.change_isSignal]
      cases he : e.isSignal with
      | false => simp
      | true => simp [InitEntry.nonEmpty_of_isSignal ((InitEntry.change_isSignal e).trans he)]
    have hsame : e.isSignal = true → e.change c f = e := fun h =>
      InitEntry.change_other (by simp [InitEntry.slotChannel_of_isSignal h])
    simp only [List.map_cons, List.filter_cons] at ih ⊢
    simp only [Bool.decide_eq_true] at hboth
    rw [ih, hboth]
    split
    next h => rw [hsame h]
    next => rfl

theorem changeSlot_channels (q : List InitEntry) :
    ((changeSlot c f q).filterMap InitEntry.slotChannel).Sublist (q.filterMap InitEntry.slotChannel) := by
  have hmap : (q.map (InitEntry.change c f)).filterMap InitEntry.slotChannel = q.filterMap InitEntry.slotChannel := by
    rw [List.filterMap_map]
    exact List.filterMap_congr fun e _ => InitEntry.change_slotChannel e
  rw [changeSlot_eq, ← hmap]
  exact List.filter_sublist.filterMap _

theorem changeSlot_nonEmpty {q : List InitEntry} {e : InitEntry} (h : e ∈ changeSlot c f q) : e.nonEmpty = true := by
  rw [changeSlot_eq] at h
  exact (List.mem_filter.mp h).2

end

/-- The channels that have a slot: a claim opens one at the tail where there is none. -/
theorem placeCurrent_channels (c : ChannelNo) (f : SlotFrame) (q : List InitEntry) :
    (placeCurrent c f q).filterMap InitEntry.slotChannel =
      if c ∈ q.filterMap InitEntry.slotChannel then q.filterMap InitEntry.slotChannel
      else q.filterMap InitEntry.slotChannel ++ [c] := by
  induction q with
  | nil => rfl
  | cons e q ih =>
    cases e with
    | slot b w cur =>
      rw [placeCurrent]
      by_cases hb : b = c
      · simp [hb, InitEntry.slotChannel]
      · rw [if_neg hb]
        simp only [InitEntry.slotChannel, List.filterMap_cons, List.mem_cons, Ne.symm hb, false_or] at ih ⊢
        rw [ih]
        split <;> rfl
    | signal t n a =>
      have hsame : (InitEntry.signal t n a :: q).filterMap InitEntry.slotChannel = q.filterMap InitEntry.slotChannel := rfl
      rw [placeCurrent, hsame]
      exact ih

theorem placeEarlier_channels (c : ChannelNo) (w : Withdrawal) (q : List InitEntry) :
    (placeEarlier c w q).filterMap InitEntry.slotChannel =
      if c ∈ q.filterMap InitEntry.slotChannel then q.filterMap InitEntry.slotChannel
      else q.filterMap InitEntry.slotChannel ++ [c] := by
  induction q with
  | nil => rfl
  | cons e q ih =>
    cases e with
    | slot b v cur =>
      rw [placeEarlier]
      by_cases hb : b = c
      · simp [hb, InitEntry.slotChannel]
      · rw [if_neg hb]
        simp only [InitEntry.slotChannel, List.filterMap_cons, List.mem_cons, Ne.symm hb, false_or] at ih ⊢
        rw [ih]
        split <;> rfl
    | signal t n a =>
      have hsame : (InitEntry.signal t n a :: q).filterMap InitEntry.slotChannel = q.filterMap InitEntry.slotChannel := rfl
      rw [placeEarlier, hsame]
      exact ih

theorem placeCurrent_signals (c : ChannelNo) (f : SlotFrame) (q : List InitEntry) :
    (placeCurrent c f q).filter InitEntry.isSignal = q.filter InitEntry.isSignal := by
  induction q with
  | nil => rfl
  | cons e q ih =>
    cases e with
    | slot b w cur =>
      rw [placeCurrent]
      split
      next => rfl
      next => simpa [List.filter_cons, InitEntry.isSignal] using ih
    | signal t n a => simpa [placeCurrent, List.filter_cons, InitEntry.isSignal] using ih

theorem placeEarlier_signals (c : ChannelNo) (w : Withdrawal) (q : List InitEntry) :
    (placeEarlier c w q).filter InitEntry.isSignal = q.filter InitEntry.isSignal := by
  induction q with
  | nil => rfl
  | cons e q ih =>
    cases e with
    | slot b v cur =>
      rw [placeEarlier]
      split
      next => rfl
      next => simpa [List.filter_cons, InitEntry.isSignal] using ih
    | signal t n a => simpa [placeEarlier, List.filter_cons, InitEntry.isSignal] using ih

theorem placeCurrent_nonEmpty {c : ChannelNo} {f : SlotFrame} {q : List InitEntry} (h : ∀ e ∈ q, e.nonEmpty = true) :
    ∀ e ∈ placeCurrent c f q, e.nonEmpty = true := by
  induction q with
  | nil => simp [placeCurrent, InitEntry.nonEmpty]
  | cons e q ih =>
    obtain ⟨he, hq⟩ := List.forall_mem_cons.mp h
    cases e with
    | slot b w cur =>
      rw [placeCurrent]
      split
      next => exact List.forall_mem_cons.mpr ⟨by cases w <;> rfl, hq⟩
      next => exact List.forall_mem_cons.mpr ⟨he, ih hq⟩
    | signal t n a => exact List.forall_mem_cons.mpr ⟨he, ih hq⟩

theorem placeEarlier_nonEmpty {c : ChannelNo} {w : Withdrawal} {q : List InitEntry} (h : ∀ e ∈ q, e.nonEmpty = true) :
    ∀ e ∈ placeEarlier c w q, e.nonEmpty = true := by
  induction q with
  | nil => simp [placeEarlier, InitEntry.nonEmpty]
  | cons e q ih =>
    obtain ⟨he, hq⟩ := List.forall_mem_cons.mp h
    cases e with
    | slot b v cur =>
      rw [placeEarlier]
      split
      next => exact List.forall_mem_cons.mpr ⟨rfl, hq⟩
      next => exact List.forall_mem_cons.mpr ⟨he, ih hq⟩
    | signal t n a => exact List.forall_mem_cons.mpr ⟨he, ih hq⟩

/-! ### Where the claims of a channel go -/

/-- Settles O54: each claim is followed along the queue to the slot of its channel, or to the tail. -/
theorem queuesHoldTheirPositions : Obligations.QueuesHoldTheirPositions := by
  refine ⟨fun q r h => placeReply_new h, fun before after p r h hp => placeReply_waiting h hp, fun c f w q h =>
    ⟨placeCurrent_new h, placeEarlier_new h, fun hq => ⟨changeSlot_other h hq, changeSlot_other h hq⟩⟩, ?_⟩
  intro c before after earlier current hbefore q
  refine ⟨placeCurrent_slot hbefore, placeEarlier_slot hbefore, fun hafter hb ha => ?_⟩
  have hsplit : ∀ g, changeSlot c g q = before ++ changeSlot c g (.slot c earlier current :: after) := fun g => by
    rw [changeSlot_append, changeSlot_other hbefore hb]
  refine ⟨?_, ?_⟩
  · rintro w rfl
    constructor
    · rw [hsplit, changeSlot_cons_slot, changeSlot_other hafter ha]
      rfl
    · rw [hsplit, changeSlot_cons_slot, changeSlot_other hafter ha]
      cases earlier <;> rfl
  · rintro t g f rfl
    constructor
    · rw [hsplit, changeSlot_cons_slot, changeSlot_other hafter ha]
      cases earlier <;> rfl
    · rw [hsplit, changeSlot_cons_slot, changeSlot_other hafter ha]
      cases earlier <;> simp [dropOffer, InitEntry.nonEmpty]

end Sys2Proof.Machine

/-! The capacities and orders of the queues, lists and tables (R12 to R14, R67, R68, R110, R113, R180), kept by every step. -/

namespace Sys2Proof.Machine

/-! ### The transmit queues and the notice queue -/

theorem SpanInterface.Move.queuesOk {s t : SpanInterface} (h : s.Move t) (hs : s.queuesOk) : t.queuesOk := by
  obtain ⟨hdue, hreplies, hslots, hfull, hcount⟩ := hs
  cases h with
  | reply r => exact ⟨hdue, placeReply_nodup hreplies r, hslots, hfull, hcount⟩
  | current c f =>
    refine ⟨hdue, hreplies, ?_, placeCurrent_nonEmpty hfull, ?_⟩
    · simp only [placeCurrent_channels]
      split
      next => exact hslots
      next hnew => exact List.nodup_append_comm.mp (List.nodup_cons.mpr ⟨hnew, hslots⟩)
    · simpa only [SpanInterface.signalCount, placeCurrent_signals] using hcount
  | earlier c w =>
    refine ⟨hdue, hreplies, ?_, placeEarlier_nonEmpty hfull, ?_⟩
    · simp only [placeEarlier_channels]
      split
      next => exact hslots
      next hnew => exact List.nodup_append_comm.mp (List.nodup_cons.mpr ⟨hnew, hslots⟩)
    · simpa only [SpanInterface.signalCount, placeEarlier_signals] using hcount
  | slot c f =>
    refine ⟨hdue, hreplies, hslots.sublist (changeSlot_channels _), fun e => changeSlot_nonEmpty, ?_⟩
    simpa only [SpanInterface.signalCount, changeSlot_signals] using hcount
  | forget p => exact ⟨hdue, hreplies.sublist (List.filter_sublist.map _), hslots, hfull, hcount⟩

theorem LocalPort.post_length (p : LocalPort) (n : Notice) (h : p.queue.length ≤ Config.noticeMax) :
    (p.post n).queue.length ≤ Config.noticeMax := by
  unfold LocalPort.post
  split
  next hlt => simpa using hlt
  next => exact h

theorem LocalPort.Posts.length {p : Notice → Bool} {a b : LocalPort} (h : a.Posts p b)
    (ha : a.queue.length ≤ Config.noticeMax) : b.queue.length ≤ Config.noticeMax := by
  obtain ⟨ns, -, rfl⟩ := h
  induction ns generalizing a with
  | nil => exact ha
  | cons n ns ih => exact ih (a.post_length n ha)

/-- The transmit queues and the notice queue are within their bounds. -/
def Device.outboxOk (d : Device) : Prop := d.noticesOk ∧ d.span.queuesOk

section
variable {d e : Device}

theorem Device.Tells.outboxOk {p : Notice → Bool} (h : d.Tells p e) (hd : d.outboxOk) : e.outboxOk :=
  ⟨h.posts.length hd.1, h.moves.keeps SpanInterface.Move.queuesOk hd.2⟩

/-- A change of the lane, the flags and the dues that makes not both HALT and RESUME due. -/
theorem Device.outboxOk_of_same (hd : d.outboxOk) (hreplies : e.span.replies = d.span.replies)
    (hinit : e.span.initiation = d.span.initiation) (hlport : e.lport.queue = d.lport.queue)
    (hdue : ¬(d.span.haltDue = true ∧ d.span.resumeDue = true) → ¬(e.span.haltDue = true ∧ e.span.resumeDue = true)) :
    e.outboxOk := by
  obtain ⟨hnotices, hd, hrest⟩ := hd
  unfold Device.outboxOk Device.noticesOk SpanInterface.queuesOk SpanInterface.signalCount
  rw [hreplies, hinit, hlport]
  exact ⟨hnotices, hdue hd, hrest⟩

theorem Device.claimDue_outboxOk (hd : d.outboxOk) {f : SpanInterface → SpanInterface}
    (hf : (d.updSpan f).outboxOk) : (d.claimDue f).outboxOk := by
  unfold Device.claimDue
  split
  next => exact hd
  next => exact hf

theorem Device.makeJoinDue_outboxOk (hd : d.outboxOk) : d.makeJoinDue.outboxOk :=
  Device.claimDue_outboxOk hd (Device.outboxOk_of_same hd rfl rfl rfl id)

theorem Device.makeHaltDue_outboxOk (hd : d.outboxOk) : d.makeHaltDue.outboxOk :=
  Device.claimDue_outboxOk hd (Device.outboxOk_of_same hd rfl rfl rfl fun _ => by simp)

theorem Device.makeResumeDue_outboxOk (hd : d.outboxOk) : d.makeResumeDue.outboxOk :=
  Device.claimDue_outboxOk hd (Device.outboxOk_of_same hd rfl rfl rfl fun _ => by simp)

/-- Another unit changes. -/
theorem Device.outboxOk_of_keeps (hd : d.outboxOk) (hspan : e.span = d.span) (hlport : e.lport = d.lport) : e.outboxOk :=
  (Device.tells_of_keeps (p := Notice.ofAny) hspan hlport).outboxOk hd

theorem Device.beginHold_outboxOk (hd : d.outboxOk) : d.beginHold.outboxOk :=
  Device.outboxOk_of_keeps (Device.makeHaltDue_outboxOk ((d.enterHalt_tells _ _).outboxOk hd)) rfl rfl

theorem Device.endHold_outboxOk (hd : d.outboxOk) (cause : HaltCause) : (d.endHold cause).outboxOk :=
  Device.outboxOk_of_keeps (Device.makeResumeDue_outboxOk ((d.leaveHalt_tells _ _).outboxOk hd)) rfl rfl

theorem Device.updateHold_outboxOk (hd : d.outboxOk) : d.updateHold.outboxOk := by
  unfold Device.updateHold
  split
  next =>
    split
    next => exact hd
    next => exact Device.beginHold_outboxOk hd
  next =>
    split
    next => exact Device.endHold_outboxOk hd _
    next => exact hd

theorem Device.leaveHold_outboxOk (hd : d.outboxOk) : d.leaveHold.outboxOk := by
  have hcleared : (d.updHalt fun h => { h with request := false }).outboxOk := Device.outboxOk_of_keeps hd rfl rfl
  unfold Device.leaveHold
  dsimp only
  split
  next => exact Device.endHold_outboxOk hcleared _
  next => exact hcleared

theorem Device.endJoining_outboxOk (hd : d.outboxOk) : d.endJoining.outboxOk := by
  unfold Device.endJoining
  split
  next => exact Device.outboxOk_of_same hd rfl rfl rfl id
  next => exact hd

theorem Device.startLeaving_outboxOk (hd : d.outboxOk) : d.startLeaving.outboxOk := by
  have hleaving : (d.endJoining.updControl fun c => { c with state := .leaving }).outboxOk :=
    Device.outboxOk_of_keeps (Device.endJoining_outboxOk hd) rfl rfl
  have hchannels := (Device.foldl_tells (fun d c => d.leaveChannel_tells c) eight _).outboxOk hleaving
  unfold Device.startLeaving
  exact Device.leaveHold_outboxOk ((Device.leaveLandings_tells _).outboxOk hchannels)

/-- R18: a lane cleared of everything but one LEAVE. -/
theorem Device.clearForLeave_outboxOk (hd : d.outboxOk) : (d.updSpan SpanInterface.clearForLeave).outboxOk :=
  ⟨hd.1, by simp [SpanInterface.queuesOk, SpanInterface.clearForLeave, SpanInterface.signalCount]⟩

theorem Device.powerOn_outboxOk (n : Station) (line : Bool) : (Device.powerOn n line).outboxOk := by
  simp [Device.outboxOk, SpanInterface.queuesOk, Device.powerOn, SpanInterface.powerOn, LocalPort.powerOn, SpanInterface.signalCount]

theorem Device.softReset_outboxOk (d : Device) : d.softReset.outboxOk :=
  Device.outboxOk_of_keeps (Device.powerOn_outboxOk d.control.number d.halt.line) rfl rfl

theorem Device.resetStation_outboxOk (hd : d.outboxOk) : d.resetStation.outboxOk := by
  have htake : d.takeReset.outboxOk :=
    Device.leaveHold_outboxOk (Device.clearForLeave_outboxOk
      (Device.outboxOk_of_keeps (Device.endJoining_outboxOk hd) rfl rfl))
  have howed : (d.updControl fun c => { c with owed := true }).outboxOk := Device.outboxOk_of_keeps hd rfl rfl
  unfold Device.resetStation
  split
  next => exact d.softReset_outboxOk
  next => exact htake
  next => exact htake
  next =>
    unfold Device.takeResetLeaving
    dsimp only
    split
    next => exact hd
    next =>
      split
      next => exact howed
      next => exact Device.clearForLeave_outboxOk howed

theorem Device.freeLane_outboxOk (hd : d.outboxOk) : d.freeLane.outboxOk := Device.outboxOk_of_same hd rfl rfl rfl id

theorem Device.countJoin_outboxOk (hd : d.outboxOk) : d.countJoin.outboxOk := by
  have hjoined : ∀ {d : Device}, d.outboxOk → d.becomeJoined.outboxOk := fun {d} hd =>
    Device.updateHold_outboxOk ((Device.releaseLatches_tells _).outboxOk
      (Device.outboxOk_of_keeps (e := d.updControl fun c => { c with state := .joined }) hd rfl rfl))
  unfold Device.countJoin
  dsimp only
  split
  next =>
    split
    next => exact Device.outboxOk_of_keeps hd rfl rfl
    next => exact hjoined (Device.outboxOk_of_keeps hd rfl rfl)
  next => exact hd

theorem Device.returnToConfig_outboxOk (hd : d.outboxOk) : d.returnToConfig.outboxOk := by
  have hleft := ((d.tells_refl (p := Notice.ofAny)).updControl
    (f := fun c => { c with state := .config, joinCount := 0, peers := c.peers.map PeerEntry.forget })).post
      (n := .leftSpan d.control.number) rfl
  have hemptied := hleft.updHalt (f := fun h => { h with members := Vector.replicate 8 false, lapse := Vector.replicate 8 none })
  unfold Device.returnToConfig
  dsimp only
  split
  next => exact (hemptied.post rfl).outboxOk hd
  next => exact hemptied.outboxOk hd

theorem Device.claimSignal_outboxOk (hd : d.outboxOk) (dest : Dest) (n : EventNo) (a : BitVec 16)
    (h : d.span.signalCount < Config.signalMax) : (d.claimInitiation (· ++ [.signal dest n a])).outboxOk := by
  unfold Device.claimInitiation
  split
  next => exact hd
  next =>
    obtain ⟨hnotices, hdue, hreplies, hslots, hfull, -⟩ := hd
    refine ⟨hnotices, hdue, hreplies, ?_, ?_, ?_⟩
    · simpa [List.filterMap_append, List.filterMap_cons, InitEntry.slotChannel] using hslots
    · simpa [or_imp, forall_and, InitEntry.nonEmpty] using hfull
    · simpa [SpanInterface.signalCount, List.filter_append, List.filter_cons, InitEntry.isSignal] using h

theorem Device.Works.outboxOk (h : d.Works e) (hd : d.outboxOk) : e.outboxOk := by
  cases h with
  | join h => exact Device.makeJoinDue_outboxOk (Device.outboxOk_of_keeps hd rfl rfl)
  | leave h => exact Device.startLeaving_outboxOk hd
  | reset => exact Device.resetStation_outboxOk hd
  | start h => exact (Device.tryStart_tells (p := Notice.ofAny) h).outboxOk hd
  | stop hs h => exact (d.endTransfer_tells ..).outboxOk hd
  | signal dest n a hs h => exact Device.claimSignal_outboxOk hd dest n a h
  | request r h => exact Device.updateHold_outboxOk (Device.outboxOk_of_keeps hd rfl rfl)
  | line level => exact Device.updateHold_outboxOk (Device.outboxOk_of_keeps hd rfl rfl)
  | edge line => exact (d.lineStarts_tells line).outboxOk hd
  | frame hr hx h => exact h.tells.outboxOk ((d.notePeer_tells _).outboxOk hd)
  | joinFrame hr hx => exact (d.handleJoin_tells _).outboxOk hd
  | leaveFrame hr hx => exact (d.handleLeave_tells _).outboxOk hd
  | joinSent h => exact Device.countJoin_outboxOk (Device.freeLane_outboxOk hd)
  | leaveSent h ho => exact Device.returnToConfig_outboxOk (Device.freeLane_outboxOk hd)
  | resetSent h ho => exact d.softReset_outboxOk
  | sent hj hl => exact Device.freeLane_outboxOk hd
  | spacing h => exact Device.makeJoinDue_outboxOk (Device.outboxOk_of_keeps hd rfl rfl)
  | offerTimer h => exact (d.resendOffer_tells _).outboxOk hd
  | streamTimer h => exact (d.streamExpiry_tells _).outboxOk hd
  | queueTimer h => exact (d.endTransfer_tells ..).outboxOk hd
  | pauseTimer h => exact (d.endTransfer_tells ..).outboxOk hd
  | lifetime h => exact (d.expireWaiting_tells _).outboxOk hd
  | landingTimer h => exact (d.landTimeout_tells _).outboxOk hd
  | repeatTimer h => exact Device.outboxOk_of_keeps (Device.makeHaltDue_outboxOk hd) rfl rfl
  | lapseTimer h => exact (d.leaveHalt_tells ..).outboxOk hd
  | readFilled data h => exact Device.outboxOk_of_keeps hd rfl rfl
  | readDropped h => exact Device.outboxOk_of_keeps hd rfl rfl
  | readFailed h => exact (Device.endTransfer_tells d.freePort ..).outboxOk (Device.outboxOk_of_keeps hd rfl rfl)
  | written ha hw => exact (Device.writeDone_tells d.popWrite _).outboxOk (Device.outboxOk_of_keeps hd rfl rfl)
  | writeFailed ha hw => exact (Device.writeFailed_tells d.popWrite _).outboxOk (Device.outboxOk_of_keeps hd rfl rfl)

theorem Device.Writes.outboxOk (h : d.Writes e) (hd : d.outboxOk) : e.outboxOk := by
  cases h with
  | nothing => exact hd
  | load c h => exact Device.outboxOk_of_keeps hd rfl rfl
  | stopIdle c h => exact Device.outboxOk_of_keeps hd rfl rfl
  | clear c h => exact Device.outboxOk_of_keeps hd rfl rfl
  | take h =>
    obtain ⟨hnotices, hqueues⟩ := hd
    have hlength : d.lport.queue.length ≤ Config.noticeMax := hnotices
    rw [h, List.length_cons] at hlength
    exact ⟨Nat.le_of_succ_le hlength, hqueues⟩
  | clearFlags => exact Device.outboxOk_of_same hd rfl rfl rfl id
  | ownNumber x =>
    have hflag : (d.updSpan fun s => { s with idConflict := true }).outboxOk := Device.outboxOk_of_same hd rfl rfl rfl id
    unfold Device.noteOwnNumber
    dsimp only
    split
    next => exact hflag
    next => exact (Device.post_tells (p := Notice.ofAny) _ rfl).outboxOk hflag
  | mismatch => exact Device.outboxOk_of_same hd rfl rfl rfl id
  | closeWindow x => exact Device.outboxOk_of_keeps hd rfl rfl

end

/-! ### What the arbiter leaves in the queues -/

/-- R14: what is left of a position keeps its channel and holds a frame; a SIGNAL entry leaves nothing. -/
theorem InitEntry.next_rest {own : Station} {halted : Bool} {e e' : InitEntry} {f : Frame}
    (h : e.next own halted = some (f, some e')) :
    e'.slotChannel = e.slotChannel ∧ e'.nonEmpty = true ∧ e'.isSignal = e.isSignal := by
  unfold InitEntry.next at h
  split at h
  case h_2 =>
    obtain ⟨-, rfl⟩ := by simpa using h
    exact ⟨rfl, rfl, rfl⟩
  case h_3 => split at h <;> simp at h
  all_goals simp at h

/-- R15: the walk takes a frame from one position, which leaves the queue or moves to its tail. -/
theorem pickInitiation_split {own : Station} {halted : Bool} {q q' : List InitEntry} {f : Frame}
    (h : pickInitiation own halted q = some (f, q')) :
    ∃ before e after, q = before ++ e :: after ∧
      (q' = before ++ after ∨ ∃ e', q' = before ++ after ++ [e'] ∧ e'.slotChannel = e.slotChannel ∧
        e'.nonEmpty = true ∧ e'.isSignal = e.isSignal) := by
  induction q generalizing q' with
  | nil => cases h
  | cons e q ih =>
    unfold pickInitiation at h
    split at h
    next f' hnext =>
      obtain ⟨-, rfl⟩ := Prod.mk.inj (Option.some.inj h)
      exact ⟨[], e, q, rfl, .inl rfl⟩
    next f' e' hnext =>
      obtain ⟨-, rfl⟩ := Prod.mk.inj (Option.some.inj h)
      exact ⟨[], e, q, rfl, .inr ⟨e', rfl, InitEntry.next_rest hnext⟩⟩
    next hnext =>
      obtain ⟨⟨f', p⟩, hp, hpair⟩ := Option.map_eq_some_iff.mp h
      obtain ⟨rfl, rfl⟩ := Prod.mk.inj hpair
      obtain ⟨before, x, after, rfl, hrest⟩ := ih hp
      refine ⟨e :: before, x, after, rfl, ?_⟩
      rcases hrest with rfl | ⟨e', rfl, hsame⟩
      · exact .inl rfl
      · exact .inr ⟨e', rfl, hsame⟩

theorem pickInitiation_channels {own : Station} {halted : Bool} {q q' : List InitEntry} {f : Frame}
    (h : pickInitiation own halted q = some (f, q')) :
    ∃ l, l.Perm (q.filterMap InitEntry.slotChannel) ∧ (q'.filterMap InitEntry.slotChannel).Sublist l := by
  obtain ⟨before, e, after, rfl, rfl | ⟨e', rfl, hchannel, -⟩⟩ := pickInitiation_split h
  · exact ⟨_, .refl _, ((List.sublist_cons_self e after).append_left before).filterMap _⟩
  · refine ⟨(before ++ after ++ [e]).filterMap InitEntry.slotChannel, List.Perm.filterMap _ ?_, ?_⟩
    · rw [List.append_assoc]
      exact (List.perm_append_comm (l₁ := after) (l₂ := [e])).append_left before
    · simp [List.filterMap_append, List.filterMap_cons, hchannel]

theorem pickInitiation_count {own : Station} {halted : Bool} {q q' : List InitEntry} {f : Frame}
    (h : pickInitiation own halted q = some (f, q')) :
    (q'.filter InitEntry.isSignal).length ≤ (q.filter InitEntry.isSignal).length := by
  obtain ⟨before, e, after, rfl, rfl | ⟨e', rfl, -, -, hsignal⟩⟩ := pickInitiation_split h
  · exact (((List.sublist_cons_self e after).append_left before).filter _).length_le
  · simp only [List.filter_append, List.filter_cons, hsignal, List.length_append, List.filter_nil]
    split <;> simp [Nat.add_assoc]

theorem pickInitiation_nonEmpty {own : Station} {halted : Bool} {q q' : List InitEntry} {f : Frame}
    (h : pickInitiation own halted q = some (f, q')) (hq : ∀ e ∈ q, e.nonEmpty = true) : ∀ e ∈ q', e.nonEmpty = true := by
  obtain ⟨before, e, after, rfl, rfl | ⟨e', rfl, -, he', -⟩⟩ := pickInitiation_split h
  · exact fun x hx => hq x (((List.sublist_cons_self e after).append_left before).subset hx)
  · intro x hx
    rcases List.mem_append.mp hx with hx | hx
    · exact hq x (((List.sublist_cons_self e after).append_left before).subset hx)
    · rw [List.mem_singleton.mp hx]
      exact he'

theorem SpanInterface.pickStation_queuesOk {s t : SpanInterface} {b : FrameBody} (h : s.pickStation = some (b, t))
    (hs : s.queuesOk) : t.queuesOk := by
  obtain ⟨hdue, hrest⟩ := hs
  unfold SpanInterface.pickStation at h
  split at h
  next =>
    obtain ⟨-, rfl⟩ := Prod.mk.inj (Option.some.inj h)
    exact ⟨hdue, hrest⟩
  next =>
    split at h
    next =>
      obtain ⟨-, rfl⟩ := Prod.mk.inj (Option.some.inj h)
      exact ⟨by simp, hrest⟩
    next =>
      split at h
      next =>
        obtain ⟨-, rfl⟩ := Prod.mk.inj (Option.some.inj h)
        exact ⟨by simp, hrest⟩
      next =>
        split at h
        next =>
          obtain ⟨-, rfl⟩ := Prod.mk.inj (Option.some.inj h)
          exact ⟨hdue, hrest⟩
        next => cases h

/-- R91: a BLOCK takes the lane and nothing else of the Span Interface. -/
theorem Device.sendBlock_span (d : Device) (c : ChannelNo) :
    (d.sendBlock c).span = { d.span with lane := (d.sendBlock c).span.lane } := by
  unfold Device.sendBlock
  split
  next => rfl
  next => simp only [Device.requestReads_keeps, Device.updChannel_span, Device.emptyBuffers_keeps, Device.updSpan_span]

theorem Device.chooseFrame_queuesOk {d : Device} (hd : d.span.queuesOk) : d.chooseFrame.span.queuesOk := by
  unfold Device.chooseFrame
  split
  next => exact hd
  next =>
    split
    next b s hpick =>
      have hs : s.queuesOk := SpanInterface.pickStation_queuesOk hpick hd
      exact hs
    next =>
      obtain ⟨hdue, hreplies, hslots, hfull, hcount⟩ := hd
      split
      next r rs heq =>
        rw [heq, List.map_cons, List.nodup_cons] at hreplies
        exact ⟨hdue, hreplies.2, hslots, hfull, hcount⟩
      next =>
        split
        next f q hpick =>
          obtain ⟨l, hperm, hsub⟩ := pickInitiation_channels hpick
          exact ⟨hdue, hreplies, (hperm.nodup_iff.mpr hslots).sublist hsub, pickInitiation_nonEmpty hpick hfull,
            (pickInitiation_count hpick).trans hcount⟩
        next =>
          split
          next => exact ⟨hdue, hreplies, hslots, hfull, hcount⟩
          next =>
            split
            next c _ =>
              rw [Device.sendBlock_span]
              exact ⟨hdue, hreplies, hslots, hfull, hcount⟩
            next => exact ⟨hdue, hreplies, hslots, hfull, hcount⟩

theorem Device.settle_outboxOk {d : Device} (hd : d.outboxOk) : d.settle.outboxOk := by
  have hreport : d.reportDrained.outboxOk := by
    unfold Device.reportDrained
    split
    next => exact Device.outboxOk_of_same hd rfl rfl rfl id
    next => exact hd
  have hlport : d.reportDrained.chooseFrame.lport = d.reportDrained.lport := by simp
  have hchosen : d.reportDrained.chooseFrame.outboxOk :=
    ⟨by rw [Device.noticesOk, hlport]; exact hreport.1, Device.chooseFrame_queuesOk hreport.2⟩
  exact hchosen

theorem outboxRule : EventRule Device.outboxOk Device.outboxOk Device.outboxOk where
  registers {d e} h hd := by
    obtain ⟨f, hf, rfl⟩ := h
    exact Device.outboxOk_of_same hd rfl rfl (hf _) id
  answered {d e} h hd := by
    obtain ⟨f, hf, rfl⟩ := h
    exact Device.outboxOk_of_same hd rfl rfl (hf _) id
  works := Device.Works.outboxOk
  settles := Device.settle_outboxOk
  writes := Device.Writes.outboxOk
  configures _ h hd := by cases h <;> exact Device.outboxOk_of_keeps hd rfl rfl

end Sys2Proof.Machine

/-! The Admission Unit's choices (R80, R98, R115): the element that goes first, and what a run and a sweep keep. With them the
capacities and orders of the four collections. -/

namespace Sys2Proof.Machine

/-! ### The first of the least, the last of the greatest -/

section
variable {α : Type} {f : α → Nat} {l : List α} {a : α}

theorem firstMin_eq_some :
    firstMin f l = some a ↔
      ∃ before after, l = before ++ a :: after ∧ (∀ m ∈ before, f a < f m) ∧ ∀ m ∈ after, f a ≤ f m := by
  induction l generalizing a with
  | nil => simp [firstMin]
  | cons b bs ih =>
    rcases hbs : firstMin f bs with _ | x
    · have hnil := firstMin_eq_none.mp hbs
      subst hnil
      simp only [firstMin, Option.some.injEq]
      constructor
      · rintro rfl
        exact ⟨[], [], rfl, by simp, by simp⟩
      · rintro ⟨before, after, heq, -⟩
        rcases before with _ | ⟨c, before⟩
        · exact (List.cons.inj heq).1
        · simp at heq
    · obtain ⟨bf, af, hsplit, hbefore, hafter⟩ := ih.mp hbs
      have hleast : ∀ m ∈ bs, f x ≤ f m := by
        intro m hm
        rw [hsplit] at hm
        rcases List.mem_append.mp hm with hm | hm
        · exact (hbefore m hm).le
        · rcases List.mem_cons.mp hm with rfl | hm
          · exact le_rfl
          · exact hafter m hm
      have hx : x ∈ bs := hsplit ▸ List.mem_append_right _ List.mem_cons_self
      simp only [firstMin, hbs]
      by_cases hle : f b ≤ f x
      · simp only [hle, if_true, Option.some.injEq]
        constructor
        · rintro rfl
          exact ⟨[], bs, rfl, by simp, fun m hm => hle.trans (hleast m hm)⟩
        · rintro ⟨before, after, heq, hb, ha⟩
          rcases before with _ | ⟨c, before⟩
          · exact (List.cons.inj heq).1
          · obtain ⟨rfl, rfl⟩ := List.cons.inj heq
            have hlt : f a < f b := hb b List.mem_cons_self
            have := hleast a (List.mem_append_right _ List.mem_cons_self)
            omega
      · simp only [hle, if_false, Option.some.injEq]
        constructor
        · rintro rfl
          exact ⟨b :: bf, af, by rw [hsplit, List.cons_append],
            List.forall_mem_cons.mpr ⟨by omega, hbefore⟩, hafter⟩
        · rintro ⟨before, after, heq, hb, ha⟩
          rcases before with _ | ⟨c, before⟩
          · obtain ⟨rfl, rfl⟩ := List.cons.inj heq
            exact absurd (ha x hx) hle
          · obtain ⟨rfl, rfl⟩ := List.cons.inj heq
            have hsome := ih.mpr ⟨before, after, rfl, (List.forall_mem_cons.mp hb).2, ha⟩
            exact Option.some.inj (hbs.symm.trans hsome)

theorem lastMax_eq_none : lastMax f l = none ↔ l = [] := by
  cases l with
  | nil => simp [lastMax]
  | cons a as =>
    simp only [lastMax, reduceCtorEq, iff_false]
    split
    next => simp
    next => split <;> simp

theorem lastMax_eq_some :
    lastMax f l = some a ↔
      ∃ before after, l = before ++ a :: after ∧ (∀ m ∈ before, f m ≤ f a) ∧ ∀ m ∈ after, f m < f a := by
  induction l generalizing a with
  | nil => simp [lastMax]
  | cons b bs ih =>
    rcases hbs : lastMax f bs with _ | x
    · have hnil := lastMax_eq_none.mp hbs
      subst hnil
      simp only [lastMax, Option.some.injEq]
      constructor
      · rintro rfl
        exact ⟨[], [], rfl, by simp, by simp⟩
      · rintro ⟨before, after, heq, -⟩
        rcases before with _ | ⟨c, before⟩
        · exact (List.cons.inj heq).1
        · simp at heq
    · obtain ⟨bf, af, hsplit, hbefore, hafter⟩ := ih.mp hbs
      have hgreatest : ∀ m ∈ bs, f m ≤ f x := by
        intro m hm
        rw [hsplit] at hm
        rcases List.mem_append.mp hm with hm | hm
        · exact hbefore m hm
        · rcases List.mem_cons.mp hm with rfl | hm
          · exact le_rfl
          · exact (hafter m hm).le
      have hx : x ∈ bs := hsplit ▸ List.mem_append_right _ List.mem_cons_self
      simp only [lastMax, hbs]
      by_cases hle : f b ≤ f x
      · simp only [hle, if_true, Option.some.injEq]
        constructor
        · rintro rfl
          exact ⟨b :: bf, af, by rw [hsplit, List.cons_append],
            List.forall_mem_cons.mpr ⟨hle, hbefore⟩, hafter⟩
        · rintro ⟨before, after, heq, hb, ha⟩
          rcases before with _ | ⟨c, before⟩
          · obtain ⟨rfl, rfl⟩ := List.cons.inj heq
            exact absurd (ha x hx) (not_lt.mpr hle)
          · obtain ⟨rfl, rfl⟩ := List.cons.inj heq
            have hsome := ih.mpr ⟨before, after, rfl, (List.forall_mem_cons.mp hb).2, ha⟩
            exact Option.some.inj (hbs.symm.trans hsome)
      · simp only [hle, if_false, Option.some.injEq]
        constructor
        · rintro rfl
          exact ⟨[], bs, rfl, by simp, fun m hm => lt_of_le_of_lt (hgreatest m hm) (not_le.mp hle)⟩
        · rintro ⟨before, after, heq, hb, ha⟩
          rcases before with _ | ⟨c, before⟩
          · exact (List.cons.inj heq).1
          · obtain ⟨rfl, rfl⟩ := List.cons.inj heq
            have hba : f b ≤ f a := hb b List.mem_cons_self
            have := hgreatest a (List.mem_append_right _ List.mem_cons_self)
            omega

/-- A filtered list split at an element is the list split at that element. -/
theorem filter_eq_append_cons {p : α → Bool} {q r : α → Prop} :
    (∃ before after, l.filter p = before ++ a :: after ∧ (∀ m ∈ before, q m) ∧ ∀ m ∈ after, r m) ↔
      p a = true ∧ ∃ before after, l = before ++ a :: after ∧ (∀ m ∈ before, p m = true → q m) ∧
        ∀ m ∈ after, p m = true → r m := by
  constructor
  · rintro ⟨before, after, hfilter, hbefore, hafter⟩
    obtain ⟨l₁, l₂, rfl, rfl, hsecond⟩ := List.filter_eq_append_iff.mp hfilter
    obtain ⟨m₁, m₂, rfl, hnone, ha, rfl⟩ := List.filter_eq_cons_iff.mp hsecond
    refine ⟨ha, l₁ ++ m₁, m₂, by simp, fun m hm hp => ?_, fun m hm hp => hafter m (List.mem_filter.mpr ⟨hm, hp⟩)⟩
    rcases List.mem_append.mp hm with hm | hm
    · exact hbefore m (List.mem_filter.mpr ⟨hm, hp⟩)
    · exact absurd hp (hnone m hm)
  · rintro ⟨ha, before, after, rfl, hbefore, hafter⟩
    refine ⟨before.filter p, after.filter p, by simp [List.filter_append, ha], fun m hm => ?_, fun m hm => ?_⟩
    · exact hbefore m (List.mem_filter.mp hm).1 (List.mem_filter.mp hm).2
    · exact hafter m (List.mem_filter.mp hm).1 (List.mem_filter.mp hm).2

theorem firstMin_filter_eq_some {p : α → Bool} :
    firstMin f (l.filter p) = some a ↔
      p a = true ∧ ∃ before after, l = before ++ a :: after ∧ (∀ m ∈ before, p m = true → f a < f m) ∧
        ∀ m ∈ after, p m = true → f a ≤ f m := by
  rw [firstMin_eq_some, filter_eq_append_cons]

theorem firstMin_filter_eq_none {p : α → Bool} : firstMin f (l.filter p) = none ↔ ∀ m ∈ l, p m = false := by
  simp [firstMin_eq_none, List.filter_eq_nil_iff]

theorem lastMax_filter_eq_some {p : α → Bool} :
    lastMax f (l.filter p) = some a ↔
      p a = true ∧ ∃ before after, l = before ++ a :: after ∧ (∀ m ∈ before, p m = true → f m ≤ f a) ∧
        ∀ m ∈ after, p m = true → f m < f a := by
  rw [lastMax_eq_some, filter_eq_append_cons]

/-- What goes first qualifies, is in the list, and is least among those that qualify. -/
theorem firstMin_filter_spec {p : α → Bool} (h : firstMin f (l.filter p) = some a) :
    p a = true ∧ a ∈ l ∧ ∀ m ∈ l, p m = true → f a ≤ f m := by
  obtain ⟨hp, before, after, rfl, hbefore, hafter⟩ := firstMin_filter_eq_some.mp h
  refine ⟨hp, List.mem_append_right _ List.mem_cons_self, fun m hm hpm => ?_⟩
  rcases List.mem_append.mp hm with hm | hm
  · exact (hbefore m hm hpm).le
  · rcases List.mem_cons.mp hm with rfl | hm
    · exact le_rfl
    · exact hafter m hm hpm

end

/-! ### Candidates and takers -/

section
variable {d : Device}

theorem Device.canAdmit_iff {w : WindowNo} :
    d.canAdmit w = true ↔ d.admission.landings.length < Config.landingSlots ∧ d.occupied w = false ∧ 0 < d.free := by
  simp [Device.canAdmit, Device.tableFull, and_assoc]

theorem Device.occupied_iff {w : WindowNo} :
    d.occupied w = true ↔
      d.config.windows[w].mode = .exclusive ∧ ∃ l ∈ d.admission.landings, l.offer.fields.window = w := by
  simp [Device.occupied]

theorem Device.bestTaker_spec {l : Landing} (h : d.bestTaker = some l) :
    l ∈ d.admission.landings ∧ l.phase = .active ∧ l.limit < l.blocks ∧ l.limit - l.accepted < d.config.credit := by
  obtain ⟨htaker, hmem, -⟩ := firstMin_filter_spec h
  simp only [Landing.isTaker, Bool.and_eq_true, decide_eq_true_eq, and_assoc] at htaker
  exact ⟨hmem, htaker⟩

theorem Device.bestTaker_none : d.bestTaker = none ↔ ∀ l ∈ d.admission.landings, l.isTaker d.config.credit = false :=
  firstMin_filter_eq_none

/-- R80: a suspended record that goes first. -/
theorem Device.bestCandidate_resume {l : Landing} (h : d.bestCandidate = some (.resume l)) :
    firstMin Landing.level (d.admission.suspended.filter fun l => d.canAdmit l.offer.fields.window) = some l ∧
      ∀ e ∈ d.admission.waiting, d.canAdmit e.offer.fields.window = true → l.level ≤ e.level := by
  unfold Device.bestCandidate at h
  dsimp only at h
  split at h
  next l' e hs hp =>
    split at h
    next hle =>
      obtain rfl := Candidate.resume.inj (Option.some.inj h)
      obtain ⟨-, -, hleast⟩ := firstMin_filter_spec hp
      exact ⟨hs, fun m hm hq => hle.trans (hleast m hm hq)⟩
    next => cases h
  next l' hs hp =>
    obtain rfl := Candidate.resume.inj (Option.some.inj h)
    exact ⟨hs, fun m hm hq => absurd (firstMin_filter_eq_none.mp hp m hm) (by simp [hq])⟩
  next => cases h
  next => cases h

/-- R80: a pending entry that goes first. -/
theorem Device.bestCandidate_enter {e : PendingEntry} (h : d.bestCandidate = some (.enter e)) :
    firstMin PendingEntry.level (d.admission.waiting.filter fun e => d.canAdmit e.offer.fields.window) = some e ∧
      ∀ l ∈ d.admission.suspended, d.canAdmit l.offer.fields.window = true → e.level < l.level := by
  unfold Device.bestCandidate at h
  dsimp only at h
  split at h
  next l e' hs hp =>
    split at h
    next => cases h
    next hlt =>
      obtain rfl := Candidate.enter.inj (Option.some.inj h)
      obtain ⟨-, -, hleast⟩ := firstMin_filter_spec hs
      exact ⟨hp, fun m hm hq => lt_of_lt_of_le (not_le.mp hlt) (hleast m hm hq)⟩
  next => cases h
  next e' hs hp =>
    obtain rfl := Candidate.enter.inj (Option.some.inj h)
    exact ⟨hp, fun m hm hq => absurd (firstMin_filter_eq_none.mp hs m hm) (by simp [hq])⟩
  next => cases h

theorem Device.bestCandidate_none :
    d.bestCandidate = none ↔ (∀ l ∈ d.admission.suspended, d.canAdmit l.offer.fields.window = false) ∧
      ∀ e ∈ d.admission.waiting, d.canAdmit e.offer.fields.window = false := by
  rw [← firstMin_filter_eq_none (f := Landing.level) (p := fun l => d.canAdmit l.offer.fields.window),
    ← firstMin_filter_eq_none (f := PendingEntry.level) (p := fun e => d.canAdmit e.offer.fields.window)]
  unfold Device.bestCandidate
  dsimp only
  split
  next hs hp => split <;> simp [hs]
  next hs hp => simp [hs]
  next hs hp => simp [hp]
  next hs hp => simp [hs, hp]

/-- A candidate is where the run found it, and its admission is possible. -/
def Device.Qualifies (d : Device) : Candidate → Prop
  | .resume l => l ∈ d.admission.suspended ∧ d.canAdmit l.offer.fields.window = true
  | .enter e => e ∈ d.admission.waiting ∧ d.canAdmit e.offer.fields.window = true

theorem Device.bestCandidate_qualifies {c : Candidate} (h : d.bestCandidate = some c) : d.Qualifies c := by
  cases c with
  | resume l =>
    obtain ⟨hq, hmem, -⟩ := firstMin_filter_spec (Device.bestCandidate_resume h).1
    exact ⟨hmem, hq⟩
  | enter e =>
    obtain ⟨hq, hmem, -⟩ := firstMin_filter_spec (Device.bestCandidate_enter h).1
    exact ⟨hmem, hq⟩

end

/-! ### What a run and a sweep keep (R79, R80, R98, R99) -/

/-- Kept by taking a candidate that qualifies, and by raising the limit of a taker while a buffer is free. -/
structure RunRule (P : Device → Prop) : Prop where
  takes : ∀ {d : Device} {c : Candidate}, d.Qualifies c → P d → P (d.takeCandidate c)
  raises : ∀ {d : Device} {l : Landing}, 0 < d.free → d.bestTaker = some l → P d → P (d.raiseLimit l)

section
variable {P : Device → Prop} (rule : RunRule P) {d : Device}
include rule

theorem RunRule.distribute (hd : P d) : P d.distribute := by
  unfold Device.distribute
  split
  next => exact hd
  next hfree =>
    have hfree := Nat.pos_of_ne_zero hfree
    split
    next hl hc =>
      split
      next => exact rule.raises hfree hl hd
      next => exact rule.takes (Device.bestCandidate_qualifies hc) hd
    next hl hc => exact rule.raises hfree hl hd
    next hl hc => exact rule.takes (Device.bestCandidate_qualifies hc) hd
    next => exact hd

theorem RunRule.admissionRun (fuel : Nat) (hd : P d) : P (Device.admissionRun fuel d) := by
  induction fuel generalizing d with
  | zero => exact hd
  | succ fuel ih =>
    unfold Device.admissionRun
    split
    next hc => exact ih (rule.takes (Device.bestCandidate_qualifies hc) hd)
    next => exact hd

theorem RunRule.sweep (fuel : Nat) (hd : P d) : P (Device.sweep fuel d) := by
  induction fuel generalizing d with
  | zero => exact hd
  | succ fuel ih =>
    unfold Device.sweep
    split
    next => exact hd
    next hfree =>
      split
      next hl => exact ih (rule.raises (Nat.pos_of_ne_zero hfree) hl hd)
      next => exact hd

theorem RunRule.runAndSweep (hd : P d) : P d.runAndSweep := by
  unfold Device.runAndSweep
  split
  next => exact rule.sweep _ (rule.admissionRun _ hd)
  next => exact hd

theorem RunRule.runIf (b : Bool) (hd : P d) : P (runIf b d) := by
  unfold Machine.runIf
  split
  next => exact rule.runAndSweep hd
  next => exact hd

end

/-! ### Insertion by level (R68, R113) -/

section
variable {α : Type} {level : α → Nat} {x : α}

theorem insertByLevel_eq (l : List α) :
    insertByLevel level x l =
      l.takeWhile (fun y => decide (level y ≤ level x)) ++ x :: l.dropWhile (fun y => decide (level y ≤ level x)) := by
  induction l with
  | nil => rfl
  | cons y ys ih =>
    rw [insertByLevel]
    split
    next h => simp [h, ih]
    next h => simp [h]

theorem insertByLevel_perm (l : List α) : (insertByLevel level x l).Perm (x :: l) := by
  rw [insertByLevel_eq]
  conv_rhs => rw [← List.takeWhile_append_dropWhile (p := fun y => decide (level y ≤ level x)) (l := l)]
  exact List.perm_middle

theorem mem_insertByLevel {l : List α} {y : α} : y ∈ insertByLevel level x l ↔ y = x ∨ y ∈ l := by
  rw [(insertByLevel_perm l).mem_iff, List.mem_cons]

theorem insertByLevel_ordered {l : List α} (h : (l.map level).Pairwise (· ≤ ·)) :
    ((insertByLevel level x l).map level).Pairwise (· ≤ ·) := by
  induction l with
  | nil => simp [insertByLevel]
  | cons y ys ih =>
    obtain ⟨hy, hys⟩ := List.pairwise_cons.mp h
    rw [insertByLevel]
    split
    next hle =>
      refine List.pairwise_cons.mpr ⟨fun n hn => ?_, ih hys⟩
      obtain ⟨z, hz, rfl⟩ := List.mem_map.mp hn
      rcases mem_insertByLevel.mp hz with rfl | hz
      · exact hle
      · exact hy _ (List.mem_map_of_mem hz)
    next hlt =>
      refine List.pairwise_cons.mpr ⟨fun n hn => ?_, h⟩
      rcases List.mem_cons.mp hn with rfl | hn
      · exact (not_le.mp hlt).le
      · exact (not_le.mp hlt).le.trans (hy n hn)

end

/-! ### The four collections keep their capacities and orders -/

/-- R67, R68, R110, R113: the capacities and the orders. -/
def AdmissionUnit.inBounds (a : AdmissionUnit) : Prop := a.bounded ∧ a.ordered

/-- A collection shrinks: what is left keeps its order. -/
theorem AdmissionUnit.inBounds.of_sublist {a b : AdmissionUnit} (h : a.inBounds)
    (hlandings : b.landings.length ≤ a.landings.length)
    (hsuspended : (b.suspended.map Landing.level).Sublist (a.suspended.map Landing.level))
    (hwaiting : (b.waiting.map PendingEntry.level).Sublist (a.waiting.map PendingEntry.level))
    (hrecent : b.recent.length ≤ a.recent.length) : b.inBounds := by
  obtain ⟨⟨hl, hs, hw, hr⟩, how, hos⟩ := h
  have hslen := hsuspended.length_le
  have hwlen := hwaiting.length_le
  rw [List.length_map, List.length_map] at hslen hwlen
  exact ⟨⟨hlandings.trans hl, hslen.trans hs, hwlen.trans hw, hrecent.trans hr⟩, how.sublist hwaiting, hos.sublist hsuspended⟩

section
variable {a : AdmissionUnit} (h : a.inBounds)
include h

theorem AdmissionUnit.inBounds.dropRecord (k : Key) : (a.dropRecord k).inBounds :=
  AdmissionUnit.inBounds.of_sublist h (List.length_filter_le _ _) (List.filter_sublist.map _) (.refl _) le_rfl

theorem AdmissionUnit.inBounds.dropWaiting (k : Key) : (a.dropWaiting k).inBounds :=
  AdmissionUnit.inBounds.of_sublist h le_rfl (.refl _) (List.filter_sublist.map _) le_rfl

theorem AdmissionUnit.inBounds.dropRecent (k : Key) : (a.dropRecent k).inBounds :=
  AdmissionUnit.inBounds.of_sublist h le_rfl (.refl _) (.refl _) (List.length_filter_le _ _)

theorem AdmissionUnit.inBounds.updLanding (k : Key) (f : Landing → Landing) : (a.updLanding k f).inBounds :=
  AdmissionUnit.inBounds.of_sublist h (by simp [AdmissionUnit.updLanding]) (.refl _) (.refl _) le_rfl

theorem AdmissionUnit.inBounds.updRecord (k : Key) {f : Landing → Landing} (hf : ∀ l, (f l).offer = l.offer) :
    (a.updRecord k f).inBounds := by
  refine AdmissionUnit.inBounds.of_sublist h (by simp [AdmissionUnit.updRecord]) ?_ (.refl _) le_rfl
  have hlevels : (a.updRecord k f).suspended.map Landing.level = a.suspended.map Landing.level := by
    simp only [AdmissionUnit.updRecord, List.map_map]
    refine List.map_congr_left fun l _ => ?_
    simp only [Function.comp_apply]
    split
    next => simp [Landing.level, hf]
    next => rfl
  rw [hlevels]

theorem AdmissionUnit.inBounds.addRecent (r : RecentEntry) : (a.addRecent r).inBounds := by
  obtain ⟨⟨hl, hs, hw, hr⟩, hordered⟩ := h
  refine ⟨⟨hl, hs, hw, ?_⟩, hordered⟩
  simp only [AdmissionUnit.addRecent, List.length_append, List.length_singleton]
  split
  next hlt => exact hlt
  next =>
    rw [List.length_drop]
    have hmax : Config.recentMax = 8 := rfl
    omega

end

/-- The collections of the block are in bounds. -/
def Device.landingsBounded (d : Device) : Prop := d.admission.inBounds

section
variable {d e : Device}

theorem Device.landingsBounded_of_keeps (h : d.landingsBounded) (hsame : e.admission = d.admission) : e.landingsBounded := by
  unfold Device.landingsBounded
  rw [hsame]
  exact h

theorem Device.landingsBounded_of_eq {a : AdmissionUnit} (h : a.inBounds) (hsame : e.admission = a) : e.landingsBounded := by
  subst hsame
  exact h

theorem Device.post_bounded (h : d.landingsBounded) (n : Notice) : (d.post n).landingsBounded :=
  Device.landingsBounded_of_keeps h (by simp)

theorem Device.admitOffer_bounded {o : Offer} (hroom : d.admission.landings.length < Config.landingSlots)
    (h : d.landingsBounded) : (d.admitOffer o).landingsBounded := by
  obtain ⟨⟨-, hs, hw, hr⟩, hordered⟩ := h
  simp only [Device.landingsBounded, Device.admitOffer, Device.claimReply_keeps, Device.updAdmission_admission]
  exact ⟨⟨by simpa using hroom, hs, hw, hr⟩, hordered⟩

theorem Device.resumeLanding_bounded {l : Landing} (hroom : d.admission.landings.length < Config.landingSlots)
    (h : d.landingsBounded) : (d.resumeLanding l).landingsBounded := by
  obtain ⟨⟨hl, hs, hw, hr⟩, how, hos⟩ := h
  have hlen := List.length_filter_le (fun m : Landing => decide (m.offer.key ≠ l.offer.key)) d.admission.suspended
  simp only [Device.landingsBounded, Device.resumeLanding, Device.post_keeps, Device.claimReply_keeps, Device.updAdmission_admission]
  exact ⟨⟨by simpa using hroom, hlen.trans hs, hw, hr⟩, how, hos.sublist (List.filter_sublist.map _)⟩

theorem Device.qualifies_room {c : Candidate} (h : d.Qualifies c) :
    d.admission.landings.length < Config.landingSlots ∧ 0 < d.free := by
  cases c <;> exact ⟨(Device.canAdmit_iff.mp h.2).1, (Device.canAdmit_iff.mp h.2).2.2⟩

theorem boundedRunRule : RunRule Device.landingsBounded where
  takes {d c} hq h := by
    obtain ⟨hroom, -⟩ := Device.qualifies_room hq
    cases c with
    | resume l => exact Device.resumeLanding_bounded hroom h
    | enter e => exact Device.admitOffer_bounded hroom (h.dropWaiting e.offer.key)
  raises {d l} _ _ h := Device.landingsBounded_of_eq (h.updLanding l.offer.key fun m => { m with limit := m.limit + 1 })
    (by simp [Device.raiseLimit])

theorem Device.suspend_bounded {l : Landing} (hroom : d.admission.suspended.length < Config.suspendedMax)
    (h : d.landingsBounded) : (d.suspend l).landingsBounded := by
  obtain ⟨⟨hl, hs, hw, hr⟩, how, hos⟩ := h
  have hlen := List.length_filter_le (fun m : Landing => decide (m.offer.key ≠ l.offer.key)) d.admission.landings
  simp only [Device.landingsBounded, Device.suspend, Device.post_keeps, Device.claimReply_keeps, Device.updAdmission_admission]
  refine ⟨⟨hlen.trans hl, ?_, hw, hr⟩, how, insertByLevel_ordered hos⟩
  simp only [(insertByLevel_perm _).length_eq, List.length_cons]
  exact hroom

theorem Device.placeWaiting_bounded {o : Offer} (hroom : d.admission.waiting.length < Config.pendingMax)
    (h : d.landingsBounded) : (d.placeWaiting o).landingsBounded := by
  obtain ⟨⟨hl, hs, hw, hr⟩, how, hos⟩ := h
  simp only [Device.landingsBounded, Device.placeWaiting, Device.claimReply_keeps, Device.updAdmission_admission]
  refine ⟨⟨hl, hs, ?_, hr⟩, insertByLevel_ordered how, hos⟩
  simp only [(insertByLevel_perm _).length_eq, List.length_cons]
  exact hroom

theorem Device.evict_admission (d : Device) (t : PendingEntry) :
    (d.evict t).admission = { d.admission with waiting := d.admission.waiting.dropLast } := by
  simp [Device.evict]

theorem Device.evict_bounded (t : PendingEntry) (h : d.landingsBounded) : (d.evict t).landingsBounded := by
  unfold Device.landingsBounded
  rw [Device.evict_admission]
  exact AdmissionUnit.inBounds.of_sublist h le_rfl (.refl _) ((List.dropLast_sublist _).map _) le_rfl

theorem Device.queueOffer_bounded {o : Offer} (h : d.landingsBounded) : (d.queueOffer o).landingsBounded := by
  unfold Device.queueOffer
  split
  next hroom => exact Device.placeWaiting_bounded hroom h
  next hfull =>
    split
    next t ht =>
      split
      next =>
        refine Device.placeWaiting_bounded ?_ (Device.evict_bounded t h)
        obtain ⟨⟨-, -, hw, -⟩, -⟩ := h
        have hmax : Config.pendingMax = 8 := rfl
        rw [Device.evict_admission, List.length_dropLast]
        omega
      next => exact Device.landingsBounded_of_keeps h (by simp)
    next hnone =>
      refine Device.placeWaiting_bounded ?_ h
      rw [List.getLast?_eq_none_iff.mp hnone]
      decide

theorem Device.admitOrQueue_bounded {o : Offer} (h : d.landingsBounded) : (d.admitOrQueue o).landingsBounded := by
  unfold Device.admitOrQueue
  split
  next hcan => exact Device.admitOffer_bounded (Device.canAdmit_iff.mp hcan).1 h
  next => exact Device.queueOffer_bounded h

theorem Device.victim_maySuspend {o : Offer} {l : Landing} (h : d.victim o = some l) :
    d.namedVictim o = some l ∧ d.maySuspend o l = true ∧ (d.tableFull || d.occupied o.fields.window) = true := by
  unfold Device.victim at h
  split at h
  next hfull =>
    obtain ⟨hnamed, hmay⟩ := Option.filter_eq_some_iff.mp h
    exact ⟨hnamed, hmay, hfull⟩
  next => cases h

theorem Device.maySuspend_iff {o : Offer} {l : Landing} :
    d.maySuspend o l = true ↔ (l.phase = .active ∧ d.config.windows[l.offer.fields.window].pinned = false) ∧
      o.fields.level.val < l.level ∧ d.admission.suspended.length < Config.suspendedMax := by
  simp [Device.maySuspend, and_assoc]

theorem Device.judgeAndPlace_bounded {o : Offer} (h : d.landingsBounded) : (d.judgeAndPlace o).1.landingsBounded := by
  unfold Device.judgeAndPlace
  split
  next => exact Device.landingsBounded_of_keeps h (by simp)
  next =>
    split
    next l hl =>
      obtain ⟨-, -, hroom⟩ := Device.maySuspend_iff.mp (Device.victim_maySuspend hl).2.1
      exact Device.admitOrQueue_bounded (Device.suspend_bounded hroom h)
    next => exact Device.admitOrQueue_bounded h

theorem Device.removeRecord_bounded (k : Key) (h : d.landingsBounded) : (d.removeRecord k).landingsBounded :=
  h.dropRecord k

theorem Device.handleOffer_bounded {o : Offer} (h : d.landingsBounded) : (d.handleOffer o).landingsBounded := by
  unfold Device.handleOffer
  split
  next l _ =>
    split
    next => exact Device.landingsBounded_of_keeps h (by simp)
    next =>
      refine boundedRunRule.runIf _ (Device.judgeAndPlace_bounded ?_)
      exact Device.landingsBounded_of_keeps (Device.removeRecord_bounded l.offer.key h) (by simp [Device.supersedeRecord])
  next e _ =>
    split
    next => exact Device.landingsBounded_of_keeps h (by simp)
    next =>
      refine boundedRunRule.runIf _ (Device.judgeAndPlace_bounded ?_)
      exact Device.landingsBounded_of_eq (h.dropWaiting e.offer.key) (by simp [Device.supersedeWaiting])
  next => exact boundedRunRule.runIf _ (Device.judgeAndPlace_bounded (h.dropRecent o.key))
  next => exact boundedRunRule.runIf _ (Device.judgeAndPlace_bounded h)

theorem Device.handleWithdraw_bounded {k : Key} {g : Generation} {r : WithdrawReason} (h : d.landingsBounded) :
    (d.handleWithdraw k g r).landingsBounded := by
  unfold Device.handleWithdraw
  split
  next =>
    split
    next => exact boundedRunRule.runAndSweep (Device.removeRecord_bounded k h)
    next => exact h
  next =>
    split
    next => exact boundedRunRule.runAndSweep (h.dropWaiting k)
    next => exact h
  next => exact h
  next => exact h

theorem Device.handleBlock_bounded {k : Key} {g : Generation} {n : Nat} {p : List Byte} (h : d.landingsBounded) :
    (d.handleBlock k g n p).landingsBounded := by
  unfold Device.handleBlock
  split
  next l _ =>
    split
    next => exact h.updLanding l.offer.key _
    next => exact Device.landingsBounded_of_keeps h (by simp)
  next => exact Device.landingsBounded_of_keeps h (by simp)

theorem Device.completeLanding_bounded {l : Landing} (h : d.landingsBounded) : (d.completeLanding l).landingsBounded := by
  have hlanded := (h.dropRecord l.offer.key).addRecent
    { key := l.offer.key, generation := l.offer.generation, blocks := l.blocks }
  unfold Device.completeLanding
  dsimp only
  split
  next => exact Device.landingsBounded_of_eq hlanded (by simp [Device.removeRecord])
  next => exact hlanded

theorem Device.placeFreed_bounded {k : Key} (h : d.landingsBounded) : (d.placeFreed k).landingsBounded := by
  unfold Device.placeFreed
  split
  next =>
    split
    next => exact h.updLanding k _
    next => exact boundedRunRule.distribute h
  next => exact boundedRunRule.distribute h

theorem Device.reportWrite_bounded {k : Key} (h : d.landingsBounded) : (d.reportWrite k).landingsBounded := by
  unfold Device.reportWrite
  split
  next l _ =>
    have hclaimed : (d.claimReceipt l (decide (l.written = l.blocks))).landingsBounded :=
      Device.landingsBounded_of_keeps h (by simp)
    dsimp only
    split
    next => exact Device.completeLanding_bounded hclaimed
    next => exact hclaimed
  next => exact h

theorem Device.writeDone_bounded {owner : Option Key} (h : d.landingsBounded) : (d.writeDone owner).landingsBounded := by
  cases owner with
  | none => exact boundedRunRule.runAndSweep (boundedRunRule.distribute h)
  | some k =>
    exact boundedRunRule.runAndSweep (Device.reportWrite_bounded (Device.placeFreed_bounded
      (h.updRecord k (f := fun l => { l with written := l.written + 1 }) fun _ => rfl)))

theorem Device.writeFailed_bounded {owner : Option Key} (h : d.landingsBounded) : (d.writeFailed owner).landingsBounded := by
  have hspread := boundedRunRule.runAndSweep (boundedRunRule.distribute h)
  cases owner with
  | none => exact hspread
  | some k =>
    unfold Device.writeFailed
    dsimp only
    split
    next => exact boundedRunRule.runAndSweep (Device.landingsBounded_of_eq (h.dropRecord k) (by simp))
    all_goals exact hspread

theorem Device.landTimeout_bounded {l : Landing} (h : d.landingsBounded) : (d.landTimeout l).landingsBounded :=
  boundedRunRule.runAndSweep (d := (Device.removeRecord _ _).post _)
    (Device.removeRecord_bounded (d := d.claimReply _ _ _) _ (Device.landingsBounded_of_keeps h (by simp)))

theorem Device.expireWaiting_bounded {w : PendingEntry} (h : d.landingsBounded) : (d.expireWaiting w).landingsBounded :=
  Device.landingsBounded_of_eq (h.dropWaiting w.offer.key) (by simp [Device.expireWaiting])

/-- A walk over a list of operations. -/
theorem foldl_induction {α β : Type} {P : β → Prop} {f : β → α → β} (h : ∀ b a, P b → P (f b a)) (l : List α) {b : β}
    (hb : P b) : P (l.foldl f b) := by
  induction l generalizing b with
  | nil => exact hb
  | cons a l ih => exact ih (h b a hb)

theorem Device.refuseLeaving_bounded {o : Offer} {n : Nat} (h : d.landingsBounded) : (d.refuseLeaving o n).landingsBounded := by
  have hclaimed : (d.claimReply o.key o.generation (.refuse .leaving)).landingsBounded :=
    Device.landingsBounded_of_keeps h (by simp)
  exact (hclaimed.dropRecord o.key).dropWaiting o.key

theorem Device.leaveLandings_bounded (h : d.landingsBounded) : d.leaveLandings.landingsBounded := by
  have hrefused := foldl_induction (fun (d : Device) (e : PendingEntry) => Device.refuseLeaving_bounded (o := e.offer) (n := 0))
    d.admission.waiting (foldl_induction (fun (d : Device) (l : Landing) =>
      Device.refuseLeaving_bounded (o := l.offer) (n := l.byteCount)) (d.admission.landings ++ d.admission.suspended) h)
  exact AdmissionUnit.inBounds.of_sublist hrefused le_rfl (.refl _) (.refl _) (Nat.zero_le _)

theorem Device.tearRecord_bounded {ending : Ending} {o : Offer} {n : Nat} (h : d.landingsBounded) :
    (d.tearRecord ending o n).landingsBounded :=
  (h.dropRecord o.key).dropWaiting o.key

theorem Device.tearLandings_bounded {x : Station} {ending : Ending} (h : d.landingsBounded) :
    (d.tearLandings x ending).landingsBounded := by
  have htorn := foldl_induction (fun (d : Device) (e : PendingEntry) =>
      Device.tearRecord_bounded (ending := ending) (o := e.offer) (n := 0))
    (d.admission.waiting.filter fun e => decide (e.offer.key.source = x)) (foldl_induction (fun (d : Device) (l : Landing) =>
      Device.tearRecord_bounded (ending := ending) (o := l.offer) (n := l.byteCount))
      ((d.admission.landings ++ d.admission.suspended).filter fun l => decide (l.offer.key.source = x)) h)
  exact AdmissionUnit.inBounds.of_sublist htorn le_rfl (.refl _) (.refl _) (List.length_filter_le _ _)

theorem Device.teardown_bounded {x : Station} {o : TransferOutcome} {ending : Ending} (h : d.landingsBounded) :
    (d.teardown x o ending).landingsBounded := by
  have htorn : ((d.tearChannels x o).tearLandings x ending).landingsBounded :=
    Device.tearLandings_bounded (Device.landingsBounded_of_keeps h (by simp))
  exact boundedRunRule.runIf _ (Device.landingsBounded_of_keeps htorn (by simp))

theorem Device.emptyAdmission_bounded : AdmissionUnit.powerOn.inBounds := by
  simp [AdmissionUnit.inBounds, AdmissionUnit.bounded, AdmissionUnit.ordered, AdmissionUnit.powerOn]

theorem Device.resetStation_bounded (h : d.landingsBounded) : d.resetStation.landingsBounded := by
  unfold Device.resetStation
  split
  next => exact Device.emptyAdmission_bounded
  all_goals exact Device.landingsBounded_of_keeps h (by simp)

theorem Device.startLeaving_bounded (h : d.landingsBounded) : d.startLeaving.landingsBounded := by
  have hchannels : (eight.foldl Device.leaveChannel (d.endJoining.updControl fun c => { c with state := .leaving })).landingsBounded :=
    Device.landingsBounded_of_keeps h ((foldl_keeps Device.admission _ (by simp) _ _).trans (by simp))
  unfold Device.startLeaving
  exact Device.landingsBounded_of_keeps (Device.leaveLandings_bounded hchannels) (by simp)

theorem Device.Handles.bounded {x : Station} (h : d.Handles x e) (hd : d.landingsBounded) : e.landingsBounded := by
  cases h with
  | offer c g h => exact Device.handleOffer_bounded hd
  | block c g h => exact Device.handleBlock_bounded hd
  | withdraw c g reason => exact Device.handleWithdraw_bounded hd
  | wait c g => exact Device.landingsBounded_of_keeps hd (by simp)
  | grant c g h => exact Device.landingsBounded_of_keeps hd (by simp)
  | refuse c g reason => exact Device.landingsBounded_of_keeps hd (by simp)
  | receipt c g final h => exact Device.landingsBounded_of_keeps hd (by simp)
  | pause c g h => exact Device.landingsBounded_of_keeps hd (by simp)
  | signal n a => exact Device.landingsBounded_of_keeps hd (by simp)
  | halt => exact Device.landingsBounded_of_keeps hd (by simp)
  | resume => exact Device.landingsBounded_of_keeps hd (by simp)

theorem Device.handleJoin_bounded {x : Station} (h : d.landingsBounded) : (d.handleJoin x).landingsBounded := by
  unfold Device.handleJoin
  split
  next => exact Device.landingsBounded_of_keeps h (by simp)
  next => exact h
  next =>
    exact Device.landingsBounded_of_keeps (d := (d.post _).teardown x _ _)
      (Device.teardown_bounded (Device.post_bounded h _)) rfl
  next => exact h

theorem Device.handleLeave_bounded {x : Station} (h : d.landingsBounded) : (d.handleLeave x).landingsBounded := by
  unfold Device.handleLeave
  split
  next =>
    exact Device.landingsBounded_of_keeps (d := (d.post _).teardown x _ _)
      (Device.teardown_bounded (Device.post_bounded h _)) rfl
  all_goals exact h

theorem Device.Works.bounded (h : d.Works e) (hd : d.landingsBounded) : e.landingsBounded := by
  cases h with
  | leave h => exact Device.startLeaving_bounded hd
  | reset => exact Device.resetStation_bounded hd
  | start h => exact Device.landingsBounded_of_keeps hd (Device.tryStart_keeps h).2.2.1
  | frame hr hx h => exact h.bounded (Device.landingsBounded_of_keeps hd (by simp))
  | joinFrame hr hx => exact Device.handleJoin_bounded hd
  | leaveFrame hr hx => exact Device.handleLeave_bounded hd
  | resetSent h ho => exact Device.emptyAdmission_bounded
  | lifetime h => exact Device.expireWaiting_bounded hd
  | landingTimer h => exact Device.landTimeout_bounded hd
  | written ha hw => exact Device.writeDone_bounded (Device.landingsBounded_of_keeps hd (by simp))
  | writeFailed ha hw => exact Device.writeFailed_bounded (Device.landingsBounded_of_keeps hd (by simp))
  | _ => exact Device.landingsBounded_of_keeps hd (by simp)

theorem boundedRule : EventRule Device.landingsBounded Device.landingsBounded Device.landingsBounded where
  registers {d e} h hd := by
    obtain ⟨f, -, rfl⟩ := h
    exact hd
  answered {d e} h hd := by
    obtain ⟨f, -, rfl⟩ := h
    exact hd
  works := Device.Works.bounded
  settles hd := Device.landingsBounded_of_keeps hd (by simp)
  writes {d e} h hd := by cases h <;> exact Device.landingsBounded_of_keeps hd (by simp)
  configures _ h hd := by cases h <;> exact hd

end

/-- Settles O56: the queues are moved by claims and by the arbiter alone, and the collections grow only where there is room. -/
theorem queuesStayInBounds : Obligations.QueuesStayInBounds := by
  rintro s t ⟨hnotices, hqueues, hbounded, hordered⟩ h
  obtain ⟨hnotices, hqueues⟩ := outboxRule.step Device.powerOn_outboxOk h ⟨hnotices, hqueues⟩
  obtain ⟨hbounded, hordered⟩ := boundedRule.step (fun _ _ => Device.emptyAdmission_bounded) h ⟨hbounded, hordered⟩
  exact ⟨hnotices, hqueues, hbounded, hordered⟩

end Sys2Proof.Machine

/-! The register window: the commands that touch one table entry, one channel at rest or the ARG words alone (R21, R42 to R47,
R135, R148, R171 to R181). -/

namespace Sys2Proof.Machine

/-! ### One step -/

/-- Settles O1: both clauses are the two arms of `step`. -/
theorem stepTakesTheFrontCommand : Obligations.StepTakesTheFrontCommand :=
  ⟨fun _ _ _ => rfl, fun s h => by simp only [step, h]⟩

/-! ### Commands that are refused, and commands that are accepted -/

/-- R173: the device once the command's number stands in COMMAND. -/
abbrev Device.commanded (d : Device) (n : Nat) : Device := d.updLocal fun p => { p with command := BitVec.ofNat 8 n }

theorem always_accepts (st : StationState) : always st = true := by cases st <;> rfl

/-- R173, check 2. -/
theorem Device.command_refused {d : Device} {n : Nat} {acc : StationState → Bool} {body : Device → Device × ResultCode}
    (h : acc d.control.state = false) : d.command n acc body = d.answer n .state := by
  simp only [Device.command, Device.updLocal_control, h, Bool.false_eq_true, if_false]
  rfl

/-- A command whose own arguments fail a check changes RESULT and COMMAND alone. -/
theorem Device.command_failed {d : Device} {n : Nat} {acc : StationState → Bool} {body : Device → Device × ResultCode}
    {r : ResultCode} (h : acc d.control.state = true)
    (hb : body (d.commanded n) =
      (d.updLocal fun p => { p with command := BitVec.ofNat 8 n }, r)) :
    d.command n acc body = d.answer n r :=
  Device.command_ok h hb

/-- Settles O6: each of the fourteen commands stands behind its check of the station state. -/
theorem commandsOutsideTheirStatesAreRefused : Obligations.CommandsOutsideTheirStatesAreRefused := by
  have hconfig : ∀ s : State, s.dev.control.state ∉ [StationState.config] → inConfig s.dev.control.state = false :=
    fun s h => by simpa [← Bool.not_eq_true, inConfig_iff] using h
  have hjoined : ∀ s : State, s.dev.control.state ∉ [StationState.joined] → inJoined s.dev.control.state = false :=
    fun s h => by simpa [← Bool.not_eq_true, inJoined_iff] using h
  have hspan : ∀ s : State, s.dev.control.state ∉ [StationState.joining, .joined] → onSpan s.dev.control.state = false :=
    fun s h => by simpa [← Bool.not_eq_true, onSpan_iff] using h
  have hleaving : ∀ s : State, s.dev.control.state ∉ [StationState.config, .joining, .joined] →
      notLeaving s.dev.control.state = false := fun s h => by
    cases hs : s.dev.control.state <;> simp [hs, notLeaving] at h ⊢
  simp only [Obligations.CommandsOutsideTheirStatesAreRefused, List.forall_mem_cons]
  exact ⟨fun s h => congrArg s.next (Device.command_refused (hconfig s h)),
    fun s h => congrArg s.next (Device.command_refused (hconfig s h)),
    fun s h => congrArg s.next (Device.command_refused (hconfig s h)),
    fun s h => congrArg s.next (Device.command_refused (hconfig s h)),
    fun s h => congrArg s.next (Device.command_refused (hconfig s h)),
    fun s h => congrArg s.next (Device.command_refused (hspan s h)),
    fun s h => congrArg s.next (Device.command_refused (hleaving s h)),
    fun s h => congrArg s.next (Device.command_refused (hspan s h)),
    fun s h => congrArg s.next (Device.command_refused (hleaving s h)),
    fun s h => congrArg s.next (Device.command_refused (hleaving s h)),
    fun s h => congrArg s.next (Device.command_refused (hjoined s h)),
    fun s h => congrArg s.next (Device.command_refused (hjoined s h)),
    fun s h => congrArg s.next (Device.command_refused (hjoined s h)),
    fun s h => congrArg s.next (Device.command_refused (hleaving s h)),
    fun _ h => absurd h List.not_mem_nil⟩

/-! ### The SET commands (R47, R135, R148, R175) -/

section
variable {d : Device}

/-- R135 step 3: the checks SET_WINDOW makes of its entry. -/
def Device.windowChecks (d : Device) : Prop :=
  d.arg 1 % 64 = 0 ∧ d.arg 2 % 64 = 0 ∧ 64 ≤ d.arg 2 ∧ d.arg 2 ≤ Config.windowMax ∧
    d.arg 1 + d.arg 2 ≤ Config.addressSpace ∧ d.argByte 4 1 ≤ 1

theorem Device.parseWindow_some (h : d.windowChecks) :
    d.parseWindow = some
      { enabled := decide (d.argByte 4 0 ≠ 0), base := d.lport.args[(1 : Fin 6)], size := d.arg 2,
        mask := d.lport.args[(3 : Fin 6)].extractLsb' 0 8,
        mode := if d.argByte 4 1 = 0 then .shared else .exclusive, pinned := decide (d.argByte 4 2 ≠ 0) } := by
  have hmode : d.argByte 4 1 ≤ 1 := by
    obtain ⟨-, -, -, -, -, hmode⟩ := h
    exact hmode
  have hsame : (if d.argByte 4 1 = 1 then WindowMode.exclusive else .shared) =
      if d.argByte 4 1 = 0 then .shared else .exclusive := by
    interval_cases d.argByte 4 1 <;> rfl
  exact (if_pos h).trans (by rw [hsame])

theorem Device.parseWindow_none (h : ¬d.windowChecks) : d.parseWindow = none := if_neg h

theorem setWindowBody_ok (h : d.arg 0 < 16) {e : WindowEntry} (he : d.parseWindow = some e) :
    setWindowBody d = (d.updConfig fun c => { c with windows := c.windows.set (d.arg 0) e }, .ok) := by
  simp only [setWindowBody, h, dif_pos, he]

theorem setWindowBody_failed (h : ¬(d.arg 0 < 16 ∧ d.windowChecks)) : setWindowBody d = (d, .badArgument) := by
  unfold setWindowBody
  split
  next hnumber => rw [Device.parseWindow_none fun hchecks => h ⟨hnumber, hchecks⟩]
  next => rfl

end

/-- Settles O7. -/
theorem setWindowWritesOneEntry : Obligations.SetWindowWritesOneEntry := by
  refine ⟨?_, fun s hs => ?_, fun s hs hno => ?_⟩
  · intro s h hs h1 h2 h3 h4 h5 h6 e
    have hparse := Device.parseWindow_some (d := s.dev.commanded 1)
      ⟨h1, h2, h3, h4, h5, h6⟩
    exact congrArg s.next (Device.command_ok (inConfig_iff.mpr hs) (setWindowBody_ok (d := s.dev.commanded 1) h hparse))
  · exact congrArg s.next (Device.command_refused (by simpa [← Bool.not_eq_true, inConfig_iff] using hs))
  · exact congrArg s.next (Device.command_failed (inConfig_iff.mpr hs) (setWindowBody_failed hno))

section
variable {d : Device}

theorem parseAction_code (a : SignalAction) : parseAction a.code = some a := by cases a <;> rfl

theorem parseAction_none {n : Nat} (h : 3 < n) : parseAction n = none := by
  match n, h with
  | n + 4, _ => rfl

theorem Device.parseSignal_some {action : SignalAction} {channel : ChannelNo} (h1 : d.arg 1 = action.code)
    (h2 : d.arg 2 = channel.val) :
    d.parseSignal = some
      { action := action, channel := channel, mask := d.lport.args[(3 : Fin 6)].extractLsb' 0 8 } := by
  have hlt : d.arg 2 < 8 := h2 ▸ channel.isLt
  simp only [Device.parseSignal, h1, parseAction_code, hlt, dif_pos]
  simp [h2]

theorem Device.parseSignal_none (h : ¬(d.arg 1 ≤ 3 ∧ d.arg 2 ≤ 7)) : d.parseSignal = none := by
  unfold Device.parseSignal
  split
  next action haction =>
    split
    next hlt =>
      refine absurd ⟨?_, Nat.le_of_lt_succ hlt⟩ h
      by_contra hbig
      rw [parseAction_none (not_le.mp hbig)] at haction
      cases haction
    next => rfl
  next => rfl

theorem setSignalBody_ok (h : d.arg 0 < 32) {e : SignalEntry} (he : d.parseSignal = some e) :
    setSignalBody d = (d.updConfig fun c => { c with signals := c.signals.set (d.arg 0) e }, .ok) := by
  simp only [setSignalBody, h, dif_pos, he]

theorem setSignalBody_failed (h : ¬(d.arg 0 ≤ 31 ∧ d.arg 1 ≤ 3 ∧ d.arg 2 ≤ 7)) : setSignalBody d = (d, .badArgument) := by
  unfold setSignalBody
  split
  next hnumber => rw [Device.parseSignal_none fun hchecks => h ⟨Nat.le_of_lt_succ hnumber, hchecks⟩]
  next => rfl

end

/-- Settles O8. -/
theorem setSignalWritesOneEntry : Obligations.SetSignalWritesOneEntry := by
  refine ⟨?_, fun s hs => ?_, fun s hs hno => ?_⟩
  · intro s h action channel hs h1 h2 e
    have hparse := Device.parseSignal_some (d := s.dev.commanded 2) h1 h2
    exact congrArg s.next (Device.command_ok (inConfig_iff.mpr hs) (setSignalBody_ok (d := s.dev.commanded 2) h hparse))
  · exact congrArg s.next (Device.command_refused (by simpa [← Bool.not_eq_true, inConfig_iff] using hs))
  · exact congrArg s.next (Device.command_failed (inConfig_iff.mpr hs) (setSignalBody_failed hno))

section
variable {d : Device}

theorem parseBinding_line (line : LineNo) : parseBinding (line.val + 1) = some (some line) := by
  revert line
  decide

theorem parseBinding_none {n : Nat} (h : 4 < n) : parseBinding n = none := by
  match n, h with
  | n + 5, _ => rfl

theorem setLineBody_ok (h : d.arg 0 < 8) {b : Option LineNo} (hb : parseBinding (d.arg 1) = some b) :
    setLineBody d = (d.updConfig fun c => { c with lines := c.lines.set (d.arg 0) b }, .ok) := by
  simp only [setLineBody, h, dif_pos, hb]

theorem setLineBody_failed (h : ¬(d.arg 0 ≤ 7 ∧ d.arg 1 ≤ 4)) : setLineBody d = (d, .badArgument) := by
  unfold setLineBody
  split
  next hnumber =>
    rw [parseBinding_none (not_le.mp fun hle => h ⟨Nat.le_of_lt_succ hnumber, hle⟩)]
  next => rfl

/-- R175: the four timers are ARG0 to ARG3. -/
theorem Device.timersInRange_iff :
    d.timersInRange = true ↔
      (∀ i : Fin 4, 1 ≤ d.arg (i.castLE (by decide)) ∧ d.arg (i.castLE (by decide)) ≤ 255) ∧ 1 ≤ d.arg 4 ∧ d.arg 4 ≤ 8 := by
  have hfour : (∀ i : Fin 4, 1 ≤ d.arg (i.castLE (by decide)) ∧ d.arg (i.castLE (by decide)) ≤ 255) ↔
      (1 ≤ d.arg 0 ∧ d.arg 0 ≤ 255) ∧ (1 ≤ d.arg 1 ∧ d.arg 1 ≤ 255) ∧ (1 ≤ d.arg 2 ∧ d.arg 2 ≤ 255) ∧
        (1 ≤ d.arg 3 ∧ d.arg 3 ≤ 255) :=
    ⟨fun h => ⟨h 0, h 1, h 2, h 3⟩, fun ⟨h0, h1, h2, h3⟩ i => by
      fin_cases i
      exacts [h0, h1, h2, h3]⟩
  rw [hfour, Device.timersInRange, decide_eq_true_iff]
  simp only [and_assoc]

end

/-- Settles O9. -/
theorem setLineAndSetTimersWriteTheirSettings : Obligations.SetLineAndSetTimersWriteTheirSettings := by
  refine ⟨fun s h hs h1 => ?_, fun s h line hs h1 => ?_, fun s hs hno => ?_, fun s hs h0 h1 h2 => ?_, fun s hs hno => ?_⟩
  · have hb : parseBinding (s.dev.arg 1) = some none := by rw [h1]; rfl
    exact congrArg s.next (Device.command_ok (inConfig_iff.mpr hs) (setLineBody_ok (d := s.dev.commanded 3) h hb))
  · have hb : parseBinding (s.dev.arg 1) = some (some line) := by rw [h1, parseBinding_line]
    exact congrArg s.next (Device.command_ok (inConfig_iff.mpr hs) (setLineBody_ok (d := s.dev.commanded 3) h hb))
  · exact congrArg s.next (Device.command_failed (inConfig_iff.mpr hs) (setLineBody_failed hno))
  · refine congrArg s.next (Device.command_ok (inConfig_iff.mpr hs) ?_)
    exact if_pos (Device.timersInRange_iff.mpr ⟨h0, h1, h2⟩)
  · refine congrArg s.next (Device.command_failed (inConfig_iff.mpr hs) (if_neg fun h => hno ?_))
    exact Device.timersInRange_iff.mp h

/-! ### Notices and flags (R176, R180, R181, R185) -/

theorem LocalPort.post_room {p : LocalPort} (h : p.queue.length < 32) (n : Notice) :
    p.post n = { p with queue := p.queue ++ [n] } := if_pos h

theorem LocalPort.post_full {p : LocalPort} (h : 32 ≤ p.queue.length) (n : Notice) : p.post n = { p with loss := true } :=
  if_neg (not_lt.mpr h)

theorem Device.noticeLine_iff (d : Device) :
    d.noticeLine = true ↔ d.lport.enable = true ∧ (d.lport.queue ≠ [] ∨ d.lport.loss = true) := by
  simp [Device.noticeLine]

/-- Settles O13. -/
theorem noticesArePostedAndTaken : Obligations.NoticesArePostedAndTaken := by
  refine ⟨fun p n h => LocalPort.post_room h n, fun p n h => LocalPort.post_full h n, ?_, fun s hq => ?_,
    Device.noticeLine_iff⟩
  · intro s n rest hq d
    refine ⟨?_, fun hrest hloss => by simp [Device.noticeLine, d, hrest, hloss]⟩
    refine congrArg s.next (Device.command_ok (e := { s.dev with lport := { s.dev.lport with queue := rest, notice := n.words } })
      (always_accepts _) ?_)
    simp only [takeBody, Device.updLocal_lport, hq]
    rfl
  · refine congrArg s.next (Device.command_failed (always_accepts _) ?_)
    simp only [takeBody, Device.updLocal_lport, hq]

/-- Settles O15. -/
theorem clearFlagsClearsTheThree : Obligations.ClearFlagsClearsTheThree := by
  refine ⟨?_, fun s hs => ?_⟩
  · intro s hs d
    exact ⟨congrArg s.next (Device.command_ok (e := s.dev.clearFlags) (notLeaving_iff.mpr hs) rfl),
      fun hq => by simp [Device.noticeLine, d, hq]⟩
  · exact congrArg s.next (Device.command_refused (by rw [hs]; rfl))

/-! ### LOAD, CLEAR and STOP at rest (R42 to R46) -/

/-- An event byte in range names an event or none. -/
theorem parseEvent_some {b : Nat} (h : b ≤ 31 ∨ b = 255) : parseEvent b = some (eventOf b) := by
  unfold parseEvent eventOf
  split
  next hb => simp [hb]
  next hb =>
    have hlt : b < 32 := by omega
    simp [hlt]

theorem parseEvent_isSome {b : Nat} {e : Option EventNo} (h : parseEvent b = some e) : b ≤ 31 ∨ b = 255 := by
  unfold parseEvent at h
  split at h
  next hb => exact .inr hb
  next =>
    split at h
    next hlt => exact .inl (Nat.le_of_lt_succ hlt)
    next => cases h

section
variable {d : Device}

/-- R42: the checks LOAD makes of its descriptor. -/
def Device.descriptorChecks (d : Device) : Prop :=
  d.argByte 1 0 ≤ 7 ∧ d.argByte 1 0 ≠ d.control.number.val ∧ d.argByte 1 1 ≤ 15 ∧ d.argByte 1 2 ≤ 7 ∧
    d.arg 2 ≤ 16777215 ∧ 1 ≤ d.arg 4 ∧ d.arg 4 ≤ 1048576 ∧ d.arg 3 + d.arg 4 ≤ 4294967296 ∧
    (d.argByte 5 0 ≤ 31 ∨ d.argByte 5 0 = 255) ∧ (d.argByte 5 1 ≤ 31 ∨ d.argByte 5 1 = 255)

theorem Device.parseDescriptor_none (h : ¬d.descriptorChecks) : d.parseDescriptor = none := by
  unfold Device.parseDescriptor
  split
  next landing done hlanding hdone =>
    split
    next hnames =>
      split
      next hranges =>
        obtain ⟨htarget, hwindow, hlevel⟩ := hnames
        obtain ⟨hother, hoffset, hlow, hhigh, hspace⟩ := hranges
        exact absurd ⟨Nat.le_of_lt_succ htarget, hother, Nat.le_of_lt_succ hwindow, Nat.le_of_lt_succ hlevel, hoffset, hlow,
          hhigh, hspace, parseEvent_isSome hlanding, parseEvent_isSome hdone⟩ h
      next => rfl
    next => rfl
  next => rfl

theorem Device.parseDescriptor_some {a : Descriptor} (hchecks : d.descriptorChecks) (htarget : d.argByte 1 0 = a.target.val)
    (hwindow : d.argByte 1 1 = a.window.val) (hlevel : d.argByte 1 2 = a.level.val)
    (hchain : a.chain = decide (d.argByte 1 3 ≠ 0)) (hoffset : d.arg 2 = a.offset)
    (hsource : d.lport.args[(3 : Fin 6)] = a.source) (hlength : d.arg 4 = a.length)
    (hlanding : a.landingEvent = eventOf (d.argByte 5 0)) (hdone : a.doneEvent = eventOf (d.argByte 5 1)) :
    d.parseDescriptor = some a := by
  obtain ⟨h1, h2, h3, h4, h5, h6, h7, h8, h9, h10⟩ := hchecks
  have hnames : d.argByte 1 0 < 8 ∧ d.argByte 1 1 < 16 ∧ d.argByte 1 2 < 8 :=
    ⟨Nat.lt_succ_of_le h1, Nat.lt_succ_of_le h3, Nat.lt_succ_of_le h4⟩
  simp only [Device.parseDescriptor, parseEvent_some h9, parseEvent_some h10]
  rw [dif_pos hnames, if_pos ⟨h2, h5, h6, h7, h8⟩]
  cases a
  simp_all

theorem loadBody_ok {c : ChannelNo} (h : d.arg 0 = c.val) {a : Descriptor} (ha : d.parseDescriptor = some a) :
    loadBody d = (d.updChannel c (·.load a), .ok) := by
  have hlt : d.arg 0 < 8 := h ▸ c.isLt
  have hc : (⟨d.arg 0, hlt⟩ : ChannelNo) = c := Fin.ext h
  simp only [loadBody, hlt, dif_pos, ha, hc]

end

/-- Settles O17. -/
theorem loadStoresADescriptor : Obligations.LoadStoresADescriptor := by
  refine ⟨?_, fun s hs h0 hno => ?_, fun s hs h0 => ?_, fun s hs => ?_⟩
  · intro s c a hs h0 htarget hother hwindow hlevel hchain hoffset hoffmax hsource hlength hlow hhigh hspace hl hlanding
      hd hdone
    have harg : s.dev.arg 3 = a.source.toNat := congrArg BitVec.toNat hsource
    have hchecks : s.dev.descriptorChecks :=
      ⟨htarget ▸ Nat.le_of_lt_succ a.target.isLt, fun h => hother (Fin.ext (htarget.symm.trans h)),
        hwindow ▸ Nat.le_of_lt_succ a.window.isLt, hlevel ▸ Nat.le_of_lt_succ a.level.isLt, hoffset ▸ hoffmax,
        hlength ▸ hlow, hlength ▸ hhigh, by rw [harg, hlength]; exact hspace, hl, hd⟩
    have hparse := Device.parseDescriptor_some (d := s.dev.commanded 8)
      hchecks htarget hwindow hlevel hchain hoffset hsource hlength hlanding hdone
    have hload : exec .load s = s.next (Device.answer (s.dev.updChannel c (·.load a)) 8 .ok) :=
      congrArg s.next (Device.command_ok (notLeaving_iff.mpr hs) (loadBody_ok (d := s.dev.commanded 8) h0 hparse))
    constructor
    · intro hrest ch
      have hidle : s.dev.channels[c].state.inTransfer = false := by rcases hrest with h | h <;> rw [h] <;> rfl
      rw [hload, Device.updChannel, Channel.load_atRest hidle]
    · intro htransfer ch
      rw [hload, Device.updChannel, Channel.load_inTransfer htransfer]
  · refine congrArg s.next (Device.command_failed (notLeaving_iff.mpr hs) ?_)
    have hparse := Device.parseDescriptor_none (d := s.dev.commanded 8) hno
    unfold loadBody
    split
    next => rw [hparse]
    next hge => exact absurd (Nat.lt_succ_of_le h0) hge
  · exact congrArg s.next (Device.command_failed (notLeaving_iff.mpr hs) (dif_neg (not_lt.mpr h0)))
  · exact congrArg s.next (Device.command_refused (by rw [hs]; rfl))

section
variable {d : Device}

theorem clearBody_rest {c : ChannelNo} (h : d.arg 0 = c.val) (hc : d.channels[c].state.inTransfer = false) :
    clearBody d = (d.updChannel c fun ch =>
      { ch with active := none, standby := none, latch := false, state := .empty }, .ok) := by
  have hlt : d.arg 0 < 8 := h ▸ c.isLt
  obtain rfl : (⟨d.arg 0, hlt⟩ : ChannelNo) = c := Fin.ext h
  simp only [clearBody, hlt, dif_pos]
  exact if_neg (Bool.eq_false_iff.mp hc)

theorem clearBody_busy {c : ChannelNo} (h : d.arg 0 = c.val) (hc : d.channels[c].state.inTransfer = true) :
    clearBody d = (d, .busy) := by
  have hlt : d.arg 0 < 8 := h ▸ c.isLt
  obtain rfl : (⟨d.arg 0, hlt⟩ : ChannelNo) = c := Fin.ext h
  simp only [clearBody, hlt, dif_pos]
  exact if_pos hc

theorem stopBody_rest {c : ChannelNo} (h : d.arg 0 = c.val) (hc : d.channels[c].state.inTransfer = false) :
    stopBody d = (d.updChannel c Channel.stopIdle, .ok) := by
  have hlt : d.arg 0 < 8 := h ▸ c.isLt
  obtain rfl : (⟨d.arg 0, hlt⟩ : ChannelNo) = c := Fin.ext h
  simp only [stopBody, hlt, dif_pos]
  exact if_neg (Bool.eq_false_iff.mp hc)

theorem stopBody_transfer {c : ChannelNo} (h : d.arg 0 = c.val) (hc : d.channels[c].state.inTransfer = true) :
    stopBody d = ((d.endTransfer c .aborted none).settle, .ok) := by
  have hlt : d.arg 0 < 8 := h ▸ c.isLt
  obtain rfl : (⟨d.arg 0, hlt⟩ : ChannelNo) = c := Fin.ext h
  simp only [stopBody, hlt, dif_pos]
  exact if_pos hc

/-- R56: the promotion as one record. -/
theorem Channel.promote_eq (ch : Channel) :
    ch.promote = { ch with active := ch.standby, standby := none, state := if ch.standby.isSome then .ready else .empty } := by
  unfold Channel.promote
  cases h : ch.standby with
  | none =>
    cases ch
    simp_all
  | some a => rfl

theorem Channel.stopIdle_ready {ch : Channel} (h : ch.state = .ready) :
    ch.stopIdle = { ch with active := ch.standby, standby := none, latch := false,
                            state := if ch.standby.isSome then .ready else .empty } := by
  simp only [Channel.stopIdle, h, Channel.promote_eq]

theorem Channel.stopIdle_other {ch : Channel} (h : ch.state ≠ .ready) : ch.stopIdle = ch := by
  unfold Channel.stopIdle
  split
  next hr => exact absurd hr h
  all_goals rfl

/-- A change of a channel to what it is. -/
theorem Device.updChannel_eq_self {c : ChannelNo} {f : Channel → Channel} (h : f d.channels[c] = d.channels[c]) :
    d.updChannel c f = d := by
  rw [Device.updChannel, h, Fin.getElem_fin, Vector.set_getElem_self]

end

/-- Settles O18. -/
theorem clearAndStopAtRest : Obligations.ClearAndStopAtRest := by
  refine ⟨fun s c hs h0 => ⟨?_, fun hbusy => ?_, ?_, fun hempty => ?_⟩, fun s hs h0 => ⟨?_, ?_⟩, fun s hs => ⟨?_, ?_⟩⟩
  · intro hrest ch
    have hclear := Device.command_ok (n := 11) (notLeaving_iff.mpr hs)
      (e := s.dev.updChannel c fun ch => { ch with active := none, standby := none, latch := false, state := .empty })
      (clearBody_rest (d := s.dev.commanded 11) h0 hrest)
    exact congrArg s.next hclear
  · exact congrArg s.next (Device.command_failed (notLeaving_iff.mpr hs) (clearBody_busy h0 hbusy))
  · intro hready ch
    have hstop := Device.command_ok (e := s.dev.updChannel c Channel.stopIdle) (n := 10) (notLeaving_iff.mpr hs)
      (stopBody_rest h0 (by rw [Device.updLocal_channels, hready]; rfl))
    refine congrArg s.next (hstop.trans ?_)
    rw [Device.updChannel, Channel.stopIdle_ready hready]
  · have hstop := Device.command_ok (e := s.dev.updChannel c Channel.stopIdle) (n := 10) (notLeaving_iff.mpr hs)
      (stopBody_rest h0 (by rw [Device.updLocal_channels, hempty]; rfl))
    refine congrArg s.next (hstop.trans ?_)
    rw [Device.updChannel_eq_self (Channel.stopIdle_other (by rw [hempty]; decide))]
  · exact congrArg s.next (Device.command_failed (notLeaving_iff.mpr hs) (dif_neg (not_lt.mpr h0)))
  · exact congrArg s.next (Device.command_failed (notLeaving_iff.mpr hs) (dif_neg (not_lt.mpr h0)))
  · exact congrArg s.next (Device.command_refused (by rw [hs]; rfl))
  · exact congrArg s.next (Device.command_refused (by rw [hs]; rfl))

end Sys2Proof.Machine

/-! Starts, STOP, REFUSE, SIGNAL and the signal table: the shared operations of a transfer come to the records `begun`, `latched`
and `ended` (R45, R48 to R53, R64, R149, R152 to R154). -/

namespace Sys2Proof.Machine

/-! ### Commands whose body is an event's work -/

section
variable {d e : Device}

theorem Device.commanded_settle (d : Device) (n : Nat) : (d.commanded n).settle = d.settle.commanded n := d.settle_local _

/-- An accepted command whose body is the work of an event. -/
theorem Device.command_settles {n : Nat} {acc : StationState → Bool} {body : Device → Device × ResultCode} {r : ResultCode}
    (h : acc d.control.state = true) (hb : body (d.commanded n) = ((e.commanded n).settle, r)) :
    d.command n acc body = e.settle.answer n r :=
  Device.command_ok h (hb.trans (by rw [Device.commanded_settle]))

/-- R18: a reset is owed in LEAVING alone. -/
theorem Device.leaveOk.notOwed (h : d.leaveOk) (hs : d.control.state ≠ .leaving) : d.control.owed = false := by
  obtain ⟨-, -, howed⟩ := h
  exact Bool.eq_false_iff.mpr fun ho => hs (howed ho)

/-- A change of COMMAND and a notice that is posted do not meet. -/
theorem LocalPort.post_command (p : LocalPort) (x : BitVec 8) (n : Notice) :
    ({ p with command := x } : LocalPort).post n = { p.post n with command := x } := by
  simp only [LocalPort.post]
  split <;> rfl

theorem Device.commanded_ended (d : Device) (n : Nat) (c : ChannelNo) (a : Descriptor) (o : TransferOutcome) (r : Option Reason) :
    (d.commanded n).ended c a o r = (d.ended c a o r).commanded n := by
  simp only [Device.ended, Device.commanded, Device.updLocal, LocalPort.post_command]
  rfl

/-! ### Starts (R49) -/

section
variable {c : ChannelNo}

theorem Device.tryStart_begins {a : Descriptor} (hs : d.control.state = .joined) (ho : d.control.owed = false)
    (hc : d.channels[c].state = .ready) (ha : d.channels[c].active = some a) : d.tryStart c = some (d.begun c a) := by
  simp only [Device.tryStart, hs, hc, Device.beginTransfer_begun d c a ho ha]

theorem Device.tryStart_latches
    (h : d.control.state = .joined ∧ d.channels[c].state.inTransfer = true ∨
      d.control.state = .joining ∧ d.channels[c].state ≠ .empty) : d.tryStart c = some (d.latched c) := by
  rcases h with ⟨hs, hc⟩ | ⟨hs, hc⟩
  · simp only [Device.tryStart, hs]
    cases hst : d.channels[c].state
    case empty => cases hst ▸ hc
    case ready => cases hst ▸ hc
    all_goals rfl
  · simp only [Device.tryStart, hs]
    cases hst : d.channels[c].state
    case empty => exact absurd hst hc
    all_goals rfl

theorem Device.tryStart_empty (hc : d.channels[c].state = .empty) : d.tryStart c = none := by
  unfold Device.tryStart
  cases d.control.state <;> simp only [hc]

theorem Device.tryStart_offSpan (hs : d.control.state = .config ∨ d.control.state = .leaving) : d.tryStart c = none := by
  rcases hs with hs | hs <;> simp only [Device.tryStart, hs]

/-- R49: a line or signal start is what `startedBy` says, where no reset is owed to a JOINED station. -/
theorem Device.startOrMiss_startedBy (ho : d.control.state = .joined → d.control.owed = false) (c : ChannelNo)
    (cause : MissedCause) : d.startOrMiss c cause = d.startedBy c cause := by
  unfold Device.startOrMiss Device.startedBy
  by_cases hready : d.control.state = .joined ∧ d.channels[c].state = .ready
  · obtain ⟨hs, hc⟩ := hready
    rw [if_pos ⟨hs, hc⟩]
    cases ha : d.channels[c].active with
    | some a => simp only [Device.tryStart_begins hs (ho hs) hc ha]
    | none => simp only [Device.tryStart, hs, hc, Device.beginTransfer, ha]
  · rw [if_neg hready]
    by_cases hlatch : (d.control.state = .joined ∨ d.control.state = .joining) ∧ d.channels[c].state ≠ .empty
    · obtain ⟨hs, hc⟩ := hlatch
      rw [if_pos ⟨hs, hc⟩]
      have hwhich : d.control.state = .joined ∧ d.channels[c].state.inTransfer = true ∨
          d.control.state = .joining ∧ d.channels[c].state ≠ .empty := by
        rcases hs with hs | hs
        · refine .inl ⟨hs, ?_⟩
          cases hst : d.channels[c].state
          case empty => exact absurd hst hc
          case ready => exact absurd ⟨hs, hst⟩ hready
          all_goals rfl
        · exact .inr ⟨hs, hc⟩
      simp only [Device.tryStart_latches hwhich]
    · rw [if_neg hlatch]
      have hnone : d.tryStart c = none := by
        by_cases hc : d.channels[c].state = .empty
        · exact Device.tryStart_empty hc
        · refine Device.tryStart_offSpan ?_
          cases hs : d.control.state
          case config => exact .inl rfl
          case leaving => exact .inr rfl
          case joining => exact absurd ⟨.inr hs, hc⟩ hlatch
          case joined => exact absurd ⟨.inl hs, hc⟩ hlatch
      simp only [hnone]
      rfl

theorem startBody_started (h : d.arg 0 = c.val) (ht : d.tryStart c = some e) : startBody d = (e.settle, .ok) := by
  have hlt : d.arg 0 < 8 := h ▸ c.isLt
  obtain rfl : (⟨d.arg 0, hlt⟩ : ChannelNo) = c := Fin.ext h
  simp only [startBody, hlt, dif_pos, ht]

theorem startBody_empty (h : d.arg 0 = c.val) (ht : d.tryStart c = none) : startBody d = (d, .empty) := by
  have hlt : d.arg 0 < 8 := h ▸ c.isLt
  obtain rfl : (⟨d.arg 0, hlt⟩ : ChannelNo) = c := Fin.ext h
  simp only [startBody, hlt, dif_pos, ht]

end

end

/-- Settles O19. -/
theorem startActsByState : Obligations.StartActsByState := by
  have hspan : ∀ s : State, s.dev.control.state = .joined ∨ s.dev.control.state = .joining →
      onSpan s.dev.control.state = true := fun s hs => onSpan_iff.mpr hs.symm
  refine ⟨fun s c hleave h0 => ⟨fun a hs hc ha => ?_, fun h => ?_, fun hs hc => ?_⟩, fun s hs h0 => ?_⟩
  · have ho := hleave.notOwed (by rw [hs]; decide)
    exact congrArg s.next (Device.command_settles (hspan s (.inl hs))
      (startBody_started (d := s.dev.commanded 9) h0 (Device.tryStart_begins (d := s.dev.commanded 9) hs ho hc ha)))
  · have hs : onSpan s.dev.control.state = true := hspan s (h.imp And.left And.left)
    exact congrArg s.next (Device.command_settles hs
      (startBody_started (d := s.dev.commanded 9) h0 (Device.tryStart_latches (d := s.dev.commanded 9) h)))
  · exact congrArg s.next (Device.command_failed (hspan s hs)
      (startBody_empty (d := s.dev.commanded 9) h0 (Device.tryStart_empty (d := s.dev.commanded 9) hc)))
  · exact congrArg s.next (Device.command_failed (hspan s hs) (dif_neg (not_lt.mpr h0)))

/-! ### STOP and REFUSE (R45, R64) -/

theorem exec_refuseArrives_of_hears {s : State} {x : Station} (hx : s.dev.hears x) (c : ChannelNo) (g : Generation)
    (r : RefuseReason) : exec (.refuseArrives x c g r) s = s.next (s.dev.handleRefuse x c g r).settle :=
  congrArg s.next (Device.arrive_of_hears hx _)

theorem Channel.matchesReply_of_matched {d : Device} {x : Station} {c : ChannelNo} {g : Generation} {a : Descriptor}
    (h : d.matched x c g a) : d.channels[c].matchesReply x g = true := by
  obtain ⟨htransfer, hactive, htarget, hgen⟩ := h
  exact (Channel.matchesReply_iff _ x g).mpr ⟨a, hactive, htransfer, htarget, hgen⟩

theorem Device.matched_of_matchesReply {d : Device} {x : Station} {c : ChannelNo} {g : Generation}
    (h : d.channels[c].matchesReply x g = true) : ∃ a, d.matched x c g a := by
  obtain ⟨a, hactive, htransfer, htarget, hgen⟩ := (Channel.matchesReply_iff _ x g).mp h
  exact ⟨a, htransfer, hactive, htarget, hgen⟩

/-- Settles O20. -/
theorem stopAndRefuseEndTheTransfer : Obligations.StopAndRefuseEndTheTransfer := by
  refine ⟨fun s c a hs h0 hc ha => ?_, fun s x c g r a hx hm => ?_, fun s x c g r hx hserved hno => ?_⟩
  · refine congrArg s.next (Device.command_settles (notLeaving_iff.mpr hs) ?_)
    rw [stopBody_transfer (d := s.dev.commanded 10) h0 hc,
      Device.endTransfer_ended (s.dev.commanded 10) c a .aborted none (by decide) ha, Device.commanded_ended]
    rfl
  · obtain ⟨-, hactive, -⟩ := id hm
    rw [exec_refuseArrives_of_hears hx, Device.handleRefuse, if_pos (Channel.matchesReply_of_matched hm),
      Device.endTransfer_ended s.dev c a .refused (some r) (by decide) hactive]
    rfl
  · have hignored : ¬s.dev.channels[c].matchesReply x g = true := fun h => by
      obtain ⟨a, ha⟩ := Device.matched_of_matchesReply h
      exact hno a ha
    rw [exec_refuseArrives_of_hears hx, Device.handleRefuse, if_neg hignored, Device.settle_served_of_hears hx hserved]
    rfl

/-! ### The SIGNAL command (R149) -/

theorem parseDest_all (own : Station) : parseDest own 15 = some .all := rfl

theorem parseDest_station {own x : Station} (h : x ≠ own) : parseDest own x.val = some (.station x) := by
  have hne : x.val ≠ 15 := by omega
  have hown : x.val ≠ own.val := fun he => h (Fin.ext he)
  simp only [parseDest, hne, if_false, x.isLt, dif_pos, hown]

theorem parseDest_eq_some {own : Station} {t : Nat} {dest : Dest} (h : parseDest own t = some dest) :
    (t ≤ 7 ∨ t = 15) ∧ t ≠ own.val := by
  unfold parseDest at h
  split at h
  next h15 => exact ⟨.inr h15, by have := own.isLt; omega⟩
  next =>
    split at h
    next hlt =>
      split at h
      next => cases h
      next hne => exact ⟨.inl (Nat.le_of_lt_succ hlt), hne⟩
    next => cases h

section
variable {d : Device} {dest : Dest} {e : EventNo}

theorem signalBody_queued (hd : parseDest d.control.number (d.arg 0) = some dest) (he : d.arg 1 = e.val)
    (ha : d.arg 2 ≤ 65535) (hroom : d.span.signalCount < 8) :
    signalBody d = ((d.claimInitiation (· ++ [.signal dest e (BitVec.ofNat 16 (d.arg 2))])).settle, .ok) := by
  have hlt : d.arg 1 < 32 := he ▸ e.isLt
  obtain rfl : (⟨d.arg 1, hlt⟩ : EventNo) = e := Fin.ext he
  simp only [signalBody, hd, hlt, dif_pos, ha, if_true, Config.signalMax, hroom]

theorem signalBody_full (hd : parseDest d.control.number (d.arg 0) = some dest) (he : d.arg 1 = e.val)
    (ha : d.arg 2 ≤ 65535) (hfull : 8 ≤ d.span.signalCount) : signalBody d = (d, .full) := by
  have hlt : d.arg 1 < 32 := he ▸ e.isLt
  simp only [signalBody, hd, hlt, dif_pos, ha, if_true]
  exact if_neg (not_lt.mpr hfull)

theorem signalBody_failed
    (h : ¬((d.arg 0 ≤ 7 ∨ d.arg 0 = 15) ∧ d.arg 0 ≠ d.control.number.val ∧ d.arg 1 ≤ 31 ∧ d.arg 2 ≤ 65535)) :
    signalBody d = (d, .badArgument) := by
  unfold signalBody
  split
  next dest hd =>
    obtain ⟨hrange, hown⟩ := parseDest_eq_some hd
    split
    next hevent => exact if_neg fun harg => h ⟨hrange, hown, Nat.le_of_lt_succ hevent, harg⟩
    next => rfl
  next => rfl

end

/-- Settles O21. -/
theorem signalCommandQueuesAnEntry : Obligations.SignalCommandQueuesAnEntry := by
  refine ⟨fun s dest e hleave hs hdest he ha => ?_, fun s hs hno => ?_, fun s hs => ?_⟩
  · have hparse : parseDest s.dev.control.number (s.dev.arg 0) = some dest := by
      rcases hdest with ⟨h15, rfl⟩ | ⟨x, hx, hown, rfl⟩
      · rw [h15]; exact parseDest_all _
      · rw [hx]; exact parseDest_station hown
    have ho := hleave.notOwed (by rw [hs]; decide)
    refine ⟨fun hroom => ?_, fun hfull => ?_⟩
    · refine congrArg s.next (Device.command_settles (inJoined_iff.mpr hs) ?_)
      rw [signalBody_queued (d := s.dev.commanded 12) hparse he ha hroom, Device.claimInitiation]
      simp only [Device.updLocal_control, ho, Bool.false_eq_true, if_false]
      rfl
    · exact congrArg s.next (Device.command_failed (inJoined_iff.mpr hs)
        (signalBody_full (d := s.dev.commanded 12) hparse he ha hfull))
  · exact congrArg s.next (Device.command_failed (inJoined_iff.mpr hs) (signalBody_failed hno))
  · exact congrArg s.next (Device.command_refused (by simpa [← Bool.not_eq_true, inJoined_iff] using hs))

/-! ### The trigger lines (R48) -/

/-- Two folds agree that agree at each step from where an invariant of the second holds. -/
theorem foldl_eq_of_invariant {α β : Type} {P : β → Prop} {f g : β → α → β} (h : ∀ b a, P b → f b a = g b a)
    (hP : ∀ b a, P b → P (g b a)) (l : List α) {b : β} (hb : P b) : l.foldl f b = l.foldl g b := by
  induction l generalizing b with
  | nil => rfl
  | cons a l ih => rw [List.foldl_cons, List.foldl_cons, h b a hb, ih (hP b a hb)]

theorem Device.startedBy_keeps (d : Device) (c : ChannelNo) (cause : MissedCause) :
    (d.startedBy c cause).control = d.control ∧ (d.startedBy c cause).config = d.config ∧
      (d.startedBy c cause).admission = d.admission ∧ (d.startedBy c cause).halt = d.halt := by
  unfold Device.startedBy
  split
  · split <;> exact ⟨rfl, rfl, rfl, rfl⟩
  · split <;> exact ⟨rfl, rfl, rfl, rfl⟩

theorem Device.lineStarts_startedBy {d : Device} (line : LineNo) (ho : d.control.state = .joined → d.control.owed = false) :
    d.lineStarts line = eight.foldl (fun e c => if d.config.lines[c] = some line then e.startedBy c .line else e) d := by
  refine foldl_eq_of_invariant (P := fun e => e.control = d.control ∧ e.config = d.config) (fun e c h => ?_) (fun e c h => ?_)
    eight ⟨rfl, rfl⟩
  · obtain ⟨hcontrol, hconfig⟩ := h
    rw [hconfig, Device.startOrMiss_startedBy (by rw [hcontrol]; exact ho)]
  · obtain ⟨hcontrol, hconfig⟩ := h
    obtain ⟨h1, h2, -⟩ := e.startedBy_keeps c .line
    split
    · exact ⟨h1.trans hcontrol, h2.trans hconfig⟩
    · exact ⟨hcontrol, hconfig⟩

theorem Device.lineStarts_unbound {d : Device} {line : LineNo} (h : ∀ c : ChannelNo, d.config.lines[c] ≠ some line) :
    d.lineStarts line = d := by
  have hstep : ∀ e c, e = d → (if e.config.lines[c] = some line then e.startOrMiss c .line else e) = e :=
    fun e c he => if_neg (he ▸ h c)
  exact foldl_induction (P := (· = d)) (fun e c he => (hstep e c he).trans he) eight rfl

/-- Settles O26. -/
theorem triggerEdgeStartsBoundChannels : Obligations.TriggerEdgeStartsBoundChannels := by
  refine ⟨fun s line hleave => ?_, fun s line hserved hbound hs => ?_⟩
  · exact congrArg (fun d => s.next d.settle)
      (Device.lineStarts_startedBy line fun hs => hleave.notOwed (by rw [hs]; decide))
  · have hexec : exec (.triggerEdge line) s = s.next (s.dev.lineStarts line).settle := rfl
    rw [hexec, Device.lineStarts_unbound hbound, s.dev.settle_served hserved fun _ hdrained => hs hdrained.1]
    rfl

/-! ### SIGNAL frames and the signal table (R152 to R154) -/

/-- R153: an entry's action, as a notice and a start. -/
theorem SignalAction.notices_iff (a : SignalAction) : a.notices = true ↔ a = .notice ∨ a = .noticeAndStart := by
  cases a <;> decide

theorem SignalAction.starts_iff (a : SignalAction) : a.starts = true ↔ a = .start ∨ a = .noticeAndStart := by
  cases a <;> decide

theorem Device.applySignal_signalled {d : Device} (ho : d.control.state = .joined → d.control.owed = false) (x : Station)
    (cause : SignalCause) (event : EventNo) (argument : BitVec 16) :
    d.applySignal x cause event argument = d.signalled x cause event argument := by
  simp only [Device.applySignal, Device.signalled, SignalAction.notices_iff, SignalAction.starts_iff]
  refine ite_congr rfl (fun _ => ?_) fun _ => rfl
  split
  · exact Device.startOrMiss_startedBy (d := d.post _) ho _ _
  · exact Device.startOrMiss_startedBy ho _ _

theorem exec_signalArrives_of_hears {s : State} {x : Station} (hx : s.dev.hears x) (e : EventNo) (argument : BitVec 16) :
    exec (.signalArrives x e argument) s = s.next (s.dev.handleSignal x e argument).settle :=
  congrArg s.next (Device.arrive_of_hears hx _)

/-- Settles O45. -/
theorem signalFramesApplyTheirEntry : Obligations.SignalFramesApplyTheirEntry := by
  intro s x e argument hx
  obtain ⟨-, howed, -⟩ := id hx
  refine ⟨fun hmask => ?_, fun hmask hserved => ?_⟩
  · rw [exec_signalArrives_of_hears hx, Device.handleSignal, if_pos hmask, Device.applySignal_signalled fun _ => howed]
  · rw [exec_signalArrives_of_hears hx, Device.handleSignal, if_neg (by rw [hmask]; decide),
      Device.settle_served_of_hears hx hserved]
    rfl

end Sys2Proof.Machine

/-! Joining, holding, the halt set and the resets: the operations of Station Control and the Halt Unit come to the records of
Safety.lean (R22 to R37, R160 to R169). -/

namespace Sys2Proof.Machine

section
variable {d : Device}

/-! ### Due flags (R12, R18) -/

theorem Device.makeJoinDue_eq (ho : d.control.owed = false) :
    d.makeJoinDue = { d with span := { d.span with joinDue := true } } := by
  simp only [Device.makeJoinDue, Device.claimDue, ho, Bool.false_eq_true, if_false]
  rfl

theorem Device.makeHaltDue_eq (ho : d.control.owed = false) :
    d.makeHaltDue = { d with span := { d.span with haltDue := true, resumeDue := false } } := by
  simp only [Device.makeHaltDue, Device.claimDue, ho, Bool.false_eq_true, if_false]
  rfl

theorem Device.makeResumeDue_eq (d : Device) :
    d.makeResumeDue =
      { d with span := if d.control.owed then d.span else { d.span with haltDue := false, resumeDue := true } } := by
  unfold Device.makeResumeDue Device.claimDue
  split <;> rfl

/-! ### The halt set (R160 to R165) -/

theorem Device.leaveHalt_of_member {x : Station} (h : d.halt.members[x] = true) (cause : HaltCause) :
    d.leaveHalt x cause =
      { d with
        halt := { d.halt with members := d.halt.members.set x false, lapse := d.halt.lapse.set x none }
        lport :=
          if HaltUnit.halted { d.halt with members := d.halt.members.set x false, lapse := d.halt.lapse.set x none } then d.lport
          else d.lport.post (.haltChange x cause) } := by
  unfold Device.leaveHalt
  rw [if_pos h]
  dsimp only
  split
  next hh => exact congrArg (fun l => Device.mk _ _ _ _ _ _ _ l) (if_pos hh).symm
  next hh => exact congrArg (fun l => Device.mk _ _ _ _ _ _ _ l) (if_neg hh).symm

theorem Device.leaveHalt_of_not_member {x : Station} (h : d.halt.members[x] = false) (cause : HaltCause) :
    d.leaveHalt x cause = d := if_neg (Bool.eq_false_iff.mp h)

theorem Device.enterHalt_eq (d : Device) (x : Station) (cause : HaltCause) :
    d.enterHalt x cause =
      { d with
        halt := { d.halt with members := d.halt.members.set x true }
        lport := if d.halted then d.lport else d.lport.post (.haltChange x cause) } := by
  unfold Device.enterHalt
  split <;> rfl

/-- R160: whether the halt set is empty depends on its members alone. -/
theorem HaltUnit.halted_congr {a b : HaltUnit} (h : a.members = b.members) : a.halted = b.halted := by
  simp only [HaltUnit.halted, h]

theorem Device.beginHold_holdBegun (ho : d.control.owed = false) : d.beginHold = d.holdBegun := by
  unfold Device.beginHold
  rw [Device.enterHalt_eq]
  dsimp only
  rw [Device.makeHaltDue_eq]
  · rfl
  · exact ho

theorem Device.endHold_holdEnded (h : d.halt.members[d.control.number] = true) (cause : HaltCause) :
    d.endHold cause = d.holdEnded cause := by
  unfold Device.endHold
  rw [Device.leaveHalt_of_member h]
  dsimp only
  rw [Device.makeResumeDue_eq]
  rfl

/-- R161: what `updateHold` does, by the requests and by whether the station holds. -/
theorem Device.updateHold_begins (hw : d.wantsHold = true) (hh : d.halt.holding = false) (ho : d.control.owed = false) :
    d.updateHold = d.holdBegun := by
  simp only [Device.updateHold, hw, if_true, hh, Bool.false_eq_true, if_false, Device.beginHold_holdBegun ho]

theorem Device.updateHold_ends (hw : d.wantsHold = false) (hh : d.halt.holding = true)
    (hm : d.halt.members[d.control.number] = true) : d.updateHold = d.holdEnded .release := by
  simp only [Device.updateHold, hw, Bool.false_eq_true, if_false, hh, if_true, Device.endHold_holdEnded hm]

theorem Device.updateHold_same (h : d.wantsHold = d.halt.holding) : d.updateHold = d := by
  unfold Device.updateHold
  rw [h]
  split <;> rfl

theorem Device.wantsHold_joined (hs : d.control.state = .joined) : d.wantsHold = (d.halt.line || d.halt.request) := by
  simp [Device.wantsHold, hs]

theorem Device.wantsHold_elsewhere (hs : d.control.state ≠ .joined) : d.wantsHold = false := by
  simp [Device.wantsHold, hs]

end

/-! ### The JOIN command (R22) -/

/-- Settles O22. -/
theorem joinCommandBeginsJoining : Obligations.JoinCommandBeginsJoining := by
  have hfirst : ∀ s : State, s.dev.leaveOk → s.dev.control.state = .config →
      exec .join s = s.next (Device.answer (Device.settle
        { s.dev with
          control := { s.dev.control with state := .joining, joinCount := 0 }
          span := { s.dev.span with joinDue := true } }) 5 .ok) := fun s hleave hs => by
    have ho := hleave.notOwed (by rw [hs]; decide)
    refine congrArg s.next (Device.command_settles (inConfig_iff.mpr hs) ?_)
    have hdue := Device.makeJoinDue_eq
      (d := (s.dev.commanded 5).updControl fun c => { c with state := .joining, joinCount := 0 }) ho
    exact Prod.ext (congrArg Device.settle hdue) rfl
  refine ⟨hfirst, fun s hleave hs hidle => ?_, fun s hs => ?_⟩
  · obtain ⟨hlane, hreplies, hinit, hjoin, -⟩ := hidle
    refine ⟨_, hfirst s hleave hs, ?_, ?_, ?_⟩
    · simp
    · simp
    · have hspan : s.dev.span = { s.dev.span with joinDue := false } := by rw [← hjoin]
      simp only [Device.settle, Device.reportDrained, Device.chooseFrame, SpanInterface.pickStation, reduceCtorEq, hlane,
        false_and, and_false, if_false, if_true, Device.updPort_span, Device.updSpan_span]
      rw [hspan]
  · exact congrArg s.next (Device.command_refused (by simpa [← Bool.not_eq_true, inConfig_iff] using hs))

/-! ### Holding (R161 to R163) -/

theorem LocalPort.post_command_if (p : LocalPort) (x : BitVec 8) (b : Bool) (n : Notice) :
    (if b then ({ p with command := x } : LocalPort) else ({ p with command := x } : LocalPort).post n) =
      { (if b then p else p.post n) with command := x } := by
  cases b
  · exact p.post_command x n
  · rfl

theorem Device.commanded_holdBegun (d : Device) (n : Nat) : (d.commanded n).holdBegun = d.holdBegun.commanded n :=
  congrArg (fun l => { d.holdBegun with lport := l }) (d.lport.post_command_if (BitVec.ofNat 8 n) d.halted _)

theorem Device.commanded_holdEnded (d : Device) (n : Nat) (cause : HaltCause) :
    (d.commanded n).holdEnded cause = (d.holdEnded cause).commanded n :=
  congrArg (fun l => { d.holdEnded cause with lport := l }) (d.lport.post_command_if (BitVec.ofNat 8 n) _ _)

/-- Settles O25. -/
theorem holdingFollowsTheRequests : Obligations.HoldingFollowsTheRequests := by
  refine ⟨?_, ?_, ?_, fun s level hok hs => ?_, fun s hs => ?_⟩
  · intro s ⟨hleave, hholds, _⟩ hs d
    have ho := hleave.notOwed (by rw [hs]; decide)
    have hwants : (d.commanded 13).wantsHold = true := (Device.wantsHold_joined (d := d.commanded 13) hs).trans (Bool.or_true _)
    have hbody : (d.commanded 13).updateHold = (if s.dev.halt.holding then d else d.holdBegun).commanded 13 := by
      split
      next hh => exact Device.updateHold_same (hwants.trans hh.symm)
      next hh =>
        exact (Device.updateHold_begins hwants (Bool.eq_false_iff.mpr hh) ho).trans (d.commanded_holdBegun 13)
    exact congrArg s.next (Device.command_settles (inJoined_iff.mpr hs) (Prod.ext (congrArg Device.settle hbody) rfl))
  · intro s ⟨hleave, hholds, hmember, _⟩ hs d
    have hwants : (d.commanded 14).wantsHold = s.dev.halt.line :=
      (Device.wantsHold_joined (d := d.commanded 14) hs).trans (Bool.or_false _)
    have hbody : (d.commanded 14).updateHold =
        (if s.dev.halt.holding = true ∧ s.dev.halt.line = false then d.holdEnded .release else d).commanded 14 := by
      split
      next hboth =>
        obtain ⟨hh, hline⟩ := hboth
        exact (Device.updateHold_ends (hwants.trans hline) hh (hmember.trans hh)).trans (d.commanded_holdEnded 14 .release)
      next hno =>
        refine Device.updateHold_same (hwants.trans ?_)
        show s.dev.halt.line = s.dev.halt.holding
        have hor := hholds.trans (Device.wantsHold_joined hs)
        cases hl : s.dev.halt.line
        · exact (Bool.eq_false_iff.mpr fun hh => hno ⟨hh, hl⟩).symm
        · rw [hor, hl, Bool.true_or]
    exact congrArg s.next (Device.command_settles (inJoined_iff.mpr hs) (Prod.ext (congrArg Device.settle hbody) rfl))
  · intro s level ⟨hleave, hholds, hmember, _⟩ hs d
    have ho := hleave.notOwed (by rw [hs]; decide)
    have hwants : d.wantsHold = (level || s.dev.halt.request) := Device.wantsHold_joined hs
    have hor : s.dev.halt.holding = (s.dev.halt.line || s.dev.halt.request) := hholds.trans (Device.wantsHold_joined hs)
    refine ⟨fun hl hh => ?_, fun hl hh hr => ?_, fun h => ?_⟩
    · exact congrArg (fun e : Device => s.next e.settle) (Device.updateHold_begins (d := d) (by rw [hwants, hl, Bool.true_or]) hh ho)
    · exact congrArg (fun e : Device => s.next e.settle)
        (Device.updateHold_ends (d := d) (by rw [hwants, hl, hr, Bool.or_false]) hh (hmember.trans hh))
    · refine congrArg (fun e : Device => s.next e.settle) (Device.updateHold_same (d := d) (hwants.trans ?_))
      show (level || s.dev.halt.request) = s.dev.halt.holding
      rcases h with ⟨hl, hh⟩ | ⟨hl, hh | hr⟩
      · rw [hl, hh, Bool.true_or]
      · rw [hl, hh, Bool.false_or]
        exact (Bool.or_eq_false_iff.mp (hor.symm.trans hh)).2
      · rw [hl, hor, hr, Bool.or_true, Bool.or_true]
  · obtain ⟨-, hholds, -⟩ := hok
    have hidle : s.dev.halt.holding = false := hholds.trans (Device.wantsHold_elsewhere hs)
    have hwants := Device.wantsHold_elsewhere (d := s.dev.updHalt fun h => { h with line := level }) hs
    exact congrArg (fun e : Device => s.next e.settle) (Device.updateHold_same (hwants.trans hidle.symm))
  · have href : inJoined s.dev.control.state = false := by simpa [← Bool.not_eq_true, inJoined_iff] using hs
    exact ⟨congrArg s.next (Device.command_refused href), congrArg s.next (Device.command_refused href)⟩

/-! ### HALT and RESUME of a peer (R160) -/

/-- Settles O47. -/
theorem haltAndResumeOfAPeer : Obligations.HaltAndResumeOfAPeer := by
  intro s x hx lapse
  have hhalt : exec (.haltArrives x) s = s.next (s.dev.haltFrom x).settle := congrArg s.next (Device.arrive_of_hears hx _)
  have hresume : exec (.resumeArrives x) s = s.next (s.dev.leaveHalt x .resume).settle :=
    congrArg s.next (Device.arrive_of_hears hx _)
  refine ⟨fun hm => ?_, fun hm => ?_, ?_, fun hm hserved => ?_⟩
  · rw [hhalt, Device.haltFrom, if_pos hm]
    rfl
  · rw [hhalt, Device.haltFrom, if_neg (Bool.eq_false_iff.mp hm), Device.enterHalt_eq]
    rfl
  · intro hm rest
    rw [hresume, Device.leaveHalt_of_member hm]
  · rw [hresume, Device.leaveHalt_of_not_member hm, Device.settle_served_of_hears hx hserved]
    rfl

/-! ### The timers of the span's housekeeping (R23, R31, R162, R164) -/

/-- Settles O52. -/
theorem housekeepingTimersExpire : Obligations.HousekeepingTimersExpire := by
  refine ⟨fun s hleave hjoin hrun => ?_, fun s x hopen => if_pos hopen, fun s hok hrun => ?_, ?_⟩
  · obtain ⟨-, hjoining⟩ := hjoin
    have ho := hleave.notOwed (by rw [hjoining (.inr hrun)]; decide)
    refine (if_pos hrun).trans (congrArg s.event ?_)
    exact Device.makeJoinDue_eq (d := s.dev.updControl fun c => { c with spacing := none }) ho
  · obtain ⟨hleave, hholds, -, hrepeat, -⟩ := hok
    have hwants : s.dev.wantsHold = true := by rw [← hholds, ← hrepeat, hrun]
    have hs : s.dev.control.state = .joined := by
      by_contra hs
      rw [Device.wantsHold_elsewhere hs] at hwants
      cases hwants
    have ho := hleave.notOwed (by rw [hs]; decide)
    refine (if_pos hrun).trans (congrArg s.event ?_)
    rw [Device.makeHaltDue_eq ho]
    rfl
  · intro s x hok hrun rest
    obtain ⟨-, -, -, -, hown, hlapse, -⟩ := hok
    have hpeer : x ≠ s.dev.control.number := fun he => by
      subst he
      rw [hown] at hrun
      cases hrun
    have hm : s.dev.halt.members[x] = true := (hlapse x hpeer).symm.trans hrun
    refine (if_pos hrun).trans (congrArg s.event ?_)
    exact Device.leaveHalt_of_member hm .lapse

/-! ### RESET_STATION (R18, R35, R36) -/

/-- R36: the peer table after a reset. -/
theorem powerOnPeers_get (number x : Station) :
    (powerOnPeers number)[x] = { presence := if x = number then .self else .absent, window := none } := by
  revert number x
  decide

theorem Device.softReset_channel (d : Device) (c : ChannelNo) :
    d.softReset.channels[c] = Channel.afterReset d.channels[c].generation := by
  simp [Device.softReset]

theorem Device.softReset_isSoftReset (d : Device) : d.softReset.isSoftReset d :=
  ⟨⟨rfl, rfl, rfl, rfl, rfl, rfl, rfl⟩, rfl, rfl, rfl, rfl, rfl, rfl, rfl, powerOnPeers_get d.control.number, rfl,
    d.softReset_channel, ⟨rfl, rfl, rfl, rfl⟩, rfl, rfl, rfl, rfl, rfl, rfl, rfl,
    fun x => Vector.getElem_replicate x.isLt, rfl, rfl⟩

/-- A block after a soft reset has nothing to send and nothing to read or write. -/
theorem Device.softReset_settle (d : Device) : d.softReset.settle = d.softReset := by
  refine d.softReset.settle_served ⟨fun _ => ⟨rfl, rfl, rfl, fun _ _ => ?_⟩, fun _ => ⟨rfl, rfl⟩⟩ fun _ hdrained => by
    cases hdrained.1
  refine Device.readyChannel_eq_none.mpr fun c => Channel.readyBlock_of_not_streaming ?_
  rw [Device.softReset_channel]
  exact nofun

section
variable {d : Device}

theorem Device.endJoining_eq (hj : d.joinOk) :
    d.endJoining = { d with control := { d.control with spacing := none }, span := { d.span with joinDue := false } } := by
  unfold Device.endJoining
  split
  next => rfl
  next hno =>
    obtain ⟨-, hjoining⟩ := hj
    have hspacing : d.control.spacing = none := by
      by_contra h
      exact hno (hjoining (.inr (Option.isSome_iff_ne_none.mpr h)))
    have hdue : d.span.joinDue = false := Bool.eq_false_iff.mpr fun h => hno (hjoining (.inl h))
    rw [← hspacing, ← hdue]

/-- R26 step 3: holding ends with the station's work, and the request is withdrawn. -/
theorem Device.leaveHold_eq (hm : d.halt.holding = true → d.halt.members[d.control.number] = true) :
    d.leaveHold =
      if d.halt.holding then Device.holdEnded { d with halt := { d.halt with request := false } } .leaving
      else { d with halt := { d.halt with request := false } } := by
  unfold Device.leaveHold
  exact ite_congr rfl (fun hh => Device.endHold_holdEnded (d := { d with halt := { d.halt with request := false } })
    (hm hh) .leaving) fun _ => rfl

theorem Device.takeReset_eq (hok : d.haltOk) (hj : d.joinOk) :
    d.takeReset =
      let cleared : Device :=
        { d with
          control := { d.control with state := .leaving, owed := true, spacing := none }
          span := { d.span with replies := [], initiation := [], joinDue := false, haltDue := false,
                                resumeDue := false, leaveDue := true }
          halt := { d.halt with request := false } }
      if d.halt.holding then cleared.holdEnded .leaving else cleared := by
  obtain ⟨-, -, hmember, -⟩ := hok
  unfold Device.takeReset
  rw [Device.endJoining_eq hj]
  exact Device.leaveHold_eq (hmember.trans ·)

theorem Device.resetStation_leaving (hs : d.control.state = .leaving) : d.resetStation = d.takeResetLeaving := by
  simp only [Device.resetStation, hs]

theorem Device.resetStation_onSpan (hs : d.control.state = .joining ∨ d.control.state = .joined) :
    d.resetStation = d.takeReset := by
  rcases hs with hs | hs <;> simp only [Device.resetStation, hs]

end

/-- Settles O24. -/
theorem resetStationByState : Obligations.ResetStationByState := by
  refine ⟨fun s hs => ?_, ?_, fun s hs ho hlane => ?_, fun s hserved hs ho hlane => ?_, fun s hserved hs ho => ?_⟩
  · have hreset := s.dev.softReset_isSoftReset
    refine ⟨{ s with dev := s.dev.softReset }, ?_, rfl, hreset⟩
    have hbody : resetBody (s.dev.commanded 7) = (s.dev.softReset, .ok) := by
      refine Prod.ext ?_ rfl
      have hwork : (s.dev.commanded 7).resetStation = s.dev.softReset := by
        unfold Device.resetStation
        simp only [Device.updLocal_control, hs]
        rfl
      rw [resetBody, hwork, Device.softReset_settle]
    refine congrArg s.next ?_
    simp only [Device.command, Device.updLocal_control, always_accepts, if_true]
    rw [hbody]
    rfl
  · intro s hok hj hs cleared
    have hwork := Device.resetStation_onSpan (d := s.dev.commanded 7) hs
    refine congrArg s.next (Device.command_settles (always_accepts _) (Prod.ext ?_ rfl))
    refine congrArg Device.settle (hwork.trans ((Device.takeReset_eq (d := s.dev.commanded 7) hok hj).trans ?_))
    by_cases hh : s.dev.halt.holding = true
    · exact (if_pos hh).trans ((cleared.commanded_holdEnded 7 .leaving).trans (congrArg (Device.commanded · 7) (if_pos hh).symm))
    · have hpick : (if s.dev.halt.holding then cleared.holdEnded .leaving else cleared) = cleared := if_neg hh
      rw [hpick]
      exact if_neg hh
  · refine congrArg s.next (Device.command_settles (always_accepts _) (Prod.ext (congrArg Device.settle ?_) rfl))
    exact (Device.resetStation_leaving (d := s.dev.commanded 7) hs).trans
      ((if_neg (Bool.eq_false_iff.mp ho)).trans (if_neg (Bool.eq_false_iff.mp hlane)))
  · have hwork : (s.dev.commanded 7).resetStation =
        Device.commanded { s.dev with control := { s.dev.control with owed := true } } 7 :=
      (Device.resetStation_leaving (d := s.dev.commanded 7) hs).trans ((if_neg (Bool.eq_false_iff.mp ho)).trans (if_pos hlane))
    have hbusy : s.dev.span.lane ≠ none := fun hfree => by simp [SpanInterface.leaveOnLane, hfree] at hlane
    have hsettled : Device.settle { s.dev with control := { s.dev.control with owed := true } } =
        { s.dev with control := { s.dev.control with owed := true } } :=
      Device.settle_served _ ⟨fun hfree => absurd hfree hbusy, hserved.2⟩ fun hfree => absurd hfree hbusy
    refine congrArg s.next (Device.command_ok (always_accepts _) (Prod.ext ?_ rfl))
    rw [resetBody, hwork, Device.commanded_settle, hsettled]
  · have hwork : (s.dev.commanded 7).resetStation = s.dev.commanded 7 :=
      (Device.resetStation_leaving (d := s.dev.commanded 7) hs).trans (if_pos ho)
    have hsettled : s.dev.settle = s.dev := s.dev.settle_served hserved fun _ hdrained => by
      obtain ⟨-, hnot, -⟩ := hdrained
      rw [ho] at hnot
      cases hnot
    refine congrArg s.next (Device.command_ok (always_accepts _) (Prod.ext ?_ rfl))
    rw [resetBody, hwork, Device.commanded_settle, hsettled]

/-! ### The completions of a JOIN and of a LEAVE (R23, R28, R36, R52) -/

section
variable {d : Device}

theorem Device.latchReleased_keeps (d : Device) (c : ChannelNo) :
    (d.latchReleased c).control = d.control ∧ (d.latchReleased c).halt = d.halt := by
  unfold Device.latchReleased
  split
  · split <;> exact ⟨rfl, rfl⟩
  · exact ⟨rfl, rfl⟩

theorem Device.releaseLatches_latchReleased (ho : d.control.owed = false) :
    d.releaseLatches = eight.foldl Device.latchReleased d := by
  refine foldl_eq_of_invariant (P := fun e => e.control.owed = false) (fun e c he => ?_) (fun e c he => ?_) eight ho
  · unfold Device.latchReleased
    refine ite_congr rfl (fun _ => ?_) fun _ => rfl
    split
    next a ha => exact Device.beginTransfer_begun e c a he ha
    next hnone => simp only [Device.beginTransfer, hnone]
  · rw [(e.latchReleased_keeps c).1]
    exact he

theorem Device.latchesReleased_keeps (d : Device) :
    (eight.foldl Device.latchReleased d).control = d.control ∧ (eight.foldl Device.latchReleased d).halt = d.halt :=
  ⟨foldl_keeps Device.control _ (fun e c => (e.latchReleased_keeps c).1) _ _,
    foldl_keeps Device.halt _ (fun e c => (e.latchReleased_keeps c).2) _ _⟩

/-- R28: what is left of the peer table. -/
theorem StationControl.forget_peers {c : StationControl} (h : c.peersOk) :
    c.peers.map PeerEntry.forget =
      Vector.ofFn fun x => { presence := if x = c.number then .self else .absent, window := none } := by
  refine Vector.ext fun i hi => ?_
  rw [Vector.getElem_map, Vector.getElem_ofFn]
  have hself : c.peers[i].presence = .self ↔ (⟨i, hi⟩ : Station) = c.number := h ⟨i, hi⟩
  unfold PeerEntry.forget
  split
  next hp => rw [if_pos (hself.mp hp)]
  next hp => rw [if_neg fun he => by rw [hself.mpr he] at hp; cases hp]
  next hp => rw [if_neg fun he => by rw [hself.mpr he] at hp; cases hp]

end

/-- The event of a transmission's completion, by the frame on the lane. -/
theorem exec_joinTransmissionComplete {s : State} (h : s.dev.onLane .join) :
    exec .joinTransmissionComplete s = s.next s.dev.freeLane.countJoin.settle := by
  have hexec : exec .joinTransmissionComplete s = execJoinTransmissionComplete s := rfl
  obtain ⟨f, hlane, hbody⟩ := Option.map_eq_some_iff.mp h
  rw [hexec, execJoinTransmissionComplete, hlane]
  exact if_pos hbody

theorem exec_leaveTransmissionComplete {s : State} (h : s.dev.onLane .leave) :
    exec .leaveTransmissionComplete s =
      s.next (if s.dev.control.owed then s.dev.softReset else s.dev.freeLane.returnToConfig).settle := by
  have hexec : exec .leaveTransmissionComplete s = execLeaveTransmissionComplete s := rfl
  obtain ⟨f, hlane, hbody⟩ := Option.map_eq_some_iff.mp h
  rw [hexec, execLeaveTransmissionComplete, hlane]
  exact if_pos hbody

/-- Settles O48. -/
theorem joinAndLeaveTransmissions : Obligations.JoinAndLeaveTransmissions := by
  refine ⟨fun s hlane hs hcount => ?_, ?_, fun s hlane hs => ?_, ?_, fun s hlane ho => ?_⟩
  · rw [exec_joinTransmissionComplete hlane]
    refine congrArg (fun e : Device => s.next e.settle) ?_
    exact (if_pos hs).trans (if_pos hcount)
  · intro s hlane hs hcount hok joined
    obtain ⟨hleave, hholds, -, -, -, -, hrequest, -⟩ := hok
    have ho := hleave.notOwed (by rw [hs]; decide)
    have hidle : s.dev.halt.holding = false := hholds.trans (Device.wantsHold_elsewhere (by rw [hs]; decide))
    have hnone : s.dev.halt.request = false := Bool.eq_false_iff.mpr fun hr => by
      rw [hrequest hr] at hs
      cases hs
    rw [exec_joinTransmissionComplete hlane]
    refine congrArg (fun e : Device => s.next e.settle) ?_
    have hbecome : s.dev.freeLane.countJoin = joined.updateHold :=
      ((if_pos hs).trans (if_neg (not_lt.mpr hcount))).trans
        (congrArg Device.updateHold (Device.releaseLatches_latchReleased
          (d := ((s.dev.freeLane.updControl fun c => { c with joinCount := c.joinCount + 1 }).updControl
            fun c => { c with state := .joined })) ho))
    obtain ⟨hcontrol, hhalt⟩ : joined.control =
        { s.dev.control with joinCount := s.dev.control.joinCount + 1, state := .joined } ∧ joined.halt = s.dev.halt :=
      Device.latchesReleased_keeps _
    have hstate : joined.control.state = .joined := by rw [hcontrol]
    have hwants : joined.wantsHold = s.dev.halt.line :=
      (Device.wantsHold_joined hstate).trans (by rw [hhalt, hnone, Bool.or_false])
    have hidle' : joined.halt.holding = false := by rw [hhalt, hidle]
    rw [hbecome]
    have howed : joined.control.owed = false := by rw [hcontrol]; exact ho
    by_cases hline : s.dev.halt.line = true
    · rw [if_pos hline, Device.updateHold_begins (d := joined) (hwants.trans hline) hidle' howed]
    · rw [if_neg hline,
        Device.updateHold_same (d := joined) (hwants.trans ((Bool.eq_false_iff.mpr hline).trans hidle'.symm))]
  · rw [exec_joinTransmissionComplete hlane]
    exact congrArg (fun e : Device => s.next e.settle) (if_neg hs)
  · intro s hlane ho hpeers left
    rw [exec_leaveTransmissionComplete hlane, if_neg (Bool.eq_false_iff.mp ho), ← StationControl.forget_peers hpeers]
    refine congrArg (fun e : Device => s.next e.settle) ?_
    have hlast : s.dev.freeLane.halt.lastMember = (eight.filter fun x => s.dev.halt.members[x]).getLast? := rfl
    unfold Device.returnToConfig
    rw [hlast]
    cases (eight.filter fun x => s.dev.halt.members[x]).getLast? <;> rfl
  · refine ⟨{ s with dev := s.dev.softReset }, ?_, rfl, s.dev.softReset_isSoftReset⟩
    rw [exec_leaveTransmissionComplete hlane, if_pos ho, Device.softReset_settle]
    rfl

end Sys2Proof.Machine

/-! The layout of the words of the register window: STATUS, the notice record, the words the read commands return, and the bytes
of a write narrower than a word (R171, R172, R177 to R179, R182). -/

namespace Sys2Proof.Machine

/-! ### Fields of a word -/

section
variable {n : Nat}

theorem ofNat_field (h : n < 2 ^ 32) (s l : Nat) : ((BitVec.ofNat 32 n).extractLsb' s l).toNat = n / 2 ^ s % 2 ^ l := by
  rw [BitVec.extractLsb'_toNat, BitVec.toNat_ofNat, Nat.mod_eq_of_lt h, Nat.shiftRight_eq_div_pow]

theorem ofNat_field_eq (h : n < 2 ^ 32) {s l v : Nat} (hv : n / 2 ^ s % 2 ^ l = v) :
    (BitVec.ofNat 32 n).extractLsb' s l = BitVec.ofNat l v := by
  refine BitVec.eq_of_toNat_eq ?_
  rw [ofNat_field h, ← hv, BitVec.toNat_ofNat, Nat.mod_mod]

theorem ofNat_flag {i : Nat} (hi : i < 32) {b : Bool} (hb : n / 2 ^ i % 2 = b.toNat) : (BitVec.ofNat 32 n).getLsbD i = b := by
  rw [BitVec.getLsbD_ofNat, Nat.testBit_eq_decide_div_mod_eq, hb]
  cases b <;> simp [hi]

theorem packBytes_bytes {b0 b1 b2 b3 : Nat} (h0 : b0 < 256) (h1 : b1 < 256) (h2 : b2 < 256) (h3 : b3 < 256) :
    ((packBytes b0 b1 b2 b3).extractLsb' (8 * 0) 8).toNat = b0 ∧ ((packBytes b0 b1 b2 b3).extractLsb' (8 * 1) 8).toNat = b1 ∧
      ((packBytes b0 b1 b2 b3).extractLsb' (8 * 2) 8).toNat = b2 ∧
      ((packBytes b0 b1 b2 b3).extractLsb' (8 * 3) 8).toNat = b3 := by
  have hlt : b0 + b1 * 2 ^ 8 + b2 * 2 ^ 16 + b3 * 2 ^ 24 < 2 ^ 32 := by omega
  simp only [packBytes, ofNat_field hlt]
  omega

end

/-! ### The notice record (R182, R183) -/

theorem presence_eq (bit : Nat) (f : Option Nat) : presence bit f = f.isSome.toNat * 2 ^ bit := by
  cases f <;> simp [presence]

theorem getD_le {f : Option Nat} {b : Nat} (h : ∀ v ∈ f, v ≤ b) : f.getD 0 ≤ b := by
  cases f with
  | none => exact Nat.zero_le b
  | some v => exact h v rfl

/-- Settles O14: the layout by arithmetic on the fields, the kinds and their codes by the equations of `Notice.words`. -/
theorem noticeRecordLayout : Obligations.NoticeRecordLayout := by
  constructor
  · intro kind station channel window generation outcome reason bytes event argument hkind hs hc hw hg ho hr hb he ha
    have hs := getD_le hs
    have hc := getD_le hc
    have hw := getD_le hw
    have hg := getD_le hg
    have ho := getD_le ho
    have hr := getD_le hr
    have hb := getD_le hb
    have he := getD_le he
    refine ⟨_, _, _, _, rfl, ?_⟩
    simp only [presence_eq]
    have b1 := station.isSome.toNat_le
    have b2 := channel.isSome.toNat_le
    have b3 := window.isSome.toNat_le
    have b4 := generation.isSome.toNat_le
    have b5 := outcome.isSome.toNat_le
    have b6 := reason.isSome.toNat_le
    have b7 := bytes.isSome.toNat_le
    have b8 := event.isSome.toNat_le
    have h0 : kind + station.isSome.toNat * 2 ^ 8 + channel.isSome.toNat * 2 ^ 9 + window.isSome.toNat * 2 ^ 10 +
        generation.isSome.toNat * 2 ^ 11 + outcome.isSome.toNat * 2 ^ 12 + reason.isSome.toNat * 2 ^ 13 +
        bytes.isSome.toNat * 2 ^ 14 + event.isSome.toNat * 2 ^ 15 + station.getD 0 * 2 ^ 16 + channel.getD 0 * 2 ^ 20 +
        window.getD 0 * 2 ^ 24 + generation.getD 0 * 2 ^ 28 < 2 ^ 32 := by omega
    have h1 : outcome.getD 0 + reason.getD 0 * 2 ^ 8 + event.getD 0 * 2 ^ 16 < 2 ^ 32 := by omega
    refine ⟨ofNat_field_eq h0 (by omega), ofNat_field_eq h0 (by omega), ofNat_flag (by decide) (by omega),
      ofNat_flag (by decide) (by omega), ofNat_flag (by decide) (by omega), ofNat_flag (by decide) (by omega),
      ofNat_flag (by decide) (by omega), ofNat_flag (by decide) (by omega), ofNat_flag (by decide) (by omega),
      ofNat_flag (by decide) (by omega), ?_, ?_, ?_, ?_, ?_, ?_, ?_, ofNat_field_eq h1 (by omega), ?_, ?_⟩
    all_goals simp only [ofNat_field h0, ofNat_field h1, BitVec.toNat_ofNat]
    all_goals omega
  · intro refuseCode withdrawCode outcomeCode endingCode endingReason
    have houtcome : ∀ o, outcomeCode o = o.code := fun o => by cases o <;> rfl
    have hrefuse : ∀ r, refuseCode r = Machine.refuseCode r := fun r => by cases r <;> rfl
    have hwithdraw : ∀ r, withdrawCode r = Machine.withdrawCode r := fun r => by cases r <;> rfl
    have hending : ∀ e, endingCode e = e.code := fun e => by cases e <;> rfl
    have hreason : ∀ e, endingReason e = e.reason := fun e => by cases e <;> rfl
    simp only [houtcome, hrefuse, hwithdraw, hending, hreason]
    exact ⟨fun _ _ _ _ _ _ => ⟨rfl, fun _ => rfl, fun _ => rfl⟩, fun _ => ⟨rfl, fun _ _ => rfl, rfl⟩, fun _ _ _ _ _ => rfl,
      fun _ _ _ _ => ⟨rfl, rfl⟩, fun _ _ _ => ⟨rfl, fun _ _ _ => rfl, fun _ _ => rfl⟩, fun _ change => by cases change <;> rfl,
      fun _ cause => by cases cause <;> rfl, fun _ => ⟨rfl, rfl⟩⟩

/-! ### STATUS and the words of the window (R171, R172) -/

theorem StationState.code_le (c : StationState) : c.code ≤ 3 := by cases c <;> decide

theorem getLsbD_masked (b : Bool) (v m : Word) (i : Nat) :
    (if b then v &&& m else 0).getLsbD i = (b && (v.getLsbD i && m.getLsbD i)) := by
  cases b <;> simp

/-- Which bytes the four masks of a write let through. -/
theorem getLsbD_byteMask : ∀ k : Fin 4, ∀ i : Fin 8,
    (0x000000ff : Word).getLsbD (8 * k.val + i.val) = decide (k = 0) ∧
      (0x0000ff00 : Word).getLsbD (8 * k.val + i.val) = decide (k = 1) ∧
      (0x00ff0000 : Word).getLsbD (8 * k.val + i.val) = decide (k = 2) ∧
      (0xff000000 : Word).getLsbD (8 * k.val + i.val) = decide (k = 3) := by
  decide

/-- R171: byte k of the word a write puts into the window. -/
theorem WordWrite.effective_byte (w : WordWrite) (k : Fin 4) :
    w.effective.extractLsb' (8 * k.val) 8 = if w.lanes.getLsbD k.val then w.value.extractLsb' (8 * k.val) 8 else 0 := by
  refine BitVec.eq_of_getLsbD_eq fun i hi => ?_
  obtain ⟨h0, h1, h2, h3⟩ := getLsbD_byteMask k ⟨i, hi⟩
  have hright : (if w.lanes.getLsbD k.val then w.value.extractLsb' (8 * k.val) 8 else 0).getLsbD i =
      (w.lanes.getLsbD k.val && w.value.getLsbD (8 * k.val + i)) := by
    cases w.lanes.getLsbD k.val <;> simp [hi]
  rw [hright]
  simp only [WordWrite.effective, BitVec.getLsbD_extractLsb', hi, decide_true, Bool.true_and, BitVec.getLsbD_or, getLsbD_masked]
  rw [h0, h1, h2, h3]
  fin_cases k <;> simp

theorem WordWrite.effective_zero (w : WordWrite) : w.effective.getLsbD 0 = (w.lanes.getLsbD 0 && w.value.getLsbD 0) := by
  obtain ⟨h0, h1, h2, h3⟩ : (0x000000ff : Word).getLsbD 0 = true ∧ (0x0000ff00 : Word).getLsbD 0 = false ∧
      (0x00ff0000 : Word).getLsbD 0 = false ∧ (0xff000000 : Word).getLsbD 0 = false := by decide
  simp only [WordWrite.effective, BitVec.getLsbD_or, getLsbD_masked]
  rw [h0, h1, h2, h3]
  simp

/-- R173: a number of R173's table is the command's. -/
theorem exec_command_write (s : State) (w : WordWrite) :
    exec (.registerWrite 0 w) s = executeNumber w.commandNumber s ∧ exec (.unknownCommand w) s = executeNumber w.commandNumber s :=
  ⟨rfl, rfl⟩

theorem executeNumber_unknown {n : Nat} (h : n = 0 ∨ 20 < n) (s : State) :
    executeNumber n s = s.next (s.dev.answer n .badArgument) := by
  have hbody := Device.command_failed (d := s.dev) (n := n) (body := fun d => (d, .badArgument)) (always_accepts _) rfl
  unfold executeNumber
  split
  case h_21 => exact congrArg s.next hbody
  all_goals omega

/-- Settles O16. -/
theorem registerWindowReadsAndWrites : Obligations.RegisterWindowReadsAndWrites := by
  refine ⟨?_, fun s w hn => ?_, fun _ _ => rfl, ?_, fun s i w => ?_, fun s word w h7 h13 => ?_, WordWrite.effective_byte, ?_, ?_⟩
  · simp only [List.forall_mem_cons, exec_command_write]
    refine ⟨?_, ?_, ?_, ?_, ?_, ?_, ?_, ?_, ?_, ?_, ?_, ?_, ?_, ?_, ?_, ?_, ?_, ?_, ?_, ?_, fun _ h => absurd h List.not_mem_nil⟩
    all_goals
      intro s w hn
      rw [hn]
      exact ⟨rfl, rfl⟩
  · obtain ⟨hregister, hunknown⟩ := exec_command_write s w
    exact ⟨hunknown.trans (executeNumber_unknown hn s), hregister.trans (executeNumber_unknown hn s)⟩
  · intro s w d
    have henable := WordWrite.effective_zero w
    refine ⟨congrArg (fun b => s.next { s.dev with lport := { s.dev.lport with enable := b } }) henable, ?_⟩
    rw [Device.noticeLine_iff]
    simp [d, and_assoc]
  · fin_cases i <;> rfl
  · have hnot0 : word ≠ 0 := fun h => by subst h; exact absurd h7 (by decide)
    refine (if_neg hnot0).trans ((if_neg h13).trans ?_)
    have harg : argWord word = none := by
      unfold argWord
      split
      case h_7 => rfl
      all_goals omega
    simp only [Device.writeArg, harg]
    rfl
  · intro d hq w
    have hstate := d.control.state.code_le
    have b2 := d.control.owed.toNat_le
    have b3 := d.halted.toNat_le
    have b4 := d.halt.holding.toNat_le
    have b16 := d.lport.loss.toNat_le
    have b17 := d.span.idConflict.toNat_le
    have b18 := d.span.laneMismatch.toNat_le
    have hlt : d.control.state.code + d.control.owed.toNat * 2 ^ 2 + d.halted.toNat * 2 ^ 3 + d.halt.holding.toNat * 2 ^ 4 +
        d.lport.queue.length % 64 * 2 ^ 8 + d.lport.loss.toNat * 2 ^ 16 + d.span.idConflict.toNat * 2 ^ 17 +
        d.span.laneMismatch.toNat * 2 ^ 18 < 2 ^ 32 := by omega
    refine ⟨?_, ofNat_flag (by decide) (by omega), ofNat_flag (by decide) (by omega), ofNat_flag (by decide) (by omega),
      ofNat_field_eq hlt (by omega), (ofNat_field hlt 8 6).trans (by omega), ofNat_field_eq hlt (by omega),
      ofNat_flag (by decide) (by omega), ofNat_flag (by decide) (by omega), ofNat_flag (by decide) (by omega),
      ofNat_field_eq hlt (by omega)⟩
    refine (ofNat_field_eq hlt (v := d.control.state.code) (by omega)).trans ?_
    cases d.control.state <;> rfl
  · intro d
    refine ⟨rfl, fun i => by fin_cases i <;> rfl, ?_, ⟨rfl, rfl, rfl, rfl⟩, rfl, ?_, rfl⟩
    · have hread : d.readWord 7 = BitVec.ofNat 32 d.lport.result.code := rfl
      rw [hread]
      cases d.lport.result <;> rfl
    · have hread : d.readWord 14 = BitVec.ofNat 32 d.control.number.val := rfl
      rw [hread, BitVec.toNat_ofNat]
      omega

/-! ### The read commands (R177 to R179) -/

/-- A read command puts words into ARG0 to ARG5. -/
theorem Device.command_reads {d : Device} {n : Nat} {body : Device → Device × ResultCode} {v : Vector Word 6}
    (hb : body (d.commanded n) = ((d.commanded n).updLocal fun p => { p with args := v }, .ok)) :
    d.command n always body = Device.answer { d with lport := { d.lport with args := v } } n .ok :=
  Device.command_ok (e := d.updLocal fun p => { p with args := v }) (always_accepts _) hb

section
variable {s : State}

theorem exec_readChannel_of {c : ChannelNo} (h : s.dev.arg 0 = c.val) :
    exec .readChannel s =
      s.next (Device.answer { s.dev with lport := { s.dev.lport with args := s.dev.channels[c].words } } 15 .ok) := by
  refine congrArg s.next (Device.command_reads ?_)
  have hlt : s.dev.arg 0 < 8 := h ▸ c.isLt
  obtain rfl : (⟨s.dev.arg 0, hlt⟩ : ChannelNo) = c := Fin.ext h
  exact dif_pos hlt

theorem exec_readWindow_of {w : WindowNo} (h : s.dev.arg 0 = w.val) :
    exec .readWindow s =
      s.next (Device.answer { s.dev with lport := { s.dev.lport with
        args := s.dev.config.windows[w].words s.dev.lport.args[(0 : Fin 6)] } } 17 .ok) := by
  refine congrArg s.next (Device.command_reads ?_)
  have hlt : s.dev.arg 0 < 16 := h ▸ w.isLt
  obtain rfl : (⟨s.dev.arg 0, hlt⟩ : WindowNo) = w := Fin.ext h
  exact dif_pos hlt

theorem exec_readSignal_of {e : EventNo} (h : s.dev.arg 0 = e.val) :
    exec .readSignal s =
      s.next (Device.answer { s.dev with lport := { s.dev.lport with
        args := s.dev.config.signals[e].words s.dev.lport.args[(0 : Fin 6)] } } 18 .ok) := by
  refine congrArg s.next (Device.command_reads ?_)
  have hlt : s.dev.arg 0 < 32 := h ▸ e.isLt
  obtain rfl : (⟨s.dev.arg 0, hlt⟩ : EventNo) = e := Fin.ext h
  exact dif_pos hlt

end

theorem SignalAction.code_le (a : SignalAction) : a.code ≤ 3 := by cases a <;> decide
theorem WindowMode.code_le (m : WindowMode) : m.code ≤ 1 := by cases m <;> decide
theorem ChannelState.code_le (c : ChannelState) : c.code ≤ 6 := by cases c <;> decide
theorem TransferOutcome.code_le (o : TransferOutcome) : o.code ≤ 10 := by cases o <;> decide
theorem Reason.code_le (r : Reason) : r.code ≤ 9 := by
  cases r with
  | refuse r => cases r <;> decide
  | withdraw r => cases r <;> decide

/-- A byte with its zero extension cut off again. -/
theorem extract_zeroExtend (b : BitVec 8) : (b.zeroExtend 32).extractLsb' 0 8 = b := by
  refine BitVec.eq_of_toNat_eq ?_
  have := b.isLt
  simp only [BitVec.extractLsb'_toNat, BitVec.truncate_eq_setWidth, BitVec.toNat_setWidth, Nat.shiftRight_zero]
  omega

theorem toNat_zeroExtend (b : BitVec 8) : (b.zeroExtend 32).toNat = b.toNat := by
  have := b.isLt
  simp only [BitVec.truncate_eq_setWidth, BitVec.toNat_setWidth]
  omega

section
variable {d : Device}

/-- R179: the words of a window table entry, as the ARG words hold them. -/
theorem WindowEntry.words_read {e : WindowEntry} {number : Word} (h : d.lport.args = e.words number) (hs : e.size ≤ 16777216) :
    d.arg 0 = number.toNat ∧ d.lport.args[(1 : Fin 6)] = e.base ∧ d.arg 2 = e.size ∧
      d.lport.args[(3 : Fin 6)] = e.mask.zeroExtend 32 ∧ d.argByte 4 0 = e.enabled.toNat ∧ d.argByte 4 1 = e.mode.code ∧
      d.argByte 4 2 = e.pinned.toNat ∧ d.argByte 4 3 = 0 ∧ d.arg 5 = 0 := by
  have henabled := e.enabled.toNat_le
  have hmode := e.mode.code_le
  have hpinned := e.pinned.toNat_le
  obtain ⟨h0, h1, h2, h3⟩ := packBytes_bytes (b0 := e.enabled.toNat) (b1 := e.mode.code) (b2 := e.pinned.toNat) (b3 := 0)
    (by omega) (by omega) (by omega) (by omega)
  unfold Device.arg Device.argByte
  rw [h]
  exact ⟨rfl, rfl, Nat.mod_eq_of_lt (by omega), rfl, h0, h1, h2, h3, rfl⟩

/-- R179: the words of a signal table entry. -/
theorem SignalEntry.words_read {e : SignalEntry} {number : Word} (h : d.lport.args = e.words number) :
    d.arg 0 = number.toNat ∧ d.arg 1 = e.action.code ∧ d.arg 2 = e.channel.val ∧
      d.lport.args[(3 : Fin 6)] = e.mask.zeroExtend 32 ∧ d.arg 4 = 0 ∧ d.arg 5 = 0 := by
  have haction := e.action.code_le
  have hchannel := e.channel.isLt
  unfold Device.arg
  rw [h]
  exact ⟨rfl, Nat.mod_eq_of_lt (by omega), Nat.mod_eq_of_lt (by omega), rfl, rfl, rfl⟩

/-- R135, R179: SET_WINDOW parses what READ_WINDOW returned as the entry itself. -/
theorem Device.parseWindow_words {e : WindowEntry} {number : Word} (h : d.lport.args = e.words number) (hlegal : e.legal) :
    d.parseWindow = some e := by
  obtain ⟨hbase, hsize, hlow, hhigh, hspace⟩ := hlegal
  obtain ⟨-, h1, h2, h3, henabled, hmode, hpinned, -, -⟩ := WindowEntry.words_read h hhigh
  have harg1 : d.arg 1 = e.base.toNat := congrArg BitVec.toNat h1
  have hchecks : d.windowChecks := by
    refine ⟨?_, ?_, ?_, ?_, ?_, ?_⟩
    · rw [harg1]; exact hbase
    · rw [h2]; exact hsize
    · rw [h2]; exact hlow
    · rw [h2]; exact hhigh
    · rw [harg1, h2]; exact hspace
    · rw [hmode]; exact e.mode.code_le
  rw [Device.parseWindow_some hchecks, henabled, hmode, hpinned, h1, h2, h3, extract_zeroExtend]
  obtain ⟨enabled, base, size, mask, mode, pinned⟩ := e
  cases enabled <;> cases mode <;> cases pinned <;> rfl

/-- R148, R179: SET_SIGNAL parses what READ_SIGNAL returned as the entry itself. -/
theorem Device.parseSignal_words {e : SignalEntry} {number : Word} (h : d.lport.args = e.words number) :
    d.parseSignal = some e := by
  obtain ⟨-, h1, h2, h3, -, -⟩ := SignalEntry.words_read h
  rw [Device.parseSignal_some h1 h2, h3, extract_zeroExtend]

end

section
variable {d : Device}

theorem setWindowBody_writesBack {w : WindowNo} {number : Word} (hnumber : number.toNat = w.val)
    (h : d.lport.args = d.config.windows[w].words number) (hlegal : d.config.windows[w].legal) :
    setWindowBody d = (d, .ok) := by
  have h0 : d.arg 0 = w.val := (congrArg (fun v : Vector Word 6 => v[(0 : Fin 6)].toNat) h).trans hnumber
  have hlt : d.arg 0 < 16 := h0 ▸ w.isLt
  obtain rfl : (⟨d.arg 0, hlt⟩ : WindowNo) = w := Fin.ext h0
  rw [setWindowBody_ok hlt (Device.parseWindow_words h hlegal)]
  have hsame : d.config.windows.set (d.arg 0) d.config.windows[d.arg 0] = d.config.windows := Vector.set_getElem_self ..
  exact congrArg (fun v => ({ d with config := { d.config with windows := v } }, ResultCode.ok)) hsame

theorem setSignalBody_writesBack {e : EventNo} {number : Word} (hnumber : number.toNat = e.val)
    (h : d.lport.args = d.config.signals[e].words number) : setSignalBody d = (d, .ok) := by
  have h0 : d.arg 0 = e.val := (congrArg (fun v : Vector Word 6 => v[(0 : Fin 6)].toNat) h).trans hnumber
  have hlt : d.arg 0 < 32 := h0 ▸ e.isLt
  obtain rfl : (⟨d.arg 0, hlt⟩ : EventNo) = e := Fin.ext h0
  rw [setSignalBody_ok hlt (Device.parseSignal_words h)]
  have hsame : d.config.signals.set (d.arg 0) d.config.signals[d.arg 0] = d.config.signals := Vector.set_getElem_self ..
  exact congrArg (fun v => ({ d with config := { d.config with signals := v } }, ResultCode.ok)) hsame

end

theorem exec_setWindow_unchanged {t : State} (hs : t.dev.control.state = .config)
    (h : setWindowBody (t.dev.commanded 1) = (t.dev.commanded 1, .ok)) :
    exec .setWindow t = .next { t with dev := t.dev.answer 1 .ok } :=
  congrArg t.next (Device.command_failed (inConfig_iff.mpr hs) h)

theorem exec_setSignal_unchanged {t : State} (hs : t.dev.control.state = .config)
    (h : setSignalBody (t.dev.commanded 2) = (t.dev.commanded 2, .ok)) :
    exec .setSignal t = .next { t with dev := t.dev.answer 2 .ok } :=
  congrArg t.next (Device.command_failed (inConfig_iff.mpr hs) h)

/-- Settles O10. -/
theorem readingATableEntry : Obligations.ReadingATableEntry := by
  refine ⟨fun s w h0 hsize => ?_, fun s e h0 => ?_, fun s h0 => ?_, fun s h0 => ?_, fun s t u hs hlegal h0 ht hu => ?_,
    fun s t u hs h0 ht hu => ?_⟩
  · refine ⟨_, exec_readWindow_of h0, rfl, ?_⟩
    obtain ⟨hnumber, hbase, hwide, hmask, hbytes⟩ := WindowEntry.words_read
      (d := Device.answer { s.dev with lport := { s.dev.lport with
        args := s.dev.config.windows[w].words s.dev.lport.args[(0 : Fin 6)] } } 17 .ok) rfl hsize
    exact ⟨hnumber.trans h0, hbase, hwide, (congrArg BitVec.toNat hmask).trans (toNat_zeroExtend _), hbytes⟩
  · refine ⟨_, exec_readSignal_of h0, rfl, ?_⟩
    obtain ⟨hnumber, haction, hchannel, hmask, hrest⟩ := SignalEntry.words_read
      (d := Device.answer { s.dev with lport := { s.dev.lport with
        args := s.dev.config.signals[e].words s.dev.lport.args[(0 : Fin 6)] } } 18 .ok) rfl
    exact ⟨hnumber.trans h0, haction, hchannel, (congrArg BitVec.toNat hmask).trans (toNat_zeroExtend _), hrest⟩
  · exact congrArg s.next (Device.command_failed (always_accepts _) (dif_neg (not_lt.mpr h0)))
  · exact congrArg s.next (Device.command_failed (always_accepts _) (dif_neg (not_lt.mpr h0)))
  · have hlt : s.dev.arg 0 < 16 := Nat.lt_succ_of_le h0
    obtain ⟨hargs, hconfig, hcontrol⟩ : t.dev.lport.args =
        t.dev.config.windows[s.dev.arg 0].words s.dev.lport.args[(0 : Fin 6)] ∧ t.dev.config = s.dev.config ∧
          t.dev.control = s.dev.control := by
      obtain rfl := Host.Outcome.next.inj ((exec_readWindow_of (w := ⟨s.dev.arg 0, hlt⟩) rfl).symm.trans ht)
      exact ⟨rfl, rfl, rfl⟩
    have hset := exec_setWindow_unchanged (t := t) (by rw [hcontrol]; exact hs)
      (setWindowBody_writesBack (d := t.dev.commanded 1) (w := ⟨s.dev.arg 0, hlt⟩) rfl hargs (hconfig ▸ hlegal.1 _))
    obtain rfl := Host.Outcome.next.inj (hset.symm.trans hu)
    exact ⟨hconfig, rfl⟩
  · have hlt : s.dev.arg 0 < 32 := Nat.lt_succ_of_le h0
    obtain ⟨hargs, hconfig, hcontrol⟩ : t.dev.lport.args =
        t.dev.config.signals[s.dev.arg 0].words s.dev.lport.args[(0 : Fin 6)] ∧ t.dev.config = s.dev.config ∧
          t.dev.control = s.dev.control := by
      obtain rfl := Host.Outcome.next.inj ((exec_readSignal_of (e := ⟨s.dev.arg 0, hlt⟩) rfl).symm.trans ht)
      exact ⟨rfl, rfl, rfl⟩
    have hset := exec_setSignal_unchanged (t := t) (by rw [hcontrol]; exact hs)
      (setSignalBody_writesBack (d := t.dev.commanded 2) (e := ⟨s.dev.arg 0, hlt⟩) rfl hargs)
    obtain rfl := Host.Outcome.next.inj (hset.symm.trans hu)
    exact ⟨hconfig, rfl⟩

/-- R177: the words of a channel, as the ARG words hold them. -/
theorem Channel.words_read {d : Device} {ch : Channel} (h : d.lport.args = ch.words) (hcount : ch.countersOk)
    (hrange : ch.rangesOk) :
    (d.argByte 0 0 = ch.state.code ∧ d.argByte 0 1 = ch.generation.val ∧
      d.argByte 0 2 = ch.latch.toNat + 2 * ch.active.isSome.toNat + 4 * ch.standby.isSome.toNat ∧
      d.argByte 0 3 = ch.retry + 16 * ch.sends) ∧
    (d.arg 1 = ch.next ∧ d.arg 2 = ch.accepted ∧ d.arg 3 = ch.limit) ∧
    (d.argByte 4 0 = (match ch.last.outcome with | some o => o.code | none => 0) ∧
      d.argByte 4 1 = (match ch.last.reason with | some r => r.code | none => 0) ∧
      d.argByte 4 2 = ch.last.generation.val ∧ d.argByte 4 3 = 0) ∧
    d.arg 5 = ch.last.bytes := by
  obtain ⟨hretry, hsends, -⟩ := hcount
  obtain ⟨hnext, haccepted, hlimit, -, -, hbytes⟩ := hrange
  simp only [Config.retryMax, Config.offerSends, Config.countMax, Config.lengthMax] at hretry hsends hnext haccepted hlimit hbytes
  have hstate := ch.state.code_le
  have hgen := ch.generation.isLt
  have hlatch := ch.latch.toNat_le
  have hactive := ch.active.isSome.toNat_le
  have hstandby := ch.standby.isSome.toNat_le
  have houtcome : (match ch.last.outcome with | some o => o.code | none => 0) ≤ 10 := by
    cases ch.last.outcome with
    | none => exact Nat.zero_le _
    | some o => exact o.code_le
  have hreason : (match ch.last.reason with | some r => r.code | none => 0) ≤ 9 := by
    cases ch.last.reason with
    | none => exact Nat.zero_le _
    | some r => exact r.code_le
  have hlast := ch.last.generation.isLt
  obtain ⟨a0, a1, a2, a3⟩ := packBytes_bytes (b0 := ch.state.code) (b1 := ch.generation.val)
    (b2 := ch.latch.toNat + ch.active.isSome.toNat * 2 + ch.standby.isSome.toNat * 4)
    (b3 := ch.retry % 16 + ch.sends % 16 * 16) (by omega) (by omega) (by omega) (by omega)
  obtain ⟨l0, l1, l2, l3⟩ := packBytes_bytes (b0 := match ch.last.outcome with | some o => o.code | none => 0)
    (b1 := match ch.last.reason with | some r => r.code | none => 0) (b2 := ch.last.generation.val) (b3 := 0)
    (by omega) (by omega) (by omega) (by omega)
  unfold Device.arg Device.argByte
  rw [h]
  exact ⟨⟨a0, a1, a2.trans (by omega), a3.trans (by omega)⟩,
    ⟨Nat.mod_eq_of_lt (by omega), Nat.mod_eq_of_lt (by omega), Nat.mod_eq_of_lt (by omega)⟩, ⟨l0, l1, l2, l3⟩,
    Nat.mod_eq_of_lt (by omega)⟩

/-- Settles O11. -/
theorem readChannelCopiesTheChannel : Obligations.ReadChannelCopiesTheChannel := by
  refine ⟨fun s c h0 hcount hrange => ?_, fun s h0 => ?_⟩
  · obtain ⟨⟨a0, a1, a2, a3⟩, ⟨h1, h2, h3⟩, ⟨l0, l1, l2, l3⟩, h5⟩ := Channel.words_read
      (d := Device.answer { s.dev with lport := { s.dev.lport with args := s.dev.channels[c].words } } 15 .ok) rfl hcount hrange
    exact ⟨_, exec_readChannel_of h0, rfl, a0, a1, a2, a3, h1, h2, h3, l0, l1, l2, l3, h5⟩
  · exact congrArg s.next (Device.command_failed (always_accepts _) (dif_neg (not_lt.mpr h0)))

/-! ### READ_LANDINGS (R178) -/

/-- R14: a queue with one slot for each channel holds at most eight slots. -/
theorem SpanInterface.slotCount_le {s : SpanInterface} (h : (s.initiation.filterMap InitEntry.slotChannel).Nodup) :
    s.slotCount ≤ 8 := by
  have hcount : s.slotCount = (s.initiation.filterMap InitEntry.slotChannel).length := by
    unfold SpanInterface.slotCount
    induction s.initiation with
    | nil => rfl
    | cons e es ih =>
      cases e with
      | slot c w f => exact congrArg (· + 1) ih
      | signal t e a => exact ih
  rw [hcount]
  exact h.length_le_card

/-- R13: a queue with one frame for each key holds at most sixty-four frames. -/
theorem SpanInterface.replies_le {s : SpanInterface} (h : (s.replies.map Reply.key).Nodup) : s.replies.length ≤ 64 := by
  have hinj : Function.Injective fun k : Key => (k.source, k.channel) := by
    rintro ⟨x, c⟩ ⟨y, e⟩ heq
    cases heq
    rfl
  have hcard := (h.map hinj).length_le_card
  simpa using hcard

/-- Settles O12. -/
theorem readLandingsCopiesTheCounts : Obligations.ReadLandingsCopiesTheCounts := by
  intro s ⟨hlandings, hsuspended, hwaiting, hrecent⟩ hpool ⟨_, hreplies, hslots, _, hsignals⟩
  simp only [Config.landingSlots, Config.suspendedMax, Config.pendingMax] at hlandings hsuspended hwaiting
  simp only [Config.recentMax, Config.signalMax] at hrecent hsignals
  have hactive : s.dev.admission.landings.countP (fun l : Landing => decide (l.phase = .active)) ≤ _ := List.countP_le_length
  have hsettling : s.dev.admission.landings.countP (fun l : Landing => decide (l.phase = .settling)) ≤ _ := List.countP_le_length
  have hslots := SpanInterface.slotCount_le hslots
  have hreplies := SpanInterface.replies_le hreplies
  have hfree : s.dev.free = 32 - (s.dev.holding + s.dev.admission.reserved) := rfl
  obtain ⟨a0, a1, a2, a3⟩ := packBytes_bytes (b0 := s.dev.admission.landings.countP fun l : Landing => decide (l.phase = .active))
    (b1 := s.dev.admission.landings.countP fun l : Landing => decide (l.phase = .settling)) (b2 := s.dev.admission.suspended.length)
    (b3 := s.dev.admission.waiting.length) (by omega) (by omega) (by omega) (by omega)
  obtain ⟨p0, p1, p2, p3⟩ := packBytes_bytes (b0 := s.dev.admission.recent.length) (b1 := s.dev.holding)
    (b2 := s.dev.admission.reserved) (b3 := s.dev.free) (by omega) (by omega) (by omega) (by omega)
  obtain ⟨q0, q1, q2, q3⟩ := packBytes_bytes (b0 := s.dev.span.signalCount) (b1 := s.dev.span.slotCount)
    (b2 := s.dev.span.replies.length) (b3 := 0) (by omega) (by omega) (by omega) (by omega)
  refine ⟨_, congrArg s.next (Device.command_reads (v := s.dev.landingWords) rfl), rfl, ?_⟩
  refine ⟨a0.trans List.countP_eq_length_filter, a1.trans List.countP_eq_length_filter, a2, a3, p0, p1, p2, ?_, q0, q1, q2, q3,
    rfl, rfl, rfl⟩
  refine (congrArg₂ (· + ·) (congrArg₂ (· + ·) p1 p2) p3).trans ?_
  omega

end Sys2Proof.Machine

/-! The machine: when a step stops, what a power-on reset leaves, and what no command or event changes (R1, R21, R37). -/

namespace Sys2Proof.Machine

/-! ### Where a meaning stops (log 3) -/

/-- A meaning is never refused, and stops exactly where p says. -/
def StopsIff (o : Host.Outcome State Fault Refusal) (p : Prop) : Prop :=
  (∀ r, o ≠ .refused r) ∧ ((∃ f, o = .fault f) ↔ p)

theorem stopsIff_next (t : State) : StopsIff (.next t) False := ⟨nofun, ⟨nofun, False.elim⟩⟩

theorem stopsIff_fault (f : Fault) : StopsIff (.fault f) True := ⟨nofun, ⟨fun _ => trivial, fun _ => ⟨f, rfl⟩⟩⟩

theorem StopsIff.congr {o : Host.Outcome State Fault Refusal} {p q : Prop} (h : StopsIff o p) (hpq : p ↔ q) : StopsIff o q :=
  ⟨h.1, h.2.trans hpq⟩

theorem StopsIff.of_not {o : Host.Outcome State Fault Refusal} {p : Prop} (h : StopsIff o False) (hp : ¬p) : StopsIff o p :=
  h.congr ⟨False.elim, hp⟩

theorem StopsIff.of_true {o : Host.Outcome State Fault Refusal} {p : Prop} (h : StopsIff o True) (hp : p) : StopsIff o p :=
  h.congr ⟨fun _ => hp, fun _ => trivial⟩

/-- An event guarded by the condition that it can happen. -/
theorem stopsIff_ite {c p : Prop} [Decidable c] {t : State} {f : Fault} (h : ¬c ↔ p) :
    StopsIff (if c then .next t else .fault f) p := by
  split
  next hc => exact (stopsIff_next t).of_not fun hp => h.mpr hp hc
  next hc => exact (stopsIff_fault f).of_true (h.mp hc)

theorem executeNumber_next (n : Nat) (s : State) : ∃ t, executeNumber n s = .next t := by
  unfold executeNumber
  split <;> exact ⟨_, rfl⟩

theorem executeNumber_stops (n : Nat) (s : State) : StopsIff (executeNumber n s) False := by
  obtain ⟨t, ht⟩ := executeNumber_next n s
  rw [ht]
  exact stopsIff_next t

section
variable (s : State)

theorem execRegisterWrite_stops (word : Fin 16) (w : WordWrite) : StopsIff (execRegisterWrite word w s) False := by
  unfold execRegisterWrite
  split
  · exact executeNumber_stops _ s
  · split <;> exact stopsIff_next _

theorem execFrameDiscard_stops (f : ArrivingFrame) : StopsIff (execFrameDiscard f s) (verdict s.dev f = .deliver) := by
  unfold execFrameDiscard
  split
  next h => exact (stopsIff_next _).of_not (by rw [h]; decide)
  next h => exact (stopsIff_next _).of_not (by rw [h]; decide)
  next h => exact (stopsIff_next _).of_not (by rw [h]; decide)
  next h => exact (stopsIff_fault _).of_true h

theorem execJoinTransmissionComplete_stops :
    StopsIff (execJoinTransmissionComplete s) (¬s.dev.onLane .join) := by
  unfold execJoinTransmissionComplete
  split
  next f hlane => exact stopsIff_ite (not_congr (Device.onLane_iff hlane _).symm)
  next hlane => exact (stopsIff_fault _).of_true (by simp [Device.onLane, hlane])

theorem execLeaveTransmissionComplete_stops :
    StopsIff (execLeaveTransmissionComplete s) (¬s.dev.onLane .leave) := by
  unfold execLeaveTransmissionComplete
  split
  next f hlane => exact stopsIff_ite (not_congr (Device.onLane_iff hlane _).symm)
  next hlane => exact (stopsIff_fault _).of_true (by simp [Device.onLane, hlane])

theorem execFrameTransmissionComplete_stops :
    StopsIff (execFrameTransmissionComplete s) (s.dev.span.lane = none ∨ s.dev.onLane .join ∨ s.dev.onLane .leave) := by
  unfold execFrameTransmissionComplete
  split
  next f hlane =>
    rw [Device.onLane_iff hlane, Device.onLane_iff hlane, hlane]
    split
    next h => exact (stopsIff_fault _).of_true (.inr h)
    next h => exact (stopsIff_next _).of_not fun hor => h (hor.resolve_left nofun)
  next hlane => exact (stopsIff_fault _).of_true (.inl hlane)

theorem Device.transferTimerRuns_iff (d : Device) (t : Timer) :
    ¬d.transferTimerRuns t = true ↔ t = none ∨ d.halted = true := by
  cases t <;> cases h : d.halted <;> simp [Device.transferTimerRuns, h]

theorem execLifetimeExpiry_stops (x : Station) (c : ChannelNo) :
    StopsIff (execLifetimeExpiry x c s) (s.dev.impossible (.lifetimeExpiry x c)) := by
  unfold execLifetimeExpiry Device.impossible
  split
  next e he =>
    refine stopsIff_ite ((s.dev.transferTimerRuns_iff _).trans ⟨fun h e' he' => ?_, fun h => h e he⟩)
    rw [he] at he'
    exact Option.some.inj he' ▸ h
  next hnone => exact (stopsIff_fault _).of_true fun e he => by rw [hnone] at he; cases he

theorem execLandingTimerExpiry_stops (x : Station) (c : ChannelNo) :
    StopsIff (execLandingTimerExpiry x c s) (s.dev.impossible (.landingTimerExpiry x c)) := by
  unfold execLandingTimerExpiry Device.impossible
  split
  next l hl =>
    refine stopsIff_ite ((s.dev.transferTimerRuns_iff _).trans ⟨fun h l' hl' => ?_, fun h => h l hl⟩)
    rw [hl] at hl'
    exact Option.some.inj hl' ▸ h
  next hnone => exact (stopsIff_fault _).of_true fun l hl => by rw [hnone] at hl; cases hl

theorem execReadCompletion_stops (data : List Byte) :
    StopsIff (execReadCompletion data s) (s.dev.impossible (.readCompletion data)) := by
  unfold execReadCompletion Device.impossible
  split
  next r abandoned ha =>
    refine stopsIff_ite ⟨fun h r' abandoned' ha' => ?_, fun h => h r abandoned ha⟩
    rw [ha] at ha'
    cases ha'
    exact h
  next ha => exact (stopsIff_fault _).of_true fun r abandoned ha' => by rw [ha] at ha'; cases ha'
  next ha => exact (stopsIff_fault _).of_true fun r abandoned ha' => by rw [ha] at ha'; cases ha'

theorem execReadError_stops : StopsIff (execReadError s) (s.dev.impossible .readError) := by
  unfold execReadError Device.impossible
  split
  next r abandoned ha => exact (stopsIff_next _).of_not fun h => h r abandoned ha
  next ha => exact (stopsIff_fault _).of_true fun r abandoned ha' => by rw [ha] at ha'; cases ha'
  next ha => exact (stopsIff_fault _).of_true fun r abandoned ha' => by rw [ha] at ha'; cases ha'

theorem execWriteCompletion_stops :
    StopsIff (execWriteCompletion s) (s.dev.port.access ≠ some .write ∨ s.dev.port.writes = []) := by
  unfold execWriteCompletion
  split
  next w ws ha hw => exact (stopsIff_next _).of_not fun h => h.elim (absurd ha) fun h => by rw [h] at hw; cases hw
  next hw => exact (stopsIff_fault _).of_true (.inr hw)
  next ha => exact (stopsIff_fault _).of_true (.inl (by rw [ha]; nofun))
  next ha => exact (stopsIff_fault _).of_true (.inl (by rw [ha]; nofun))

theorem execWriteError_stops :
    StopsIff (execWriteError s) (s.dev.port.access ≠ some .write ∨ s.dev.port.writes = []) := by
  unfold execWriteError
  split
  next w ws ha hw => exact (stopsIff_next _).of_not fun h => h.elim (absurd ha) fun h => by rw [h] at hw; cases hw
  next hw => exact (stopsIff_fault _).of_true (.inr hw)
  next ha => exact (stopsIff_fault _).of_true (.inl (by rw [ha]; nofun))
  next ha => exact (stopsIff_fault _).of_true (.inl (by rw [ha]; nofun))

/-- A timer of a transfer, that runs in the states st alone. -/
theorem stopsIff_transferTimer {d : Device} {st : Prop} [Decidable st] {t : Timer} {e : State} {f : Fault} :
    StopsIff (if st ∧ d.transferTimerRuns t = true then .next e else .fault f) (¬st ∨ t = none ∨ d.halted = true) :=
  stopsIff_ite (not_and_or.trans (or_congr_right (d.transferTimerRuns_iff t)))

theorem stopsIff_timer {t : Timer} {e : State} {f : Fault} : StopsIff (if t.isSome then .next e else .fault f) (t = none) :=
  stopsIff_ite (by simp)

theorem exec_stops (i : Instr) : StopsIff (exec i s) (s.dev.impossible i) := by
  cases i
  case unknownCommand w => exact executeNumber_stops _ s
  case registerWrite word w => exact execRegisterWrite_stops s word w
  case frameDiscard f => exact execFrameDiscard_stops s f
  case joinTransmissionComplete => exact execJoinTransmissionComplete_stops s
  case leaveTransmissionComplete => exact execLeaveTransmissionComplete_stops s
  case frameTransmissionComplete => exact execFrameTransmissionComplete_stops s
  case joinSpacingExpiry => exact stopsIff_timer
  case joinRepeatWindowExpiry x => exact stopsIff_timer
  case offerReplyTimerExpiry c => exact stopsIff_transferTimer
  case streamReplyTimerExpiry c => exact stopsIff_transferTimer.congr (or_congr_left not_or)
  case queueTimerExpiry c => exact stopsIff_transferTimer
  case pauseTimerExpiry c => exact stopsIff_transferTimer
  case lifetimeExpiry x c => exact execLifetimeExpiry_stops s x c
  case landingTimerExpiry x c => exact execLandingTimerExpiry_stops s x c
  case repeatTimerExpiry => exact stopsIff_timer
  case lapseTimerExpiry x => exact stopsIff_timer
  case readCompletion data => exact execReadCompletion_stops s data
  case readError => exact execReadError_stops s
  case writeCompletion => exact execWriteCompletion_stops s
  case writeError => exact execWriteError_stops s
  all_goals exact stopsIff_next _

end

/-- Settles O3. -/
theorem stopsAreImpossibleEvents : Obligations.StopsAreImpossibleEvents :=
  ⟨fun i s => (exec_stops s i).1, fun i s => (exec_stops s i).2⟩

/-! ### What a power-on reset leaves (R37) -/

theorem Device.powerOn_isPowerOn (number : Station) (line : Bool) : (Device.powerOn number line).isPowerOn number line :=
  ⟨⟨rfl, rfl, rfl, rfl, rfl, rfl, rfl⟩, rfl, rfl, rfl, rfl, rfl, rfl, rfl, powerOnPeers_get number,
    fun w => Vector.getElem_replicate w.isLt, fun e => Vector.getElem_replicate e.isLt, fun c => Vector.getElem_replicate c.isLt,
    rfl, rfl, rfl, rfl, rfl, fun c => Vector.getElem_replicate c.isLt, ⟨rfl, rfl, rfl, rfl⟩, rfl, rfl, rfl, rfl, rfl, rfl, rfl,
    fun x => Vector.getElem_replicate x.isLt, rfl, rfl⟩

/-- Settles O2. -/
theorem powerOnResetReturnsEverything : Obligations.PowerOnResetReturnsEverything :=
  ⟨fun number s => ⟨{ s with dev := Device.powerOn number s.dev.halt.line }, rfl, rfl, Device.powerOn_isPowerOn number _⟩, rfl,
    Device.powerOn_isPowerOn 0 false⟩

/-! ### What every other command and event keeps (R1, R21) -/

/-- The station number and the configuration record stand as they were. -/
def Device.holds (d e : Device) : Prop := e.control.number = d.control.number ∧ e.config = d.config

section
variable {d e : Device}

theorem Device.holds_of_keeps (hc : e.control = d.control) (hr : e.config = d.config) : d.holds e :=
  ⟨congrArg StationControl.number hc, hr⟩

theorem Device.holds.trans {g : Device} (h : d.holds e) (h' : e.holds g) : d.holds g :=
  ⟨h'.1.trans h.1, h'.2.trans h.2⟩

theorem Device.setPeer_holds (d : Device) (x : Station) (p : Presence) (t : Timer) : d.holds (d.setPeer x p t) := ⟨rfl, rfl⟩

theorem Device.notePeer_holds (d : Device) (x : Station) : d.holds (d.notePeer x) := by
  unfold Device.notePeer
  split <;> exact ⟨rfl, rfl⟩

theorem Device.Handles.holds {x : Station} (h : d.Handles x e) : d.holds e := by
  cases h <;> exact Device.holds_of_keeps (by simp) (by simp)

theorem Device.handleJoin_holds (d : Device) (x : Station) : d.holds (d.handleJoin x) := by
  unfold Device.handleJoin
  split
  · exact d.notePeer_holds x
  · exact ⟨rfl, rfl⟩
  · exact ⟨by simp [Device.setPeer], by simp⟩
  · exact ⟨rfl, rfl⟩

theorem Device.handleLeave_holds (d : Device) (x : Station) : d.holds (d.handleLeave x) := by
  unfold Device.handleLeave
  split
  · exact ⟨by simp [Device.setPeer], by simp⟩
  · exact ⟨rfl, rfl⟩
  · exact ⟨rfl, rfl⟩

theorem Device.endJoining_holds (d : Device) : d.holds d.endJoining := by
  unfold Device.endJoining
  split <;> exact ⟨rfl, rfl⟩

theorem Device.startLeaving_holds (d : Device) : d.holds d.startLeaving := by
  refine ⟨?_, by simp⟩
  simp only [Device.startLeaving, Device.leaveHold_keeps, Device.leaveLandings_keeps]
  rw [foldl_keeps Device.control _ (by intros; simp)]
  exact d.endJoining_holds.1

theorem Device.resetStation_holds (d : Device) : d.holds d.resetStation := by
  unfold Device.resetStation
  split
  · exact ⟨rfl, rfl⟩
  · exact ⟨by simp [Device.takeReset, d.endJoining_holds.1], by simp⟩
  · exact ⟨by simp [Device.takeReset, d.endJoining_holds.1], by simp⟩
  · refine ⟨?_, by simp⟩
    unfold Device.takeResetLeaving
    dsimp only
    split
    · rfl
    · split <;> rfl

theorem Device.becomeJoined_holds (d : Device) : d.holds d.becomeJoined := ⟨by simp [Device.becomeJoined], by simp⟩

theorem Device.countJoin_holds (d : Device) : d.holds d.countJoin := by
  unfold Device.countJoin
  split
  · dsimp only
    split
    · exact ⟨rfl, rfl⟩
    · exact Device.holds.trans (e := d.updControl fun c => { c with joinCount := c.joinCount + 1 }) ⟨rfl, rfl⟩
        (Device.becomeJoined_holds _)
  · exact ⟨rfl, rfl⟩

theorem Device.returnToConfig_holds (d : Device) : d.holds d.returnToConfig := by
  refine ⟨?_, by simp⟩
  unfold Device.returnToConfig
  dsimp only
  split <;> rfl

theorem Device.Works.holds (h : d.Works e) : d.holds e := by
  cases h
  case start ht =>
    obtain ⟨hcontrol, hconfig, -⟩ := Device.tryStart_keeps ht
    exact Device.holds_of_keeps hcontrol hconfig
  case frame x _ _ h => exact (d.notePeer_holds x).trans h.holds
  case joinFrame x _ _ => exact d.handleJoin_holds x
  case leaveFrame x _ _ => exact d.handleLeave_holds x
  case leave => exact d.startLeaving_holds
  case reset => exact d.resetStation_holds
  case joinSent => exact d.freeLane.countJoin_holds
  case leaveSent => exact d.freeLane.returnToConfig_holds
  case resetSent => exact ⟨rfl, rfl⟩
  case join => exact ⟨by simp, by simp⟩
  case spacing => exact ⟨by simp, by simp⟩
  all_goals exact Device.holds_of_keeps (by simp) (by simp)

theorem Device.Writes.holds (h : d.Writes e) : d.holds e := by
  cases h
  case closeWindow x => exact ⟨rfl, rfl⟩
  all_goals exact Device.holds_of_keeps (by simp) (by simp)

theorem Device.beside_holds (h : d.beside e) : d.holds e := by
  obtain ⟨f, -, rfl⟩ := h
  exact ⟨rfl, rfl⟩

theorem Device.settle_holds (d : Device) : d.holds d.settle := Device.holds_of_keeps (by simp) (by simp)

theorem Device.Configures.number (h : d.Configures e) : e.control.number = d.control.number := by cases h <;> rfl

theorem Device.Leads.holds {sets : Bool} {t : Device} (h : d.Leads sets t) :
    t.control.number = d.control.number ∧ (d.control.state ≠ .config ∨ sets = false → t.config = d.config) := by
  obtain ⟨d', e, hbeside, ⟨hwork, ht⟩ | ⟨hwrite, ht⟩ | ⟨⟨hsets, hstate, hset⟩, ht⟩⟩ := h
  · have hall := ((Device.beside_holds hbeside).trans (hwork.holds.trans e.settle_holds)).trans (Device.beside_holds ht)
    exact ⟨hall.1, fun _ => hall.2⟩
  · have hall := ((Device.beside_holds hbeside).trans hwrite.holds).trans (Device.beside_holds ht)
    exact ⟨hall.1, fun _ => hall.2⟩
  · have hnumber := ((Device.beside_holds ht).1.trans hset.number).trans (Device.beside_holds hbeside).1
    obtain ⟨f, -, rfl⟩ := hbeside
    exact ⟨hnumber, fun hno => hno.elim (absurd hstate) fun h => by rw [hsets] at h; cases h⟩

end

/-- Settles O4: the inversion of `exec` shows the work of every event, and none writes the number or, but for the four SET
commands, the configuration record. -/
theorem queueNumberAndConfigurationAreHeld : Obligations.QueueNumberAndConfigurationAreHeld := by
  refine ⟨fun i s t h => ?_, fun i s t h hpower => ((exec_leads i s hpower) t h).2.holds⟩
  by_cases hi : ∃ n, i = .powerOnReset n
  · obtain ⟨n, rfl⟩ := hi
    obtain rfl := Host.Outcome.next.inj h
    rfl
  · exact (exec_leads i s (not_exists.mp hi) t h).1

end Sys2Proof.Machine

/-! Frames: header, length and CRC (R2 to R7), the receive checks (R8 to R11), and the frames that are delivered (R30). -/

namespace Sys2Proof.Machine

/-! ### Header and length (R3, R4) -/

theorem FrameBody.kindCode_le (b : FrameBody) : 1 ≤ b.kindCode ∧ b.kindCode ≤ 13 := by cases b <;> simp [FrameBody.kindCode]

theorem Dest.code_le (t : Dest) : t.code ≤ 15 := by
  cases t with
  | station x => exact Nat.le_trans (Nat.le_of_lt_succ x.isLt) (by decide)
  | all => exact Nat.le_refl 15

theorem Frame.header_length (f : Frame) : f.header.length = if f.body.transfer.isSome then 3 else 2 := by
  unfold Frame.header
  cases f.body.transfer <;> rfl

theorem Frame.lengthSuits_length (f : Frame)
    (h : ∀ c g number payload, f.body = .block c g number payload → 1 ≤ payload.length ∧ payload.length ≤ 64) :
    lengthSuits f.body.kindCode f.length = true := by
  rw [Frame.length, Frame.header_length]
  cases hb : f.body
  case block c g number payload =>
    obtain ⟨hlow, hhigh⟩ := h c g number payload hb
    simp [lengthSuits, FrameBody.kindCode, FrameBody.transfer, FrameBody.bodyBytes]
    omega
  all_goals rfl

/-! ### The CRC (R7) -/

/-- A bit equal to the register's top bit shifts it out. -/
theorem crcBit_msb (x : BitVec 16) : crcBit x x.msb = x <<< 1 := by simp [crcBit]

theorem crcBit_shifted (x : BitVec 16) : ∀ j < 8, crcBit (x <<< j) ((x.extractLsb' 8 8).getLsbD (7 - j)) = x <<< (j + 1) := by
  intro j hj
  have htop : (x.extractLsb' 8 8).getLsbD (7 - j) = (x <<< j).msb := by
    rw [BitVec.msb_eq_getLsbD_last, BitVec.getLsbD_shiftLeft, BitVec.getLsbD_extractLsb']
    have h1 : 7 - j < 8 := by omega
    have h2 : ¬16 - 1 < j := by omega
    have h3 : 8 + (7 - j) = 16 - 1 - j := by omega
    simp only [h1, h2, h3, decide_true, decide_false, Bool.true_and, Bool.not_false]
    simp
  rw [htop, crcBit_msb, ← BitVec.shiftLeft_add]

/-- The register's own upper byte shifts it out. -/
theorem crcByte_upper (x : BitVec 16) : crcByte x (x.extractLsb' 8 8) = x <<< 8 := by
  have h := crcBit_shifted x
  have h0 := h 0 (by decide)
  rw [BitVec.shiftLeft_zero] at h0
  simp only [crcByte, List.foldl_cons, List.foldl_nil]
  rw [h0, h 1 (by decide), h 2 (by decide), h 3 (by decide), h 4 (by decide), h 5 (by decide), h 6 (by decide), h 7 (by decide)]

theorem crc16_append (bytes rest : List Byte) : crc16 (bytes ++ rest) = rest.foldl crcByte (crc16 bytes) :=
  List.foldl_append

theorem crc16_crcBytes (bytes : List Byte) : crc16 (bytes ++ crcBytes bytes) = 0 := by
  have hlower : (crc16 bytes).extractLsb' 0 8 = (crc16 bytes <<< 8).extractLsb' 8 8 := by
    refine BitVec.eq_of_getLsbD_eq fun i hi => ?_
    rw [BitVec.getLsbD_extractLsb', BitVec.getLsbD_extractLsb', BitVec.getLsbD_shiftLeft]
    have h1 : ¬8 + i < 8 := by omega
    have h2 : 8 + i < 16 := by omega
    simp [h1, h2]
  rw [crc16_append, crcBytes, List.foldl_cons, List.foldl_cons, List.foldl_nil, crcByte_upper, hlower, crcByte_upper,
    ← BitVec.shiftLeft_add]
  exact BitVec.shiftLeft_eq_zero (Nat.le_refl 16)

theorem crcPasses_crcBytes (bytes : List Byte) : crcPasses (bytes ++ crcBytes bytes) = true := by
  have htwo : (crcBytes bytes).length = 2 := rfl
  have hlen : (bytes ++ crcBytes bytes).length = bytes.length + 2 := by rw [List.length_append, htwo]
  simp [crcPasses, hlen]

/-- R7: the check value of the CRC, byte by byte. -/
theorem crc16_check : crc16 [0x31, 0x32, 0x33, 0x34, 0x35, 0x36, 0x37, 0x38, 0x39] = 0x29b1 := by
  have h1 : crcByte 0xffff 0x31 = 0xc782 := by decide
  have h2 : crcByte 0xc782 0x32 = 0x3dba := by decide
  have h3 : crcByte 0x3dba 0x33 = 0x5bce := by decide
  have h4 : crcByte 0x5bce 0x34 = 0x5349 := by decide
  have h5 : crcByte 0x5349 0x35 = 0x4560 := by decide
  have h6 : crcByte 0x4560 0x36 = 0x2ef4 := by decide
  have h7 : crcByte 0x2ef4 0x37 = 0x7718 := by decide
  have h8 : crcByte 0x7718 0x38 = 0xa12b := by decide
  have h9 : crcByte 0xa12b 0x39 = 0x29b1 := by decide
  simp only [crc16, List.foldl_cons, List.foldl_nil, h1, h2, h3, h4, h5, h6, h7, h8, h9]

/-- Settles O28: the header by arithmetic on its bytes, the CRC because its bytes shift the register out. -/
theorem frameHeaderLengthAndCrc : Obligations.FrameHeaderLengthAndCrc := by
  refine ⟨fun f rest => ?_, Frame.lengthSuits_length, crcPasses_crcBytes, crc16_crcBytes, crc16_check⟩
  obtain ⟨-, hkind⟩ := f.body.kindCode_le
  have hsource := f.source.isLt
  have hdest := f.dest.code_le
  have hfirst : (BitVec.ofNat 8 (16 * f.body.kindCode + f.source.val)).toNat = 16 * f.body.kindCode + f.source.val :=
    Nat.mod_eq_of_lt (by omega)
  have hsecond : (BitVec.ofNat 8 (16 * f.dest.code)).toNat = 16 * f.dest.code := Nat.mod_eq_of_lt (by omega)
  have hget0 : (f.header ++ rest).getD 0 0 = BitVec.ofNat 8 (16 * f.body.kindCode + f.source.val) := rfl
  have hget1 : (f.header ++ rest).getD 1 0 = BitVec.ofNat 8 (16 * f.dest.code) := rfl
  refine ⟨?_, ?_, ?_, ?_, ?_, fun c g ht => ?_, fun ht => ?_⟩
  · rw [headerKind, hget0, hfirst]
    omega
  · rw [headerSource, hget0, hfirst]
    omega
  · have hcode : headerTarget (f.header ++ rest) = f.dest.code := by
      rw [headerTarget, hget1, hsecond]
      omega
    rw [hcode]
    cases f.dest <;> rfl
  · have hget : f.header.getD 0 0 = BitVec.ofNat 8 (16 * f.body.kindCode + f.source.val) := rfl
    rw [hget, BitVec.getLsbD_ofNat, Nat.testBit_eq_decide_div_mod_eq]
    have hbit : (16 * f.body.kindCode + f.source.val) / 2 ^ 3 % 2 = 0 := by omega
    rw [hbit]
    rfl
  · have hget : f.header.getD 1 0 = BitVec.ofNat 8 (16 * f.dest.code) := rfl
    refine BitVec.eq_of_toNat_eq ?_
    rw [hget, BitVec.extractLsb'_toNat, hsecond, Nat.shiftRight_zero]
    show 16 * f.dest.code % 2 ^ 4 = 0
    omega
  · refine ⟨by rw [Frame.header_length, ht]; rfl, ?_⟩
    have hc := c.isLt
    have hg := g.isLt
    have hget : f.header.getD 2 0 = BitVec.ofNat 8 (16 * c.val + g.val) := by
      unfold Frame.header
      rw [ht]
      rfl
    have hthird : (BitVec.ofNat 8 (16 * c.val + g.val)).toNat = 16 * c.val + g.val := Nat.mod_eq_of_lt (by omega)
    rw [hget, BitVec.extractLsb'_toNat, BitVec.extractLsb'_toNat, hthird, Nat.shiftRight_eq_div_pow, Nat.shiftRight_zero]
    omega
  · rw [Frame.header_length, ht]
    rfl

/-! ### The receive checks (R8 to R11) -/

theorem StationControl.receiving_iff (c : StationControl) :
    c.receiving = true ↔ (c.state = .joining ∨ c.state = .joined) ∧ c.owed = false := by
  unfold StationControl.receiving
  cases c.state <;> simp

/-- R9 steps 2 and 3: the kinds in use with their lengths. -/
theorem lengthSuits_iff (kind length : Nat) :
    (kindUsed kind && lengthSuits kind length) = true ↔
      (kind, length) ∈
          [(1, 13), (2, 5), (3, 9), (4, 6), (6, 10), (7, 7), (8, 6), (9, 7), (10, 4), (11, 4), (12, 4), (13, 4)] ∨
        kind = 5 ∧ 8 ≤ length ∧ length ≤ 71 := by
  by_cases hk : kind ≤ 13
  · interval_cases kind <;> simp [kindUsed, lengthSuits]
  · have hnot : kindUsed kind = false := by simp [kindUsed, hk]
    rw [hnot, Bool.false_and]
    refine ⟨nofun, fun h => absurd hk (not_not.mpr ?_)⟩
    simp only [List.mem_cons, Prod.mk.injEq, List.not_mem_nil, or_false] at h
    omega

theorem targetSuits_iff (own : Station) (kind target : Nat) :
    targetSuits own kind target = true ↔
      kind ≤ 8 ∧ target = own.val ∨ kind = 9 ∧ (target = own.val ∨ target = 15) ∨ 10 ≤ kind ∧ target = 15 := by
  unfold targetSuits
  split
  next h => simp only [beq_iff_eq]; omega
  next h =>
    split
    next h9 => simp only [Bool.or_eq_true, beq_iff_eq]; omega
    next h9 => simp only [beq_iff_eq]; omega

section
variable {s : State} {f : ArrivingFrame}

theorem exec_frameDiscard_discard (h : verdict s.dev f = .discard) : exec (.frameDiscard f) s = .next s := by
  have hexec : exec (.frameDiscard f) s = execFrameDiscard f s := rfl
  rw [hexec, execFrameDiscard, h]
  rfl

theorem exec_frameDiscard_ownNumber (h : verdict s.dev f = .ownNumber) :
    exec (.frameDiscard f) s = s.next (s.dev.noteOwnNumber f.port) := by
  have hexec : exec (.frameDiscard f) s = execFrameDiscard f s := rfl
  rw [hexec, execFrameDiscard, h]

theorem exec_frameDiscard_laneMismatch (h : verdict s.dev f = .laneMismatch) :
    exec (.frameDiscard f) s = s.next s.dev.noteLaneMismatch := by
  have hexec : exec (.frameDiscard f) s = execFrameDiscard f s := rfl
  rw [hexec, execFrameDiscard, h]

end

/-- R10 step 1 as one record. -/
theorem Device.noteOwnNumber_eq (d : Device) (port : Station) :
    d.noteOwnNumber port =
      { d with
        span := { d.span with idConflict := true }
        lport := if d.span.idConflict then d.lport else d.lport.post (.stationConflict port) } := by
  unfold Device.noteOwnNumber
  dsimp only
  split <;> rfl

/-- Settles O27: the checks of `verdict` one by one. -/
theorem discardedFramesLeaveOnlyFlags : Obligations.DiscardedFramesLeaveOnlyFlags := by
  intro s f kind source target taken sound suited
  have htaken : (!s.dev.control.receiving || f.early) = true ↔ ¬taken := by
    have hbool : ∀ a b : Bool, (!a || b) = true ↔ ¬(a = true ∧ b = false) := by decide
    rw [hbool, StationControl.receiving_iff, and_assoc]
  have hsound : (!integrityPasses f) = true ↔ ¬sound := by
    have hlength := lengthSuits_iff kind f.bytes.length
    rw [Bool.not_eq_true', ← Bool.not_eq_true]
    refine not_congr ?_
    simp only [integrityPasses, Bool.and_eq_true] at hlength ⊢
    exact ⟨fun ⟨⟨⟨hcrc, hused⟩, hsuits⟩, hfields⟩ => ⟨hcrc, hfields, hlength.mp ⟨hused, hsuits⟩⟩,
      fun ⟨hcrc, hfields, hboth⟩ => ⟨⟨⟨hcrc, (hlength.mpr hboth).1⟩, (hlength.mpr hboth).2⟩, hfields⟩⟩
  have hsuited : (!targetSuits s.dev.control.number (headerKind f.bytes) (headerTarget f.bytes)) = true ↔ ¬suited := by
    rw [Bool.not_eq_true', ← Bool.not_eq_true, targetSuits_iff]
    rfl
  have hchecked : taken → sound → verdict s.dev f =
      if source = s.dev.control.number.val then .ownNumber
      else if source ≠ f.port.val then .laneMismatch
      else if !targetSuits s.dev.control.number (headerKind f.bytes) (headerTarget f.bytes) then .discard else .deliver :=
    fun ht hs => (if_neg fun h => htaken.mp h ht).trans (if_neg fun h => hsound.mp h hs)
  refine ⟨fun hno => ?_, fun ht hs hown hflag => ?_, fun ht hs hown hflag => ?_, fun ht hs hown hport => ?_,
    fun ht hs hown hport hno => ?_⟩
  · refine exec_frameDiscard_discard ?_
    by_cases ht : taken
    · exact (if_neg fun h => htaken.mp h ht).trans (if_pos (hsound.mpr fun hs => hno ⟨ht, hs⟩))
    · exact if_pos (htaken.mpr ht)
  · rw [exec_frameDiscard_ownNumber ((hchecked ht hs).trans (if_pos hown)), Device.noteOwnNumber_eq, hflag]
    rfl
  · have hsame : s.dev.span = { s.dev.span with idConflict := true } := by rw [← hflag]
    rw [exec_frameDiscard_ownNumber ((hchecked ht hs).trans (if_pos hown)), Device.noteOwnNumber_eq, ← hsame, hflag]
    rfl
  · rw [exec_frameDiscard_laneMismatch ((hchecked ht hs).trans ((if_neg hown).trans (if_pos hport)))]
    rfl
  · exact exec_frameDiscard_discard ((hchecked ht hs).trans ((if_neg hown).trans
      ((if_neg (not_not.mpr hport)).trans (if_pos (hsuited.mpr hno)))))

/-! ### Delivered frames (R8, R9, R10, R30) -/

/-- The thirteen delivered kinds, by the units that note their source. -/
theorem exec_frame {i : Instr} {x : Station} (h : frameFrom i = some x) :
    (∃ handle : Device → Device, ∀ s, exec i s = s.next (s.dev.arrive x i.wellFormed handle)) ∨
      (i = .joinArrives x ∨ i = .leaveArrives x) ∧ i.wellFormed = true ∧
        ∃ handle : Device → Device, ∀ s, exec i s = s.next (s.dev.arriveControl x handle) := by
  cases i
  case offerArrives => cases h; exact .inl ⟨_, fun _ => rfl⟩
  case waitArrives => cases h; exact .inl ⟨_, fun _ => rfl⟩
  case grantArrives => cases h; exact .inl ⟨_, fun _ => rfl⟩
  case refuseArrives => cases h; exact .inl ⟨_, fun _ => rfl⟩
  case blockArrives => cases h; exact .inl ⟨_, fun _ => rfl⟩
  case receiptArrives => cases h; exact .inl ⟨_, fun _ => rfl⟩
  case pauseArrives => cases h; exact .inl ⟨_, fun _ => rfl⟩
  case withdrawArrives => cases h; exact .inl ⟨_, fun _ => rfl⟩
  case signalArrives => cases h; exact .inl ⟨_, fun _ => rfl⟩
  case haltArrives => cases h; exact .inl ⟨_, fun _ => rfl⟩
  case resumeArrives => cases h; exact .inl ⟨_, fun _ => rfl⟩
  case joinArrives => cases h; exact .inr ⟨.inl rfl, rfl, _, fun _ => rfl⟩
  case leaveArrives => cases h; exact .inr ⟨.inr rfl, rfl, _, fun _ => rfl⟩
  all_goals cases h

section
variable {d : Device} {x : Station} {handle : Device → Device}

theorem Device.arrive_discarded {inRange : Bool} (h : d.control.receiving = false ∨ inRange = false) :
    d.arrive x inRange handle = d := by
  refine if_pos ?_
  rcases h with h | h <;> simp [h]

theorem Device.arrive_own (h : d.control.receiving = true) (hx : x = d.control.number) :
    d.arrive x true handle = d.noteOwnNumber x := by
  simp only [Device.arrive, h, Bool.not_true, Bool.or_self, Bool.false_eq_true, if_false]
  exact if_pos hx

theorem Device.arrive_other (h : d.control.receiving = true) (hx : x ≠ d.control.number) :
    d.arrive x true handle = (handle (d.notePeer x)).settle := by
  simp only [Device.arrive, h, Bool.not_true, Bool.or_self, Bool.false_eq_true, if_false]
  exact if_neg hx

theorem Device.arriveControl_discarded (h : d.control.receiving = false) : d.arriveControl x handle = d := by
  simp [Device.arriveControl, h]

theorem Device.arriveControl_own (h : d.control.receiving = true) (hx : x = d.control.number) :
    d.arriveControl x handle = d.noteOwnNumber x := by
  simp only [Device.arriveControl, h, Bool.not_true, Bool.false_eq_true, if_false]
  exact if_pos hx

theorem Device.arriveControl_other (h : d.control.receiving = true) (hx : x ≠ d.control.number) :
    d.arriveControl x handle = (handle d).settle := by
  simp only [Device.arriveControl, h, Bool.not_true, Bool.false_eq_true, if_false]
  exact if_neg hx

theorem Device.notePeer_absent (h : d.control.peers[x].presence = .absent) : d.notePeer x = d.noted x := by
  simp only [Device.notePeer, h]
  rfl

theorem Device.noted_present (d : Device) (x : Station) : (d.noted x).control.peers[x].presence = .present := by
  have hset : (d.noted x).control.peers[x] = { presence := .present, window := some 3 } := Vector.getElem_set_self _
  rw [hset]

end

/-- Settles O29. -/
theorem framesAreTakenOnTheSpanAlone : Obligations.FramesAreTakenOnTheSpanAlone := by
  intro i x s hi
  refine ⟨fun hoff => ?_, fun hs ho hwell hx => ?_, fun hs ho hwell hx habsent hjoin hleave => ?_⟩
  · have hnot : s.dev.control.receiving = false ∨ i.wellFormed = false := by
      rw [← Bool.not_eq_true s.dev.control.receiving, StationControl.receiving_iff]
      rcases hoff with h | h | h | h
      · simp [h]
      · simp [h]
      · simp [h]
      · exact .inr h
    rcases exec_frame hi with ⟨handle, hexec⟩ | ⟨-, hwell, handle, hexec⟩
    · rw [hexec, Device.arrive_discarded hnot]
      rfl
    · rw [hexec, Device.arriveControl_discarded (hnot.resolve_right (by rw [hwell]; decide))]
      rfl
  · have hreceiving := (StationControl.receiving_iff _).mpr ⟨hs, ho⟩
    rcases exec_frame hi with ⟨handle, hexec⟩ | ⟨-, -, handle, hexec⟩
    · rw [hexec, hwell, Device.arrive_own hreceiving hx, Device.noteOwnNumber_eq]
    · rw [hexec, Device.arriveControl_own hreceiving hx, Device.noteOwnNumber_eq]
  · have hreceiving := (StationControl.receiving_iff _).mpr ⟨hs, ho⟩
    rcases exec_frame hi with ⟨handle, hexec⟩ | ⟨h | h, -⟩
    · rw [hexec, hexec, hwell, Device.arrive_other hreceiving hx, Device.arrive_other (d := s.dev.noted x) hreceiving hx,
        Device.notePeer_absent habsent, Device.notePeer_of_present (s.dev.noted_present x)]
      rfl
    · exact absurd h hjoin
    · exact absurd h hleave

end Sys2Proof.Machine

/-! Fetch buffers and read requests as records (R89, R140, R142), the choices of the lane (R15, R16, R91) and of the memory port
(R141), and the completion of a read (R90, R144). -/

namespace Sys2Proof.Machine

/-! ### Emptying fetch buffers (R140, R142) -/

theorem Vector.ext_two {α : Type} {v w : Vector α 2} (h0 : v[(0 : Fin 2)] = w[(0 : Fin 2)]) (h1 : v[(1 : Fin 2)] = w[(1 : Fin 2)]) :
    v = w := by
  refine Vector.ext fun i hi => ?_
  interval_cases i
  · exact h0
  · exact h1

/-- What happens to the reads that are given up: a request is removed, the read in flight abandoned. -/
def MemoryPort.abandon (p : MemoryPort) (gone : ReadRequest → Bool) : MemoryPort :=
  { p with
    reads := p.reads.filter fun r => !gone r
    access :=
      match p.access with
      | some (.read r ab) => some (.read r (ab || gone r))
      | some .write => some .write
      | none => none }

theorem MemoryPort.abandon_abandon (p : MemoryPort) (f g : ReadRequest → Bool) :
    (p.abandon f).abandon g = p.abandon fun r => f r || g r := by
  simp only [MemoryPort.abandon, MemoryPort.mk.injEq, List.filter_filter, true_and]
  constructor
  · exact List.filter_congr fun r _ => by rw [Bool.not_or, Bool.and_comm]
  · rcases p.access with _ | _ | ⟨r, ab⟩
    · rfl
    · rfl
    · simp only [Bool.or_assoc]

theorem MemoryPort.abandon_congr {p : MemoryPort} {f g : ReadRequest → Bool} (h : ∀ r, f r = g r) : p.abandon f = p.abandon g := by
  rw [funext h]

theorem MemoryPort.abandon_none (p : MemoryPort) : p.abandon (fun _ => false) = p := by
  obtain ⟨writes, reads, access⟩ := p
  simp only [MemoryPort.abandon, MemoryPort.mk.injEq, true_and, Bool.not_false, List.filter_true]
  rcases access with _ | _ | ⟨r, ab⟩
  · rfl
  · rfl
  · simp

/-- A fetch buffer after those that do not pass `keep` are emptied. -/
def FetchBuffer.keptBy (keep : FetchBuffer → Bool) (b : FetchBuffer) : FetchBuffer := if keep b then b else .empty

/-- The reads of a channel's buffers that do not pass `keep`. -/
def Channel.givesUp (ch : Channel) (c : ChannelNo) (keep : FetchBuffer → Bool) (r : ReadRequest) : Bool :=
  decide (r.channel = c) && !keep ch.buffers[r.buffer]

/-- The fetch buffers of channel c read v, and these reads are given up. -/
def Device.rebuffer (d : Device) (c : ChannelNo) (v : Vector FetchBuffer 2) (gone : ReadRequest → Bool) : Device :=
  { d with
    channels := d.channels.set c { d.channels[c] with buffers := v }
    port := d.port.abandon gone }

section
variable (d : Device) (c : ChannelNo) (v w : Vector FetchBuffer 2) (f g : ReadRequest → Bool)

theorem Device.rebuffer_same : (d.rebuffer c v f).channels[c] = { d.channels[c] with buffers := v } :=
  Vector.getElem_set_self _

theorem Device.rebuffer_other {b : ChannelNo} (h : b ≠ c) : (d.rebuffer c v f).channels[b] = d.channels[b] :=
  Vector.getElem_set_ne c.isLt b.isLt fun he => h (Fin.ext he.symm)

theorem Device.rebuffer_rebuffer : (d.rebuffer c v f).rebuffer c w g = d.rebuffer c w fun r => f r || g r := by
  have hsame := d.rebuffer_same c v f
  unfold Device.rebuffer at hsame ⊢
  simp only [hsame, MemoryPort.abandon_abandon, Vector.set_set]

theorem Device.rebuffer_self : d.rebuffer c d.channels[c].buffers (fun _ => false) = d := by
  have hset : d.channels.set c d.channels[c] = d.channels := Vector.set_getElem_self _
  unfold Device.rebuffer
  rw [MemoryPort.abandon_none]
  exact congrArg (fun v => { d with channels := v }) hset

end

theorem Device.emptyBuffer_eq (d : Device) (c : ChannelNo) (b : Fin 2) :
    d.emptyBuffer c b =
      d.rebuffer c (d.channels[c].buffers.set b .empty) fun r => decide (r.channel = c) && decide (r.buffer = b) := rfl

/-- One fetch buffer is emptied unless it passes `keep`. -/
theorem Device.emptyBuffer_unless (d : Device) (c : ChannelNo) (b : Fin 2) (keep : FetchBuffer → Bool) :
    (if keep d.channels[c].buffers[b] then d else d.emptyBuffer c b) =
      d.rebuffer c (d.channels[c].buffers.set b (d.channels[c].buffers[b].keptBy keep)) fun r =>
        (decide (r.channel = c) && decide (r.buffer = b)) && !keep d.channels[c].buffers[b] := by
  unfold FetchBuffer.keptBy
  split
  next h =>
    have hset : d.channels[c].buffers.set b d.channels[c].buffers[b] = d.channels[c].buffers := Vector.set_getElem_self _
    simp only [h, Bool.not_true, Bool.and_false]
    rw [hset, Device.rebuffer_self]
  next h =>
    have hno : keep d.channels[c].buffers[b] = false := Bool.eq_false_iff.mpr h
    simp only [hno, Bool.not_false, Bool.and_true]
    rfl

/-- R140, R142: emptying as one record. -/
theorem Device.emptyBuffers_eq (d : Device) (c : ChannelNo) (keep : FetchBuffer → Bool) :
    d.emptyBuffers c keep =
      d.rebuffer c (d.channels[c].buffers.map (FetchBuffer.keptBy keep)) (d.channels[c].givesUp c keep) := by
  have htwo : ∀ b : Fin 2, b = 0 ∨ b = 1 := by decide
  have hfirst := d.emptyBuffer_unless c 0 keep
  unfold Device.emptyBuffers
  dsimp only
  rw [hfirst, Device.emptyBuffer_unless, Device.rebuffer_rebuffer, Device.rebuffer_same]
  dsimp only
  have hone : (d.channels[c].buffers.set 0 (d.channels[c].buffers[(0 : Fin 2)].keptBy keep))[(1 : Fin 2)] =
      d.channels[c].buffers[(1 : Fin 2)] := Vector.getElem_set_ne _ _ (by decide)
  refine congrArg₂ (d.rebuffer c) ?_ (funext fun r => ?_)
  · refine (congrArg (fun b => Vector.set _ 1 (FetchBuffer.keptBy keep b)) hone).trans (Vector.ext_two ?_ ?_)
    · simp
    · simp
  · obtain ⟨ch, b, block, address, bytes, level⟩ := r
    refine (congrArg (fun x => _ || (_ && !keep x)) hone).trans ?_
    rcases htwo b with rfl | rfl <;> simp [Channel.givesUp]

/-! ### Requesting reads (R89, R140) -/

theorem Channel.emptySlot_some {ch : Channel} {b : Fin 2} (h : ch.emptySlot = some b) : ch.buffers[b] = .empty := by
  unfold Channel.emptySlot at h
  split at h
  next h0 =>
    obtain rfl := Option.some.inj h
    exact h0
  next =>
    split at h
    next h1 =>
      obtain rfl := Option.some.inj h
      exact h1
    next => cases h

theorem Channel.emptySlot_none {ch : Channel} (h : ch.emptySlot = none) (b : Fin 2) : ch.buffers[b] ≠ .empty := by
  unfold Channel.emptySlot at h
  split at h
  next => cases h
  next h0 =>
    split at h
    next => cases h
    next h1 => exact (Fin.forall_fin_two (p := fun b => ch.buffers[b] ≠ .empty)).mpr ⟨h0, h1⟩ b

theorem FetchBuffer.has_iff (b : FetchBuffer) (n : Nat) : b.has n = true ↔ b.blockNo = some n := by
  cases b <;> simp [FetchBuffer.has, FetchBuffer.blockNo]

theorem Vector.any_two {α : Type} (v : Vector α 2) (p : α → Bool) : v.toList.any p = true ↔ ∃ b : Fin 2, p v[b] = true := by
  obtain ⟨⟨l⟩, hl⟩ := v
  match l, hl with
  | [x, y], _ =>
    show ([x, y].any p) = true ↔ _
    rw [Fin.exists_fin_two]
    simp

/-- R140: the request of a block for fetch buffer b of channel c is placed. -/
def Device.requested (d : Device) (c : ChannelNo) (a : Descriptor) (b : Fin 2) (n : Nat) : Device :=
  { d with
    channels := d.channels.set c { d.channels[c] with buffers := d.channels[c].buffers.set b (.fetching n) }
    port := { d.port with reads := d.port.reads ++ [a.request c b n] } }

/-- R89: block n is wanted, is in no buffer, and goes to an empty one. -/
def Channel.lacksBlock (ch : Channel) (a : Descriptor) (b : Fin 2) (n : Nat) : Prop :=
  ch.active = some a ∧ ch.emptySlot = some b ∧ ch.state = .streaming ∧ n < ch.limit ∧ n < blockCount a.length ∧
    ∀ i : Fin 2, ch.buffers[i].blockNo ≠ some n

section
variable {d : Device} {c : ChannelNo} {n : Nat}

theorem Device.requestRead_requested {a : Descriptor} {b : Fin 2} (h : d.channels[c].lacksBlock a b n) :
    d.requestRead c n = d.requested c a b n := by
  obtain ⟨hactive, hslot, hstate, hlimit, hblocks, hnone⟩ := h
  have hany : d.channels[c].buffers.toList.any (FetchBuffer.has n) = false := Bool.eq_false_iff.mpr fun h => by
    obtain ⟨i, hi⟩ := (Vector.any_two _ _).mp h
    exact hnone i ((FetchBuffer.has_iff _ n).mp hi)
  simp only [Device.requestRead, hactive, hslot]
  exact if_pos ⟨hstate, hlimit, hblocks, by rw [hany]; rfl⟩

/-- R89: a request is placed, or the block is not wanted, is there already, or has no room. -/
theorem Device.requestRead_cases (d : Device) (c : ChannelNo) (n : Nat) :
    d.requestRead c n = d ∧ d.channels[c].fetches n ∨
      ∃ a b, d.channels[c].lacksBlock a b n ∧ d.requestRead c n = d.requested c a b n := by
  cases hactive : d.channels[c].active with
  | none =>
    refine .inl ⟨by simp only [Device.requestRead, hactive], fun _ _ hblocks => ?_⟩
    simp only [Channel.blocks, hactive] at hblocks
    omega
  | some a =>
    cases hslot : d.channels[c].emptySlot with
    | none =>
      exact .inl ⟨by simp only [Device.requestRead, hactive, hslot], fun _ _ _ => .inr (Channel.emptySlot_none hslot)⟩
    | some b =>
      by_cases hwant : d.channels[c].state = .streaming ∧ n < d.channels[c].limit ∧ n < blockCount a.length
      · obtain ⟨hstate, hlimit, hblocks⟩ := hwant
        by_cases hhas : ∃ i : Fin 2, d.channels[c].buffers[i].blockNo = some n
        · refine .inl ⟨?_, fun _ _ _ => .inl hhas⟩
          obtain ⟨i, hi⟩ := hhas
          have hany := (Vector.any_two _ _).mpr ⟨i, (FetchBuffer.has_iff _ n).mpr hi⟩
          simp only [Device.requestRead, hactive, hslot, hany, Bool.not_true, Bool.false_eq_true, and_false, if_false]
        · have hlacks : d.channels[c].lacksBlock a b n :=
            ⟨hactive, hslot, hstate, hlimit, hblocks, fun i hi => hhas ⟨i, hi⟩⟩
          exact .inr ⟨a, b, hlacks, Device.requestRead_requested hlacks⟩
      · refine .inl ⟨?_, fun hstate hlimit hblocks => absurd ⟨hstate, hlimit, ?_⟩ hwant⟩
        · simp only [Device.requestRead, hactive, hslot]
          exact if_neg fun h => hwant ⟨h.1, h.2.1, h.2.2.1⟩
        · simpa only [Channel.blocks, hactive] using hblocks

end

/-- What requests do to a channel: an empty buffer may begin to fetch a block that is asked for and covered by credit. -/
def Channel.Asks (want : Nat → Prop) (ch ch' : Channel) : Prop :=
  ch' = { ch with buffers := ch'.buffers } ∧
    ∀ b : Fin 2, ch'.buffers[b] = ch.buffers[b] ∨
      ch.buffers[b] = .empty ∧ ∃ n, want n ∧ n < ch.limit ∧ ch'.buffers[b] = .fetching n

theorem Channel.asks_refl (want : Nat → Prop) (ch : Channel) : ch.Asks want ch := ⟨rfl, fun _ => .inl rfl⟩

theorem Channel.Asks.trans {want : Nat → Prop} {ch ch' ch'' : Channel} (h : ch.Asks want ch') (h' : ch'.Asks want ch'') :
    ch.Asks want ch'' := by
  obtain ⟨heq, hb⟩ := h
  obtain ⟨heq', hb'⟩ := h'
  have hlimit : ch'.limit = ch.limit := by rw [heq]
  refine ⟨by rw [heq', heq], fun b => ?_⟩
  rcases hb' b with hsame | ⟨hempty, n, hn, hl, hf⟩
  · rcases hb b with hsame' | ⟨hempty, n, hn, hl, hf⟩
    · exact .inl (hsame.trans hsame')
    · exact .inr ⟨hempty, n, hn, hl, hsame.trans hf⟩
  · rw [hlimit] at hl
    rcases hb b with hsame' | ⟨-, m, -, -, hf'⟩
    · exact .inr ⟨hsame'.symm.trans hempty, n, hn, hl, hf⟩
    · rw [hf'] at hempty
      cases hempty

section
variable (d : Device) (c : ChannelNo) (n : Nat)

theorem Device.requestRead_asks {want : Nat → Prop} (hn : want n) :
    d.channels[c].Asks want (d.requestRead c n).channels[c] ∧
      (∀ b : ChannelNo, b ≠ c → (d.requestRead c n).channels[b] = d.channels[b]) ∧
      (d.requestRead c n).port.writes = d.port.writes := by
  rcases d.requestRead_cases c n with ⟨heq, -⟩ | ⟨a, b, hlacks, heq⟩
  · rw [heq]
    exact ⟨Channel.asks_refl _ _, fun _ _ => rfl, rfl⟩
  · rw [heq]
    obtain ⟨-, hslot, -, hlimit, -⟩ := hlacks
    have hc : (d.requested c a b n).channels[c] =
        { d.channels[c] with buffers := d.channels[c].buffers.set b (.fetching n) } := Vector.getElem_set_self _
    refine ⟨?_, fun e he => Vector.getElem_set_ne c.isLt e.isLt fun h => he (Fin.ext h.symm), rfl⟩
    rw [hc]
    refine ⟨rfl, fun i => ?_⟩
    by_cases hi : i = b
    · subst hi
      exact .inr ⟨Channel.emptySlot_some hslot, n, hn, hlimit, Vector.getElem_set_self _⟩
    · exact .inl (Vector.getElem_set_ne b.isLt i.isLt fun h => hi (Fin.ext h.symm))

/-- R89: what the requests of the wanted blocks leave as it was. -/
theorem Device.requestReads_asks :
    d.channels[c].Asks (fun n => n = d.channels[c].next ∨ n = d.channels[c].next + 1) (d.requestReads c).channels[c] ∧
      (∀ b : ChannelNo, b ≠ c → (d.requestReads c).channels[b] = d.channels[b]) ∧
      (d.requestReads c).port.writes = d.port.writes := by
  obtain ⟨h1, hother1, hwrites1⟩ := d.requestRead_asks c d.channels[c].next
    (want := fun n => n = d.channels[c].next ∨ n = d.channels[c].next + 1) (.inl rfl)
  obtain ⟨h2, hother2, hwrites2⟩ := (d.requestRead c d.channels[c].next).requestRead_asks c (d.channels[c].next + 1)
    (want := fun n => n = d.channels[c].next ∨ n = d.channels[c].next + 1) (.inr rfl)
  exact ⟨h1.trans h2, fun b hb => (hother2 b hb).trans (hother1 b hb), hwrites2.trans hwrites1⟩

end

/-! ### What a free lane takes (R15, R16, R27) -/

/-- A position that a halted station passes over. -/
theorem InitEntry.next_none_iff {own : Station} {halted : Bool} {e : InitEntry} (h : e.nonEmpty = true) :
    e.next own halted = none ↔ e.isOfferAlone = true ∧ halted = true := by
  rcases e with ⟨c, _ | w, _ | _ | w'⟩ | _ <;> cases halted <;>
    simp_all [InitEntry.next, InitEntry.isOfferAlone, InitEntry.nonEmpty, SlotFrame.isOffer]

theorem InitEntry.nonEmpty_of_isOfferAlone {e : InitEntry} (h : e.isOfferAlone = true) : e.nonEmpty = true := by
  rcases e with ⟨c, _ | w, _ | _ | w'⟩ | _ <;> simp_all [InitEntry.isOfferAlone, InitEntry.nonEmpty]

section
variable {own : Station} {halted : Bool}

theorem pickInitiation_none_iff {q : List InitEntry} :
    pickInitiation own halted q = none ↔ ∀ e ∈ q, e.next own halted = none := by
  induction q with
  | nil => simp [pickInitiation]
  | cons e es ih =>
    rw [List.forall_mem_cons, ← ih]
    simp only [pickInitiation]
    split
    next f hn => simp [hn]
    next f e' hn => simp [hn]
    next hn => simp [hn]

/-- The positions before the first that may be sent are passed over. -/
theorem pickInitiation_append {before : List InitEntry} {e : InitEntry} {after : List InitEntry}
    (h : ∀ m ∈ before, m.next own halted = none) :
    pickInitiation own halted (before ++ e :: after) =
      (e.next own halted).elim ((pickInitiation own halted after).map fun p => (p.1, before ++ e :: p.2))
        fun p => some (p.1, before ++ after ++ p.2.toList) := by
  induction before with
  | nil =>
    simp only [List.nil_append, pickInitiation]
    split
    next f hn => simp [hn]
    next f e' hn => simp [hn]
    next hn => simp [hn]
  | cons m ms ih =>
    obtain ⟨hm, hms⟩ := List.forall_mem_cons.mp h
    simp only [List.cons_append, pickInitiation, hm, ih hms]
    cases e.next own halted with
    | none => simp [Option.map_map, Function.comp_def]
    | some p => rfl

end

section
variable {d : Device}

/-- R27: the LEAVE that the drained report makes due, or that is due already. -/
def Device.leaveComes (d : Device) : Bool := d.span.leaveDue || decide d.drained

theorem Device.reportDrained_eq (hlane : d.span.lane = none) :
    d.reportDrained = { d with span := { d.span with leaveDue := d.leaveComes } } := by
  unfold Device.reportDrained Device.leaveComes
  split
  next h =>
    obtain ⟨-, hreplies, hinit, hstate, howed⟩ := h
    have hdrained : decide d.drained = true := decide_eq_true ⟨hstate, howed, hreplies, hinit⟩
    rw [hdrained, Bool.or_true]
    rfl
  next h =>
    have hdrained : decide d.drained = false := decide_eq_false fun ⟨hstate, howed, hreplies, hinit⟩ =>
      h ⟨hlane, hreplies, hinit, hstate, howed⟩
    rw [hdrained, Bool.or_false]

theorem Device.reportDrained_of_lane (h : d.span.lane ≠ none) : d.reportDrained = d := if_neg fun hall => h hall.1

theorem Device.chooseFrame_of_lane (h : d.span.lane ≠ none) : d.chooseFrame = d := by
  unfold Device.chooseFrame
  split
  next => rfl
  next hnone => exact absurd hnone h

theorem Device.chooseFrame_station {b : FrameBody} {s : SpanInterface} (hlane : d.span.lane = none)
    (h : d.span.pickStation = some (b, s)) :
    d.chooseFrame = { d with span := { s with lane := some { source := d.control.number, dest := .all, body := b } } } := by
  simp only [Device.chooseFrame, hlane, h]
  rfl

theorem Device.chooseFrame_reply {r : Reply} {rs : List Reply} (hlane : d.span.lane = none) (h : d.span.pickStation = none)
    (hr : d.span.replies = r :: rs) :
    d.chooseFrame = { d with span := { d.span with replies := rs, lane := some (r.frame d.control.number) } } := by
  simp only [Device.chooseFrame, hlane, h, hr]
  rfl

theorem Device.chooseFrame_initiation {f : Frame} {q : List InitEntry} (hlane : d.span.lane = none)
    (h : d.span.pickStation = none) (hr : d.span.replies = [])
    (hq : pickInitiation d.control.number d.halted d.span.initiation = some (f, q)) :
    d.chooseFrame = { d with span := { d.span with initiation := q, lane := some f } } := by
  simp only [Device.chooseFrame, hlane, h, hr, hq, Device.updSpan]

theorem Device.chooseFrame_held (hlane : d.span.lane = none) (h : d.span.pickStation = none) (hr : d.span.replies = [])
    (hq : pickInitiation d.control.number d.halted d.span.initiation = none)
    (hidle : d.halted = true ∨ d.control.owed = true ∨ d.readyChannel = none) : d.chooseFrame = d := by
  simp only [Device.chooseFrame, hlane, h, hr, hq]
  split
  next => rfl
  next hrun =>
    have hnone : d.readyChannel = none := by
      rcases hidle with hh | ho | hnone
      · rw [hh, Bool.true_or] at hrun
        exact absurd rfl hrun
      · rw [ho, Bool.or_true] at hrun
        exact absurd rfl hrun
      · exact hnone
    simp only [hnone]

theorem Device.chooseFrame_block {c : ChannelNo} (hlane : d.span.lane = none) (h : d.span.pickStation = none)
    (hr : d.span.replies = []) (hq : pickInitiation d.control.number d.halted d.span.initiation = none)
    (hh : d.halted = false) (ho : d.control.owed = false) (hc : d.readyChannel = some c) : d.chooseFrame = d.sendBlock c := by
  rw [hh] at hq
  simp only [Device.chooseFrame, hlane, h, hr, hq, hh, ho, Bool.or_self, Bool.false_eq_true, if_false, hc]

theorem Device.settle_span (d : Device) : d.settle.span = d.reportDrained.chooseFrame.span := rfl
theorem Device.settle_channels (d : Device) : d.settle.channels = d.reportDrained.chooseFrame.channels := rfl
theorem Device.settle_port (d : Device) : d.settle.port = d.reportDrained.chooseFrame.port.issue := rfl

/-- With no LEAVE to come the drained report changes nothing. -/
theorem Device.reportDrained_quiet (h : d.leaveComes = false) : d.reportDrained = d := by
  unfold Device.reportDrained
  obtain ⟨-, hdrained⟩ := Bool.or_eq_false_iff.mp h
  exact if_neg fun ⟨_, hreplies, hinit, hstate, howed⟩ => of_decide_eq_false hdrained ⟨hstate, howed, hreplies, hinit⟩

theorem SpanInterface.pickStation_quiet {s : SpanInterface} (hj : s.joinDue = false) (hh : s.haltDue = false)
    (hr : s.resumeDue = false) (hl : s.leaveDue = false) : s.pickStation = none :=
  SpanInterface.pickStation_eq_none.mpr ⟨hj, hh, hr, hl⟩

end

/-- Settles O49: the arbiter's choice, branch by branch. -/
theorem laneArbiterTakesTheFirstFrame : Obligations.LaneArbiterTakesTheFirstFrame := by
  refine ⟨fun s f hlane hjoin hleave => ?_, fun d f hlane => ?_, ?_⟩
  · have hexec : exec .frameTransmissionComplete s = execFrameTransmissionComplete s := rfl
    rw [hexec, execFrameTransmissionComplete, hlane]
    exact if_neg fun h => h.elim hjoin hleave
  · have hbusy : d.span.lane ≠ none := by rw [hlane]; nofun
    rw [Device.settle_span, Device.settle_channels, Device.reportDrained_of_lane hbusy, Device.chooseFrame_of_lane hbusy]
    exact ⟨rfl, rfl⟩
  · intro d hlane sent due
    have hreport : d.reportDrained = { d with span := { d.span with leaveDue := due } } := Device.reportDrained_eq hlane
    have hlane' : d.reportDrained.span.lane = none := by rw [hreport]; exact hlane
    have hstation : ∀ b s, d.reportDrained.span.pickStation = some (b, s) →
        d.settle.channels = d.channels ∧ d.settle.span = { s with lane := sent .all b } := fun b s hpick => by
      rw [Device.settle_span, Device.settle_channels, Device.chooseFrame_station hlane' hpick, hreport]
      exact ⟨rfl, rfl⟩
    refine ⟨fun hj => ?_, fun hj hh => ?_, fun hj hh hr => ?_, fun hj hh hr => ⟨fun hl => ?_, fun hl r rest hq => ?_, ?_, ?_⟩⟩
    · exact hstation .join { d.span with joinDue := false, leaveDue := due } (by rw [hreport]; exact if_pos hj)
    · exact hstation .halt { d.span with haltDue := false, leaveDue := due }
        (by rw [hreport]; exact (if_neg (Bool.eq_false_iff.mp hj)).trans (if_pos hh))
    · exact hstation .resume { d.span with resumeDue := false, leaveDue := due }
        (by
          rw [hreport]
          exact (if_neg (Bool.eq_false_iff.mp hj)).trans ((if_neg (Bool.eq_false_iff.mp hh)).trans (if_pos hr)))
    · exact hstation .leave { d.span with leaveDue := false }
        (by
          rw [hreport]
          exact (if_neg (Bool.eq_false_iff.mp hj)).trans ((if_neg (Bool.eq_false_iff.mp hh)).trans
            ((if_neg (Bool.eq_false_iff.mp hr)).trans (if_pos hl))))
    · have hpick := SpanInterface.pickStation_quiet hj hh hr (Bool.or_eq_false_iff.mp hl).1
      rw [Device.settle_span, Device.settle_channels, Device.reportDrained_quiet hl, Device.chooseFrame_reply hlane hpick hq]
      exact ⟨rfl, rfl⟩
    · intro hl hreplies before after hbefore
      have hpick := SpanInterface.pickStation_quiet hj hh hr (Bool.or_eq_false_iff.mp hl).1
      have hpassed : ∀ m ∈ before, m.next d.control.number d.halted = none := fun m hm =>
        (InitEntry.next_none_iff (InitEntry.nonEmpty_of_isOfferAlone (hbefore m hm).1)).mpr (hbefore m hm)
      have hsent : ∀ e f rest, d.span.initiation = before ++ e :: after → e.next d.control.number d.halted = some (f, rest) →
          d.settle.channels = d.channels ∧
            d.settle.span = { d.span with initiation := before ++ after ++ rest.toList, lane := some f } :=
        fun e f rest hq hnext => by
          have hchoice := pickInitiation_append (e := e) (after := after) hpassed
          rw [hnext] at hchoice
          rw [Device.settle_span, Device.settle_channels, Device.reportDrained_quiet hl,
            Device.chooseFrame_initiation hlane hpick hreplies ((congrArg _ hq).trans hchoice)]
          exact ⟨rfl, rfl⟩
      have hlast : ∀ e f, d.span.initiation = before ++ e :: after → e.next d.control.number d.halted = some (f, none) →
          d.settle.channels = d.channels ∧ d.settle.span = { d.span with initiation := before ++ after, lane := some f } :=
        fun e f hq hnext => by
          have h := hsent e f none hq hnext
          rwa [Option.toList_none, List.append_nil] at h
      refine ⟨fun c w hq => ?_, fun c w f hq => ?_, fun c w hq => ?_, fun c t g f hrun hq => ?_, fun t e arg hq => ?_⟩
      · exact hlast _ _ hq rfl
      · exact hsent _ _ (some (.slot c none (some f))) hq rfl
      · have hnext : (InitEntry.slot c none (some (.withdraw w))).next d.control.number d.halted =
            some (w.frame d.control.number c, none) := by
          cases hh : d.halted <;> simp [InitEntry.next, SlotFrame.isOffer, SlotFrame.frame]
        exact hlast _ _ hq hnext
      · have hnext : (InitEntry.slot c none (some (.offer t g f))).next d.control.number d.halted =
            some ((SlotFrame.offer t g f).frame d.control.number c, none) := by simp [InitEntry.next, hrun]
        exact hlast _ _ hq hnext
      · exact hlast _ _ hq rfl
    · intro hl hreplies hall hidle
      have hpick := SpanInterface.pickStation_quiet hj hh hr (Bool.or_eq_false_iff.mp hl).1
      have hnone : pickInitiation d.control.number d.halted d.span.initiation = none :=
        pickInitiation_none_iff.mpr fun e he =>
          (InitEntry.next_none_iff (InitEntry.nonEmpty_of_isOfferAlone (hall e he).1)).mpr (hall e he)
      have hheld : d.halted = true ∨ d.control.owed = true ∨ d.readyChannel = none :=
        hidle.imp_right (Or.imp_right fun h => Device.readyChannel_eq_none.mpr fun c => Channel.readyBlock_eq_none.mpr (h c))
      rw [Device.settle_span, Device.settle_channels, Device.reportDrained_quiet hl,
        Device.chooseFrame_held hlane hpick hreplies hnone hheld]
      exact ⟨rfl, rfl⟩

end Sys2Proof.Machine

/-! The choice of a block by the lane (R15, R91), the service of the memory port (R141), and the completion of a read (R90, R144). -/

namespace Sys2Proof.Machine

/-! ### The block of the most urgent channel (R15, R91) -/

/-- A channel has one next block, since its two buffers are never for one block. -/
theorem Channel.hasReady_data {ch : Channel} {a a' : Descriptor} {data data' : List Byte}
    (hdistinct : ch.buffers[(0 : Fin 2)].blockNo = none ∨ ch.buffers[(0 : Fin 2)].blockNo ≠ ch.buffers[(1 : Fin 2)].blockNo)
    (h : ch.hasReady a data) (h' : ch.hasReady a' data') : data = data' := by
  obtain ⟨-, -, -, b, hb⟩ := h
  obtain ⟨-, -, -, b', hb'⟩ := h'
  have htwo : ∀ b : Fin 2, b = 0 ∨ b = 1 := by decide
  rcases htwo b with rfl | rfl <;> rcases htwo b' with rfl | rfl
  · exact (FetchBuffer.holding.inj (hb.symm.trans hb')).2
  · simp only [hb, hb', FetchBuffer.blockNo] at hdistinct
    exact absurd hdistinct (by simp)
  · simp only [hb, hb', FetchBuffer.blockNo] at hdistinct
    exact absurd hdistinct (by simp)
  · exact (FetchBuffer.holding.inj (hb.symm.trans hb')).2

theorem eight_split (c : ChannelNo) :
    ∃ before after, eight = before ++ c :: after ∧ (∀ m ∈ before, m < c) ∧ ∀ m ∈ after, c < m := by
  have hordered : eight.Pairwise (· < ·) := by decide
  obtain ⟨before, after, hsplit⟩ := List.append_of_mem (mem_eight c)
  rw [hsplit, List.pairwise_append] at hordered
  obtain ⟨-, hafter, hcross⟩ := hordered
  exact ⟨before, after, hsplit, fun m hm => hcross m hm c List.mem_cons_self, (List.pairwise_cons.mp hafter).1⟩

theorem Channel.level_of_active {ch : Channel} {a : Descriptor} (h : ch.active = some a) : ch.level = a.level.val := by
  simp only [Channel.level, h]

/-- R15: the lowest level wins, then the lowest channel number. -/
theorem Device.readyChannel_eq_some {d : Device} {c : ChannelNo} {a : Descriptor} {data : List Byte}
    (h : d.channels[c].hasReady a data)
    (hfirst : ∀ (b : ChannelNo) a' data', d.channels[b].hasReady a' data' → b ≠ c →
      a.level < a'.level ∨ a.level = a'.level ∧ c < b) : d.readyChannel = some c := by
  obtain ⟨data', hready⟩ := Channel.readyBlock_of_hasReady h
  obtain ⟨before, after, hsplit, hbefore, hafter⟩ := eight_split c
  have hlevel := Channel.level_of_active h.2.1
  have hother : ∀ m : ChannelNo, d.channels[m].readyBlock.isSome = true → m ≠ c →
      a.level.val < d.channels[m].level ∨ a.level.val = d.channels[m].level ∧ c < m := fun m hm hne => by
    obtain ⟨⟨a', data''⟩, hm⟩ := Option.isSome_iff_exists.mp hm
    have hm := Channel.hasReady_of_readyBlock hm
    rw [Channel.level_of_active hm.2.1]
    exact (hfirst m a' data'' hm hne).imp_right fun ⟨he, hlt⟩ => ⟨congrArg Fin.val he, hlt⟩
  refine firstMin_filter_eq_some.mpr ⟨by rw [hready]; rfl, before, after, hsplit, fun m hm hsome => ?_, fun m hm hsome => ?_⟩
  · rw [hlevel]
    have hlt := hbefore m hm
    exact (hother m hsome hlt.ne).resolve_right fun h => absurd h.2 hlt.asymm
  · rw [hlevel]
    exact (hother m hsome (hafter m hm).ne').elim Nat.le_of_lt fun h => h.1.le

/-- R91 as one record: the next block of channel c is on the lane; its buffer is empty and no read is requested yet. -/
def Device.sentBlock (d : Device) (c : ChannelNo) (a : Descriptor) (data : List Byte) : Device :=
  { d with
    span := { d.span with lane := some { source := d.control.number, dest := .station a.target,
                                         body := .block c d.channels[c].generation d.channels[c].next data } }
    channels := d.channels.set c
      { d.channels[c] with
        next := d.channels[c].next + 1
        buffers := d.channels[c].buffers.map (FetchBuffer.keptBy fun b => !b.has d.channels[c].next)
        state := if d.channels[c].next + 1 = blockCount a.length then .draining else d.channels[c].state }
    port := d.port.abandon (d.channels[c].givesUp c fun b => !b.has d.channels[c].next) }

section
variable {d : Device} {c : ChannelNo} {a : Descriptor} {data : List Byte}

theorem Device.sentBlock_channel : (d.sentBlock c a data).channels[c] =
    { d.channels[c] with
      next := d.channels[c].next + 1
      buffers := d.channels[c].buffers.map (FetchBuffer.keptBy fun b => !b.has d.channels[c].next)
      state := if d.channels[c].next + 1 = blockCount a.length then .draining else d.channels[c].state } :=
  Vector.getElem_set_self _

theorem Device.sentBlock_other {b : ChannelNo} (h : b ≠ c) : (d.sentBlock c a data).channels[b] = d.channels[b] :=
  Vector.getElem_set_ne c.isLt b.isLt fun he => h (Fin.ext he.symm)

theorem Device.sendBlock_sent (h : d.channels[c].readyBlock = some (a, data)) :
    d.sendBlock c = (d.sentBlock c a data).requestReads c := by
  have hsame := d.rebuffer_same c (d.channels[c].buffers.map (FetchBuffer.keptBy fun b => !b.has d.channels[c].next))
    (d.channels[c].givesUp c fun b => !b.has d.channels[c].next)
  simp only [Device.sendBlock, h, Device.emptyBuffers_eq]
  refine congrArg (Device.requestReads · c) ?_
  simp only [Device.updChannel, Device.updSpan, Device.rebuffer, Device.sentBlock, Device.mk.injEq, true_and, and_true]
  refine (congrArg (fun ch : Channel => Vector.set _ c { ch with
    next := ch.next + 1, state := if ch.next + 1 = blockCount a.length then .draining else ch.state } c.isLt) hsame).trans ?_
  exact Vector.set_set ..

end

theorem FetchBuffer.keptBy_cases (keep : FetchBuffer → Bool) (b : FetchBuffer) :
    keep b = true ∧ b.keptBy keep = b ∨ keep b = false ∧ b.keptBy keep = .empty := by
  unfold FetchBuffer.keptBy
  cases h : keep b <;> simp

/-- A buffer after those with block n are emptied. -/
theorem FetchBuffer.keptBy_not_has (n : Nat) (b : FetchBuffer) :
    b.blockNo ≠ some n ∧ b.keptBy (fun b => !b.has n) = b ∨
      b.blockNo = some n ∧ b.keptBy (fun b => !b.has n) = .empty := by
  rcases FetchBuffer.keptBy_cases (fun b => !b.has n) b with ⟨hkeep, heq⟩ | ⟨hkeep, heq⟩
  · exact .inl ⟨fun h => by simp [(FetchBuffer.has_iff b n).mpr h] at hkeep, heq⟩
  · exact .inr ⟨(FetchBuffer.has_iff b n).mp (by simpa using hkeep), heq⟩

theorem MemoryPort.issue_writes (p : MemoryPort) : p.issue.writes = p.writes := by
  unfold MemoryPort.issue
  split
  next => rfl
  next =>
    split
    next => rfl
    next => split <;> rfl

/-- Settles O50: the channel that is ready and most urgent sends, and its requests fill empty buffers alone. -/
theorem laneArbiterSendsBlocks : Obligations.LaneArbiterSendsBlocks := by
  intro d c a data hfetch hlane hj hh hr hl hreplies hinit hrun hstate howed hready hfirst ch
  have hquiet : d.leaveComes = false := Bool.or_eq_false_iff.mpr
    ⟨hl, decide_eq_false fun ⟨hleaving, _⟩ => by cases hstate.symm.trans hleaving⟩
  obtain ⟨data', hblock⟩ := Channel.readyBlock_of_hasReady hready
  obtain rfl := Channel.hasReady_data (hfetch.2.1 c) hready (Channel.hasReady_of_readyBlock hblock)
  have hchoice : d.reportDrained.chooseFrame = (d.sentBlock c a data).requestReads c := by
    rw [Device.reportDrained_quiet hquiet, ← Device.sendBlock_sent hblock]
    exact Device.chooseFrame_block hlane (SpanInterface.pickStation_quiet hj hh hr hl) hreplies (by rw [hinit]; rfl) hrun howed
      (Device.readyChannel_eq_some hready hfirst)
  obtain ⟨⟨hsame, hbuffers⟩, hother, hwrites⟩ := (d.sentBlock c a data).requestReads_asks c
  have hchannels : d.settle.channels = ((d.sentBlock c a data).requestReads c).channels := by
    rw [Device.settle_channels, hchoice]
  have hat : ∀ b : ChannelNo, d.settle.channels[b] = ((d.sentBlock c a data).requestReads c).channels[b] :=
    fun b => congrArg (fun v : Vector Channel 8 => v[b]) hchannels
  simp only [Device.sentBlock_channel] at hsame hbuffers
  have hkept : ∀ b : Fin 2, (d.channels[c].buffers.map (FetchBuffer.keptBy fun b => !b.has d.channels[c].next))[b] =
      d.channels[c].buffers[b].keptBy fun b => !b.has d.channels[c].next := fun b => by simp
  rw [hat c]
  refine ⟨?_, ?_, fun b => ?_, fun b => ⟨fun hne hnext => ?_, fun hfree => ?_⟩, fun b hb => ?_, ?_⟩
  · rw [Device.settle_span, hchoice]
    simp only [Device.requestReads_keeps]
    rfl
  · refine hsame.trans ?_
    have hstreaming := hready.1
    rw [hstreaming]
  · rcases hbuffers b with hb | ⟨-, n, hn, -, hb⟩
    · rw [hb, hkept]
      rcases FetchBuffer.keptBy_not_has d.channels[c].next d.channels[c].buffers[b] with ⟨hne, heq⟩ | ⟨-, heq⟩
      · rw [heq]
        exact hne
      · rw [heq]
        nofun
    · rw [hb]
      show some n ≠ some d.channels[c].next
      intro h
      have := Option.some.inj h
      omega
  · have hsurvives := ((FetchBuffer.keptBy_not_has d.channels[c].next d.channels[c].buffers[b]).resolve_right
      fun h => hnext h.1).2
    rcases hbuffers b with hb | ⟨hempty, -⟩
    · rw [hb, hkept, hsurvives]
    · rw [hkept, hsurvives] at hempty
      exact absurd hempty hne
  · have hgone : (d.channels[c].buffers[b].keptBy fun b => !b.has d.channels[c].next) = .empty := by
      rcases FetchBuffer.keptBy_not_has d.channels[c].next d.channels[c].buffers[b] with ⟨hne, heq⟩ | ⟨-, heq⟩
      · rw [heq]
        exact hfree.resolve_right hne
      · exact heq
    rcases hbuffers b with hb | ⟨-, n, hn, hlimit, hb⟩
    · exact .inl (by rw [hb, hkept, hgone])
    · exact .inr ⟨n, hb, hn, hlimit⟩
  · rw [hat b, hother b hb, Device.sentBlock_other hb]
  · have hport : d.settle.port.writes = ((d.sentBlock c a data).requestReads c).port.writes := by
      rw [Device.settle_port, hchoice, MemoryPort.issue_writes]
    rw [hport, hwrites]
    simp only [Device.settle, hchoice, Device.updPort_control, Device.updPort_config, Device.updPort_admission,
      Device.updPort_halt, Device.updPort_lport, Device.requestReads_keeps]
    exact ⟨rfl, rfl, rfl, rfl, rfl, rfl⟩

/-! ### What the arbiter can do, and the port (R15, R141) -/

/-- The arbiter changes the span alone, or it sends a block. -/
theorem Device.chooseFrame_cases (d : Device) :
    (∃ s, d.chooseFrame = { d with span := s }) ∨
      ∃ c a data, d.span.lane = none ∧ d.span.pickStation = none ∧ d.span.replies = [] ∧
        pickInitiation d.control.number d.halted d.span.initiation = none ∧ d.halted = false ∧ d.control.owed = false ∧
        d.channels[c].readyBlock = some (a, data) ∧ d.chooseFrame = (d.sentBlock c a data).requestReads c := by
  by_cases hlane : d.span.lane = none
  · rcases hpick : d.span.pickStation with _ | ⟨b, s⟩
    · rcases hreplies : d.span.replies with _ | ⟨r, rs⟩
      · rcases hinit : pickInitiation d.control.number d.halted d.span.initiation with _ | ⟨f, q⟩
        · by_cases hidle : d.halted = true ∨ d.control.owed = true ∨ d.readyChannel = none
          · exact .inl ⟨d.span, Device.chooseFrame_held hlane hpick hreplies hinit hidle⟩
          · simp only [not_or, Bool.not_eq_true] at hidle
            obtain ⟨hrun, howed, hready⟩ := hidle
            obtain ⟨c, hc⟩ := Option.ne_none_iff_exists'.mp hready
            obtain ⟨⟨a, data⟩, hblock⟩ := Option.isSome_iff_exists.mp (firstMin_filter_spec hc).1
            exact .inr ⟨c, a, data, hlane, rfl, rfl, rfl, hrun, howed, hblock,
              (Device.chooseFrame_block hlane hpick hreplies hinit hrun howed hc).trans (Device.sendBlock_sent hblock)⟩
        · exact .inl ⟨_, Device.chooseFrame_initiation hlane hpick hreplies hinit⟩
      · exact .inl ⟨_, Device.chooseFrame_reply hlane hpick hreplies⟩
    · exact .inl ⟨_, Device.chooseFrame_station hlane hpick⟩
  · exact .inl ⟨d.span, Device.chooseFrame_of_lane hlane⟩

section
variable {d : Device}

/-- Where no block is sent the memory port finds its clients as they were. -/
theorem Device.chooseFrame_port (h : d.sendsNoBlock) : d.reportDrained.chooseFrame.port = d.port := by
  have hkeep : d.reportDrained.port = d.port := by unfold Device.reportDrained; split <;> rfl
  rcases d.reportDrained.chooseFrame_cases with ⟨s, heq⟩ | ⟨c, a, data, hlane, hpick, hreplies, hinit, hrun, howed, hblock, -⟩
  · rw [heq]
    exact hkeep
  · have hfree : d.span.lane = none := by
      by_contra hbusy
      rw [Device.reportDrained_of_lane hbusy] at hlane
      exact hbusy hlane
    rw [Device.reportDrained_eq hfree] at hpick hreplies hinit hrun howed hblock
    obtain ⟨hj, hh, hr, hl⟩ := SpanInterface.pickStation_eq_none.mp hpick
    obtain ⟨hdue, hdrained⟩ := Bool.or_eq_false_iff.mp hl
    rcases h with h | h | h | h | h | ⟨e, he, hne⟩ | h
    · exact absurd hfree h
    · exact absurd (h.symm.trans hrun) nofun
    · exact absurd (h.symm.trans howed) nofun
    · rcases h with h | h | h | h | h
      · exact absurd (h.symm.trans hj) nofun
      · exact absurd (h.symm.trans hh) nofun
      · exact absurd (h.symm.trans hr) nofun
      · exact absurd (h.symm.trans hdue) nofun
      · exact absurd h (of_decide_eq_false hdrained)
    · exact absurd hreplies h
    · obtain ⟨-, hhalted⟩ := (InitEntry.next_none_iff hne).mp (pickInitiation_none_iff.mp hinit e he)
      exact absurd (hhalted.symm.trans hrun) nofun
    · exact absurd (Channel.hasReady_of_readyBlock hblock) (h c a data)

theorem Device.settle_port_quiet (h : d.sendsNoBlock) : d.settle.port = d.port.issue := by
  rw [Device.settle_port, Device.chooseFrame_port h]

end

section
variable {p : MemoryPort}

theorem MemoryPort.issue_busy {a : Access} (h : p.access = some a) : p.issue = p := by
  simp only [MemoryPort.issue, h]

theorem MemoryPort.issue_write (h : p.access = none) (hw : p.writes ≠ []) : p.issue = { p with access := some .write } := by
  obtain ⟨w, ws, hw⟩ := List.exists_cons_of_ne_nil hw
  simp only [MemoryPort.issue, h, hw]

theorem MemoryPort.issue_read {r : ReadRequest} (h : p.access = none) (hw : p.writes = []) (hr : bestRead p.reads = some r) :
    p.issue = { p with access := some (.read r false), reads := p.reads.erase r } := by
  simp only [MemoryPort.issue, h, hw, hr]

theorem MemoryPort.issue_none (h : p.access = none) (hw : p.writes = []) (hr : p.reads = []) : p.issue = p := by
  simp only [MemoryPort.issue, h, hw, hr]
  rfl

end

/-- R141 step 2: level, then channel, as one number. -/
theorem ReadRequest.rank_lt {r q : ReadRequest} :
    8 * r.level.val + r.channel.val < 8 * q.level.val + q.channel.val ↔
      r.level < q.level ∨ r.level = q.level ∧ r.channel < q.channel := by
  have hr := r.channel.isLt
  have hq := q.channel.isLt
  simp only [Fin.lt_def, Fin.ext_iff]
  omega

theorem ReadRequest.rank_le {r q : ReadRequest} :
    8 * r.level.val + r.channel.val ≤ 8 * q.level.val + q.channel.val ↔
      r.level < q.level ∨ r.level = q.level ∧ r.channel ≤ q.channel := by
  have hr := r.channel.isLt
  have hq := q.channel.isLt
  simp only [Fin.lt_def, Fin.le_def, Fin.ext_iff]
  omega

/-- Settles O51: the port's choice, and what the completion of a read does. -/
theorem memoryPortServesItsClients : Obligations.MemoryPortServesItsClients := by
  refine ⟨fun d hquiet => ?_, fun s r => ?_⟩
  · rw [Device.settle_port_quiet hquiet]
    refine ⟨fun a ha => MemoryPort.issue_busy ha, MemoryPort.issue_write, MemoryPort.issue_none, ?_⟩
    intro before r after hfree hw hreads hbefore hafter
    have hbest : bestRead d.port.reads = some r := firstMin_eq_some.mpr
      ⟨before, after, hreads, fun q hq => ReadRequest.rank_lt.mpr (hbefore q hq), fun q hq => ReadRequest.rank_le.mpr (hafter q hq)⟩
    have hnew : r ∉ before := fun hr => (ReadRequest.rank_lt.mpr (hbefore r hr)).ne rfl
    rw [MemoryPort.issue_read hfree hw hbest, hreads, List.erase_append_right _ hnew, List.erase_cons_head]
  · refine ⟨fun hread data hlength => ?_, fun hread data hlength => ?_, fun a hread hactive => ?_, fun hread => ?_⟩
    · have hexec : exec (.readCompletion data) s = execReadCompletion data s := rfl
      rw [hexec, execReadCompletion, hread]
      exact if_pos hlength
    · have hexec : exec (.readCompletion data) s = execReadCompletion data s := rfl
      rw [hexec, execReadCompletion, hread]
      exact if_pos hlength
    · have hexec : exec .readError s = execReadError s := rfl
      rw [hexec, execReadError, hread]
      exact congrArg s.event (s.dev.freePort.endTransfer_ended r.channel a .fault none nofun hactive)
    · have hexec : exec .readError s = execReadError s := rfl
      rw [hexec, execReadError, hread]
      rfl

end Sys2Proof.Machine

/-! The replies that reach a source (R62, R63, R66, R103 to R105, R127): what a WAIT, a GRANT and a RECEIPT do to the channel. -/

namespace Sys2Proof.Machine

/-! ### A channel and its reads, written together -/

/-- Channel c becomes ch, and these reads are given up. -/
def Device.recast (d : Device) (c : ChannelNo) (ch : Channel) (gone : ReadRequest → Bool) : Device :=
  { d with channels := d.channels.set c ch, port := d.port.abandon gone }

section
variable (d : Device) (c : ChannelNo) (ch : Channel) (gone : ReadRequest → Bool)

theorem Device.recast_same : (d.recast c ch gone).channels[c] = ch := Vector.getElem_set_self _

theorem Device.recast_other {b : ChannelNo} (h : b ≠ c) : (d.recast c ch gone).channels[b] = d.channels[b] :=
  Vector.getElem_set_ne c.isLt b.isLt fun he => h (Fin.ext he.symm)

theorem Device.recast_updChannel (f : Channel → Channel) :
    (d.recast c ch gone).updChannel c f = d.recast c (f ch) gone := by
  have hsame := d.recast_same c ch gone
  unfold Device.recast at hsame
  refine congrArg (fun v => { d with channels := v, port := d.port.abandon gone }) ?_
  exact (congrArg (fun x => Vector.set _ c (f x) c.isLt) hsame).trans (Vector.set_set ..)

theorem Device.updChannel_recast (f : Channel → Channel) : (d.updChannel c f).recast c ch gone = d.recast c ch gone :=
  congrArg (fun v => { d with channels := v, port := d.port.abandon gone }) (Vector.set_set ..)

theorem Device.emptyBuffers_recast (keep : FetchBuffer → Bool) :
    d.emptyBuffers c keep =
      d.recast c { d.channels[c] with buffers := d.channels[c].buffers.map (FetchBuffer.keptBy keep) }
        (d.channels[c].givesUp c keep) := d.emptyBuffers_eq c keep

end

theorem MemoryPort.without_abandon (p : MemoryPort) (c : ChannelNo) :
    p.without c = p.abandon fun r => decide (r.channel = c) := by
  have hreads : (p.reads.filter fun r => decide (r.channel ≠ c)) = p.reads.filter fun r => !decide (r.channel = c) :=
    List.filter_congr fun r _ => decide_not
  exact congrArg (fun l => { p.abandon fun r => decide (r.channel = c) with reads := l }) hreads

/-- Reads of a channel that are given up twice. -/
theorem MemoryPort.abandon_without {p : MemoryPort} {c : ChannelNo} {gone : ReadRequest → Bool}
    (h : ∀ r, gone r = true → r.channel = c) : (p.abandon gone).without c = p.without c := by
  rw [MemoryPort.without_abandon, MemoryPort.without_abandon, MemoryPort.abandon_abandon]
  refine MemoryPort.abandon_congr fun r => ?_
  cases hg : gone r with
  | false => rfl
  | true => simp [h r hg]

theorem Channel.givesUp_channel {ch : Channel} {c : ChannelNo} {keep : FetchBuffer → Bool} {r : ReadRequest}
    (h : ch.givesUp c keep r = true) : r.channel = c :=
  of_decide_eq_true (Bool.and_eq_true_iff.mp h).1

/-! ### The first reads of a channel that begins to stream (R89, R127) -/

theorem Channel.emptySlot_first {ch : Channel} (h : ch.buffers[(0 : Fin 2)] = .empty) : ch.emptySlot = some 0 := if_pos h

theorem Channel.emptySlot_second {ch : Channel} (h0 : ch.buffers[(0 : Fin 2)] ≠ .empty)
    (h1 : ch.buffers[(1 : Fin 2)] = .empty) : ch.emptySlot = some 1 := (if_neg h0).trans (if_pos h1)

theorem Device.requested_channel (d : Device) (c : ChannelNo) (a : Descriptor) (b : Fin 2) (n : Nat) :
    (d.requested c a b n).channels[c] = { d.channels[c] with buffers := d.channels[c].buffers.set b (.fetching n) } :=
  Vector.getElem_set_self _

/-- R89: both buffers are empty: the wanted blocks are requested, the lower first (log 15). -/
theorem Device.requestReads_empty {d : Device} {c : ChannelNo} {a : Descriptor} (hactive : d.channels[c].active = some a)
    (hstate : d.channels[c].state = .streaming) (hnext : d.channels[c].next < d.channels[c].limit)
    (hlimit : d.channels[c].limit ≤ blockCount a.length) (hempty : ∀ b : Fin 2, d.channels[c].buffers[b] = .empty) :
    d.requestReads c =
      { d with
        channels := d.channels.set c { d.channels[c] with
          buffers := #v[.fetching d.channels[c].next,
            if d.channels[c].next + 1 < d.channels[c].limit then .fetching (d.channels[c].next + 1) else .empty] }
        port := { d.port with
          reads := d.port.reads ++ [a.request c 0 d.channels[c].next] ++
            if d.channels[c].next + 1 < d.channels[c].limit then [a.request c 1 (d.channels[c].next + 1)] else [] } } := by
  have hnone : ∀ i : Fin 2, d.channels[c].buffers[i].blockNo ≠ some d.channels[c].next := fun i => by
    rw [hempty i]
    nofun
  have hfirst : d.requestRead c d.channels[c].next = d.requested c a 0 d.channels[c].next :=
    Device.requestRead_requested
      ⟨hactive, Channel.emptySlot_first (hempty 0), hstate, hnext, lt_of_lt_of_le hnext hlimit, hnone⟩
  have hset : d.channels[c].buffers = #v[.empty, .empty] := Vector.ext_two (hempty 0) (hempty 1)
  have hchannel : (d.requested c a 0 d.channels[c].next).channels[c] =
      { d.channels[c] with buffers := #v[.fetching d.channels[c].next, .empty] } := by
    rw [Device.requested_channel, hset]
    rfl
  unfold Device.requestReads
  dsimp only
  rw [hfirst]
  by_cases hmore : d.channels[c].next + 1 < d.channels[c].limit
  · have hlacks : (d.requested c a 0 d.channels[c].next).channels[c].lacksBlock a 1 (d.channels[c].next + 1) := by
      rw [hchannel]
      refine ⟨hactive, Channel.emptySlot_second nofun rfl, hstate, hmore, lt_of_lt_of_le hmore hlimit, ?_⟩
      refine Fin.forall_fin_two.mpr ⟨?_, nofun⟩
      show some d.channels[c].next ≠ some (d.channels[c].next + 1)
      simp
    rw [Device.requestRead_requested hlacks, if_pos hmore, if_pos hmore]
    simp only [Device.requested] at hchannel ⊢
    simp only [hchannel, Device.mk.injEq, true_and, and_true]
    exact Vector.set_set ..
  · have hsame := ((d.requested c a 0 d.channels[c].next).requestRead_cases c (d.channels[c].next + 1)).resolve_right
      fun ⟨a', b, hlacks, _⟩ => by
        rw [hchannel] at hlacks
        exact hmore hlacks.2.2.2.1
    rw [hsame.1, if_neg hmore, if_neg hmore, List.append_nil]
    simp only [Device.requested, hset]
    rfl

/-! ### WAIT and GRANT (R62, R63, R66, R127) -/

theorem exec_waitArrives_of_hears {s : State} {x : Station} (hx : s.dev.hears x) (c : ChannelNo) (g : Generation) :
    exec (.waitArrives x c g) s = s.next (s.dev.handleWait x c g).settle :=
  congrArg s.next (Device.arrive_of_hears hx _)

theorem exec_grantArrives_of_hears {s : State} {x : Station} {start limit : Nat} (hx : s.dev.hears x)
    (hr : grantInRange start limit = true) (c : ChannelNo) (g : Generation) :
    exec (.grantArrives x c g start limit) s = s.next (s.dev.handleGrant x c g start limit).settle := by
  have hexec : exec (.grantArrives x c g start limit) s = execGrantArrives x c g start limit s := rfl
  rw [hexec, execGrantArrives, hr, Device.arrive_of_hears hx]

theorem exec_receiptArrives_of_hears {s : State} {x : Station} {accepted limit : Nat} (hx : s.dev.hears x)
    (hr : receiptInRange accepted limit = true) (c : ChannelNo) (g : Generation) (final : Bool) :
    exec (.receiptArrives x c g accepted limit final) s = s.next (s.dev.handleReceipt x c g accepted limit final).settle := by
  have hexec : exec (.receiptArrives x c g accepted limit final) s = execReceiptArrives x c g accepted limit final s := rfl
  rw [hexec, execReceiptArrives, hr, Device.arrive_of_hears hx]

section
variable {d : Device} {x : Station} {c : ChannelNo} {g : Generation} {a : Descriptor} {start limit : Nat}

theorem Channel.grantFits_iff {ch : Channel} (hactive : ch.active = some a) :
    ch.grantFits start limit = true ↔
      start < limit ∧ limit ≤ blockCount a.length ∧ (ch.state = .paused → ch.accepted ≤ start) := by
  simp [Channel.grantFits, hactive, and_assoc, Decidable.imp_iff_not_or]

theorem Device.handleGrant_taken (hm : d.matched x c g a)
    (hstate : d.channels[c].state = .offering ∨ d.channels[c].state = .queued ∨ d.channels[c].state = .paused)
    (hfits : d.channels[c].grantFits start limit = true) :
    d.handleGrant x c g start limit = d.takeGrant c start limit := by
  have hmatches := Channel.matchesReply_of_matched hm
  obtain ⟨-, -, -, hgen⟩ := hm
  rcases hstate with hs | hs | hs <;>
    simp only [Device.handleGrant, hgen, ne_eq, not_true_eq_false, if_false, hs, hmatches, hfits, if_true]

/-- R66: the GRANTs that are answered with WITHDRAW(STALE). -/
theorem Device.handleGrant_stale
    (h : d.channels[c].generation ≠ g ∨ d.channels[c].state = .empty ∨ d.channels[c].state = .ready ∨
      d.channels[c].matchesReply x g = true ∧ (d.channels[c].state = .streaming ∨ d.channels[c].state = .draining ∨
        d.channels[c].grantFits start limit = false)) :
    d.handleGrant x c g start limit = d.answerStale c x g := by
  by_cases hgen : d.channels[c].generation = g
  · simp only [Device.handleGrant, hgen, ne_eq, not_true_eq_false, if_false]
    rcases h with h | hs | hs | ⟨hm, hs | hs | hfits⟩
    · exact absurd hgen h
    · simp only [hs]
    · simp only [hs]
    · simp only [hs, hm, if_true]
    · simp only [hs, hm, if_true]
    · simp only [hm, hfits, if_true, Bool.false_eq_true, if_false]
      split <;> rfl
  · simp only [Device.handleGrant, ne_eq, hgen, not_false_eq_true, if_true]

theorem Device.handleGrant_ignored (hgen : d.channels[c].generation = g) (ht : d.channels[c].state.inTransfer = true)
    (h : d.channels[c].matchesReply x g = false) : d.handleGrant x c g start limit = d := by
  simp only [Device.handleGrant, hgen, ne_eq, not_true_eq_false, if_false, h, Bool.false_eq_true]
  cases hs : d.channels[c].state <;> simp_all [ChannelState.inTransfer]

theorem Device.not_matchesReply (h : ∀ a, ¬d.matched x c g a) : d.channels[c].matchesReply x g = false :=
  Bool.eq_false_iff.mpr fun hm => by
    obtain ⟨a, ha⟩ := Device.matched_of_matchesReply hm
    exact h a ha

theorem Device.answerStale_earlier (hs : d.control.state = .joined) (ho : d.control.owed = false)
    (hgen : d.channels[c].generation ≠ g) :
    d.answerStale c x g = { d with span := { d.span with
      initiation := placeEarlier c { target := x, generation := g, reason := .stale } d.span.initiation } } := by
  have hne : g ≠ d.channels[c].generation := fun h => hgen h.symm
  simp only [Device.answerStale, hs, reduceCtorEq, if_false, Device.claimWithdraw, hne, Device.claimInitiation, ho,
    Bool.false_eq_true]
  rfl

theorem Device.answerStale_current (hs : d.control.state = .joined) (ho : d.control.owed = false)
    (hgen : d.channels[c].generation = g) :
    d.answerStale c x g = { d with span := { d.span with
      initiation := placeCurrent c (.withdraw { target := x, generation := g, reason := .stale }) d.span.initiation } } := by
  simp only [Device.answerStale, hs, reduceCtorEq, if_false, Device.claimWithdraw, hgen, if_true, Device.claimInitiation, ho,
    Bool.false_eq_true]
  rfl

end

/-- R63, R127: the channel that takes a GRANT, before its reads are requested. -/
def Channel.granted (ch : Channel) (tReply start limit : Nat) : Channel :=
  { ch with next := start, accepted := start, limit := limit, retry := 0, timer := some tReply, state := .streaming }

/-- R63, R127: a GRANT that is taken where both buffers are empty. -/
theorem Device.takeGrant_empty {d : Device} {c : ChannelNo} {a : Descriptor} {start limit : Nat}
    (hactive : d.channels[c].active = some a) (hlt : start < limit) (hle : limit ≤ blockCount a.length)
    (hempty : ∀ b : Fin 2, d.channels[c].buffers[b] = .empty) :
    d.takeGrant c start limit =
      { d with
        channels := d.channels.set c { d.channels[c] with
          state := .streaming, next := start, accepted := start, limit := limit, retry := 0, timer := some d.config.tReply,
          buffers := #v[.fetching start, if start + 1 < limit then .fetching (start + 1) else .empty] }
        span := { d.span with initiation := changeSlot c dropOffer d.span.initiation }
        port := { d.port with
          reads := d.port.reads ++ [a.request c 0 start] ++
            if start + 1 < limit then [a.request c 1 (start + 1)] else [] } } := by
  have hsame : ((d.updChannel c (·.granted d.config.tReply start limit)).removeOffer c).channels[c] =
      d.channels[c].granted d.config.tReply start limit := d.updChannel_same c (·.granted d.config.tReply start limit)
  have htake : d.takeGrant c start limit =
      ((d.updChannel c (·.granted d.config.tReply start limit)).removeOffer c).requestReads c := rfl
  rw [htake, Device.requestReads_empty (a := a) (by rw [hsame]; exact hactive) (by rw [hsame]; rfl) (by rw [hsame]; exact hlt)
    (by rw [hsame]; exact hle) (by rw [hsame]; exact hempty), hsame]
  exact congrArg (fun v => Device.mk _ _ _ v _ _ _ _) (Vector.set_set ..)

/-- Settles O40: the WAIT that OFFERING takes, and the GRANT that fits, with the reads of two empty buffers. -/
theorem waitsAndGrantsMoveTheChannel : Obligations.WaitsAndGrantsMoveTheChannel := by
  intro s x c g hx ch offerGone
  refine ⟨fun a hm hs => ?_, fun hserved hno => ?_, fun a start limit hm hfetch hrange hstate hlt hle hpaused => ?_⟩
  · rw [exec_waitArrives_of_hears hx, Device.handleWait, if_pos ⟨Channel.matchesReply_of_matched hm, hs⟩]
    rfl
  · have hignored : ¬(s.dev.channels[c].matchesReply x g = true ∧ s.dev.channels[c].state = .offering) := fun ⟨hm, hs⟩ => by
      obtain ⟨a, ha⟩ := Device.matched_of_matchesReply hm
      exact hno a ha hs
    rw [exec_waitArrives_of_hears hx, Device.handleWait, if_neg hignored, Device.settle_served_of_hears hx hserved]
    rfl
  · have hactive := hm.2.1
    have hfits := (Channel.grantFits_iff hactive).mpr ⟨hlt, hle, hpaused⟩
    have hempty : ∀ b : Fin 2, s.dev.channels[c].buffers[b] = .empty := fun b =>
      hfetch.1 c b (by rcases hstate with h | h | h <;> exact fun he => by cases h.symm.trans he)
        (by rcases hstate with h | h | h <;> exact fun he => by cases h.symm.trans he)
    rw [exec_grantArrives_of_hears hx hrange, Device.handleGrant_taken hm hstate hfits,
      Device.takeGrant_empty hactive hlt hle hempty]

/-- Settles O41: the GRANTs that cannot be taken. -/
theorem staleGrantsAreAnswered : Obligations.StaleGrantsAreAnswered := by
  intro s x c g start limit hx hserved hrange ch stale noFit cannot
  have howed : s.dev.control.owed = false := hx.2.1
  have hstale : cannot → s.dev.handleGrant x c g start limit = s.dev.answerStale c x g := fun h => by
    refine Device.handleGrant_stale (h.imp_right (Or.imp_right (Or.imp_right fun ⟨a, hm, hs⟩ => ?_)))
    refine ⟨Channel.matchesReply_of_matched hm, hs.imp_right (Or.imp_right fun hno => Bool.eq_false_iff.mpr fun hfits => ?_)⟩
    obtain ⟨hlt, hle, hpaused⟩ := (Channel.grantFits_iff hm.2.1).mp hfits
    rcases hno with h | h | ⟨hs, h⟩
    · omega
    · omega
    · exact absurd (hpaused hs) (Nat.not_le_of_lt h)
  rw [exec_grantArrives_of_hears hx hrange]
  refine ⟨fun hs hgen => ?_, fun hs hgen hno => ?_, fun hs hno => ?_, fun hgen ht hno => ?_⟩
  · rw [hstale (.inl hgen), Device.answerStale_earlier hs howed hgen]
  · rw [hstale hno, Device.answerStale_current hs howed hgen]
  · rw [hstale hno, Device.answerStale, if_pos hs, Device.settle_served_of_hears hx hserved]
    rfl
  · rw [Device.handleGrant_ignored hgen ht (Device.not_matchesReply hno), Device.settle_served_of_hears hx hserved]
    rfl

end Sys2Proof.Machine

/-! RECEIPT at the source (R103 to R105): the counts advance, next-to-send is lifted, and a final one ends the transfer DONE with
its done event, promotion and chain (R54 to R56, R156). -/

namespace Sys2Proof.Machine

/-! ### Which RECEIPT is taken (R60, R103, R125) -/

section
variable {d : Device} {x : Station} {c : ChannelNo} {g : Generation} {a : Descriptor} {accepted limit : Nat} {final : Bool}

theorem Channel.receiptFits_iff {ch : Channel} (hactive : ch.active = some a) :
    ch.receiptFits accepted limit final = true ↔
      accepted ≤ limit ∧ limit ≤ blockCount a.length ∧ (final = true → accepted = blockCount a.length) := by
  cases final <;> simp [Channel.receiptFits, hactive, and_assoc]

theorem Device.handleReceipt_taken (hm : d.matched x c g a) (hfits : d.channels[c].receiptFits accepted limit final = true)
    (hstate : d.channels[c].state = .streaming ∨ d.channels[c].state = .draining) :
    d.handleReceipt x c g accepted limit final = d.takeReceipt c accepted limit final := by
  have hmatches := Channel.matchesReply_of_matched hm
  rcases hstate with hs | hs <;> simp only [Device.handleReceipt, hmatches, hfits, Bool.and_self, if_true, hs]

theorem Device.handleReceipt_paused (hm : d.matched x c g a) (hfits : d.channels[c].receiptFits accepted limit final = true)
    (hstate : d.channels[c].state = .paused) :
    d.handleReceipt x c g accepted limit final =
      d.updChannel c fun ch => { ch with accepted := max ch.accepted accepted } := by
  have hmatches := Channel.matchesReply_of_matched hm
  simp only [Device.handleReceipt, hmatches, hfits, Bool.and_self, if_true, hstate]

theorem Device.handleReceipt_ignored
    (h : ∀ a, d.matched x c g a → d.channels[c].receiptFits accepted limit final = true →
      d.channels[c].state = .offering ∨ d.channels[c].state = .queued) :
    d.handleReceipt x c g accepted limit final = d := by
  unfold Device.handleReceipt
  split
  next hboth =>
    rw [Bool.and_eq_true] at hboth
    obtain ⟨hmatches, hfits⟩ := hboth
    obtain ⟨a, hm⟩ := Device.matched_of_matchesReply hmatches
    rcases h a hm hfits with hs | hs <;> simp only [hs]
  next => rfl

end

/-! ### Lifting next-to-send (R104) -/

/-- R104 step 2: the channel once next-to-send is at least accepted. -/
def Channel.lifted (ch : Channel) : Channel :=
  if ch.next < ch.accepted then
    { ch with
      next := ch.accepted
      state := if (ch.active.map fun a => blockCount a.length) = some ch.accepted then .draining else ch.state
      buffers := ch.buffers.map (FetchBuffer.keptBy (FetchBuffer.notBelow ch.accepted)) }
  else ch

/-- R104 step 2: the reads given up for it. -/
def Channel.liftGone (ch : Channel) (c : ChannelNo) (r : ReadRequest) : Bool :=
  decide (ch.next < ch.accepted) && ch.givesUp c (FetchBuffer.notBelow ch.accepted) r

theorem Channel.liftGone_channel {ch : Channel} {c : ChannelNo} {r : ReadRequest} (h : ch.liftGone c r = true) :
    r.channel = c := Channel.givesUp_channel (Bool.and_eq_true_iff.mp h).2

theorem Device.recast_self (d : Device) (c : ChannelNo) : d.recast c d.channels[c] (fun _ => false) = d := by
  have hset : d.channels.set c d.channels[c] = d.channels := Vector.set_getElem_self _
  unfold Device.recast
  rw [MemoryPort.abandon_none]
  exact congrArg (fun v => { d with channels := v }) hset

theorem Device.liftNext_recast (d : Device) (c : ChannelNo) :
    d.liftNext c = d.recast c d.channels[c].lifted (d.channels[c].liftGone c) := by
  unfold Device.liftNext Channel.lifted
  dsimp only
  by_cases h : d.channels[c].next < d.channels[c].accepted
  · have hgone : d.channels[c].liftGone c = d.channels[c].givesUp c (FetchBuffer.notBelow d.channels[c].accepted) :=
      funext fun r => by rw [Channel.liftGone, decide_eq_true h, Bool.true_and]
    rw [if_pos h, if_pos h, hgone, Device.emptyBuffers_recast, Device.recast_updChannel]
  · have hgone : d.channels[c].liftGone c = fun _ => false := funext fun r => by
      rw [Channel.liftGone, decide_eq_false h, Bool.false_and]
    rw [if_neg h, if_neg h, hgone, Device.recast_self]

/-- R104: the counts of a channel that takes a RECEIPT, and where it stands in a transfer of this many blocks. -/
def Channel.advanced (ch : Channel) (tReply accepted limit blocks : Nat) : Channel :=
  { ch with
    accepted := max ch.accepted accepted, limit := max ch.limit limit, next := max ch.next (max ch.accepted accepted),
    retry := if ch.accepted < accepted ∨ ch.limit < limit then 0 else ch.retry, timer := some tReply,
    state := if max ch.next (max ch.accepted accepted) = blocks then .draining else .streaming }

section
variable {ch : Channel} {a : Descriptor} {tReply accepted limit : Nat}

theorem Channel.noteReceipt_lifted (hactive : ch.active = some a) (hstate : ch.state = .streaming ∨ ch.state = .draining)
    (hok : ch.countersOk) (hlimit : accepted ≤ limit) (hblocks : limit ≤ blockCount a.length) :
    (ch.noteReceipt tReply accepted limit).lifted =
      { ch.advanced tReply accepted limit (blockCount a.length) with
        buffers := (ch.noteReceipt tReply accepted limit).lifted.buffers } := by
  obtain ⟨-, -, -, hcount, hstream, hdrain⟩ := hok
  obtain ⟨hle, hbl, hnl, -⟩ := hcount hstate
  simp only [Channel.blocks, hactive] at hbl hstream hdrain
  unfold Channel.lifted
  split
  next h =>
    have hbelow : ch.next < max ch.accepted accepted := h
    have hmax : max ch.next (max ch.accepted accepted) = max ch.accepted accepted := max_eq_right hbelow.le
    have hst : ch.state = .streaming := hstate.resolve_right fun hs => by
      have := hdrain hs
      omega
    simp only [Channel.noteReceipt, Channel.advanced, hmax, hactive, hst, Option.map_some, Option.some.injEq]
    by_cases he : blockCount a.length = max ch.accepted accepted
    · simp [he]
    · have he' : ¬max ch.accepted accepted = blockCount a.length := fun h => he h.symm
      simp [he, he']
  next h =>
    have habove : max ch.accepted accepted ≤ ch.next := Nat.le_of_not_lt h
    have hmax : max ch.next (max ch.accepted accepted) = ch.next := max_eq_left habove
    have hst : ch.state = if ch.next = blockCount a.length then .draining else .streaming := by
      rcases hstate with hs | hs
      · rw [hs, if_neg (hstream hs).ne]
      · rw [hs, if_pos (hdrain hs)]
    simp only [Channel.noteReceipt, Channel.advanced, hmax, ← hst]

theorem FetchBuffer.blockNo_none {b : FetchBuffer} (h : b.blockNo = none) : b = .empty := by
  cases b with
  | empty => rfl
  | fetching s => cases h
  | holding s data => cases h

/-- R104 step 2: a buffer survives the lift when its block is still to be sent, or nothing is lifted. -/
theorem Channel.lifted_buffer (b : Fin 2) :
    let next := max ch.next ch.accepted
    let kept : Prop := ∃ n, ch.buffers[b].blockNo = some n ∧ (next ≤ n ∨ next = ch.next)
    (kept → ch.lifted.buffers[b] = ch.buffers[b]) ∧ (¬kept → ch.lifted.buffers[b] = .empty) := by
  intro next kept
  by_cases h : ch.next < ch.accepted
  · have hnext : next = ch.accepted := max_eq_right h.le
    have hlift : ch.lifted.buffers[b] = ch.buffers[b].keptBy (FetchBuffer.notBelow ch.accepted) := by
      simp only [Channel.lifted, h, if_true]
      simp
    rw [hlift]
    refine ⟨fun ⟨n, hn, hle⟩ => ?_, fun hno => ?_⟩
    · have hle : ch.accepted ≤ n := by omega
      refine if_pos ?_
      cases hb : ch.buffers[b] with
      | empty => rfl
      | fetching s =>
        rw [hb] at hn
        cases hn
        exact decide_eq_true hle
      | holding s data =>
        rw [hb] at hn
        cases hn
        exact decide_eq_true hle
    · cases hb : ch.buffers[b] with
      | empty => exact ite_self _
      | fetching s =>
        refine if_neg fun hkeep => hno ⟨s, by rw [hb]; rfl, .inl ?_⟩
        rw [hnext]
        exact of_decide_eq_true hkeep
      | holding s data =>
        refine if_neg fun hkeep => hno ⟨s, by rw [hb]; rfl, .inl ?_⟩
        rw [hnext]
        exact of_decide_eq_true hkeep
  · have hnext : next = ch.next := max_eq_left (Nat.le_of_not_lt h)
    have hlift : ch.lifted = ch := if_neg h
    rw [hlift]
    refine ⟨fun _ => rfl, fun hno => FetchBuffer.blockNo_none ?_⟩
    exact Option.eq_none_iff_forall_ne_some.mpr fun n hn => hno ⟨n, hn, .inr hnext⟩

end

/-- R104, R105: the channel and its port once a RECEIPT is noted and next-to-send lifted. -/
def Device.receipted (d : Device) (c : ChannelNo) (accepted limit : Nat) : Device :=
  d.recast c (d.channels[c].noteReceipt d.config.tReply accepted limit).lifted
    ((d.channels[c].noteReceipt d.config.tReply accepted limit).liftGone c)

theorem Device.takeReceipt_eq (d : Device) (c : ChannelNo) (accepted limit : Nat) (final : Bool) :
    d.takeReceipt c accepted limit final =
      if final then (d.receipted c accepted limit).endTransfer c .done none
      else (d.receipted c accepted limit).requestReads c := by
  have hnoted : (d.updChannel c fun ch => ch.noteReceipt d.config.tReply accepted limit).liftNext c =
      d.receipted c accepted limit := by
    have hsame := d.updChannel_same c fun ch => ch.noteReceipt d.config.tReply accepted limit
    rw [Device.liftNext_recast, hsame, Device.updChannel_recast]
    rfl
  unfold Device.takeReceipt
  dsimp only
  rw [hnoted]

/-- Settles O42: the counts, and the buffers by what the lift keeps and the requests fill. -/
theorem receiptsAdvanceTheChannel : Obligations.ReceiptsAdvanceTheChannel := by
  intro s x c g accepted limit final hx hok hrange ch fits
  have hiff : ∀ a, s.dev.matched x c g a →
      (s.dev.channels[c].receiptFits accepted limit final = true ↔ fits a) := fun a hm => Channel.receiptFits_iff hm.2.1
  rw [exec_receiptArrives_of_hears hx hrange]
  refine ⟨fun a hm hfits hstate hfinal => ?_, fun a hm hfits hstate => ?_, fun hserved hno => ?_⟩
  · obtain ⟨-, hcounters, -⟩ := hok c
    have hadvanced := Channel.noteReceipt_lifted (tReply := s.dev.config.tReply) hm.2.1 hstate hcounters hfits.1 hfits.2.1
    obtain ⟨⟨hsame, hbuffers⟩, hother, hwrites⟩ := (s.dev.receipted c accepted limit).requestReads_asks c
    have hreceipted : (s.dev.receipted c accepted limit).channels[c] =
        (s.dev.channels[c].noteReceipt s.dev.config.tReply accepted limit).lifted := Device.recast_same ..
    rw [hreceipted] at hsame hbuffers
    refine ⟨(s.dev.receipted c accepted limit).requestReads c, ?_, ?_, fun b hb => ?_, fun b => ?_, ?_⟩
    · rw [Device.handleReceipt_taken hm ((hiff a hm).mpr hfits) hstate, Device.takeReceipt_eq, hfinal]
      rfl
    · rw [hadvanced] at hsame
      exact hsame
    · exact (hother b hb).trans (Device.recast_other _ _ _ _ hb)
    · have hlimit : (s.dev.channels[c].noteReceipt s.dev.config.tReply accepted limit).lifted.limit =
          max s.dev.channels[c].limit limit := by rw [hadvanced]; rfl
      have hnext : (s.dev.channels[c].noteReceipt s.dev.config.tReply accepted limit).lifted.next =
          max s.dev.channels[c].next (max s.dev.channels[c].accepted accepted) := by rw [hadvanced]; rfl
      rw [hlimit, hnext] at hbuffers
      obtain ⟨hkept, hgone⟩ := Channel.lifted_buffer
        (ch := s.dev.channels[c].noteReceipt s.dev.config.tReply accepted limit) b
      refine ⟨fun hk => ?_, fun hk => ?_⟩
      · rcases hbuffers b with hb | ⟨hempty, -⟩
        · exact hb.trans (hkept hk)
        · have hempty : s.dev.channels[c].buffers[b] = .empty := (hkept hk).symm.trans hempty
          obtain ⟨n, hn, -⟩ := hk
          have hn : s.dev.channels[c].buffers[b].blockNo = some n := hn
          rw [hempty] at hn
          cases hn
      · rcases hbuffers b with hb | ⟨-, n, hn, hl, hf⟩
        · exact .inl (hb.trans (hgone hk))
        · exact .inr ⟨n, hf, hn, hl⟩
    · rw [hwrites]
      simp only [Device.requestReads_keeps]
      exact ⟨rfl, rfl, rfl, rfl, rfl, rfl⟩
  · rw [Device.handleReceipt_paused hm ((hiff a hm).mpr hfits) hstate]
    rfl
  · rw [Device.handleReceipt_ignored fun a hm hfits => hno a hm ((hiff a hm).mp hfits),
      Device.settle_served_of_hears hx hserved]
    rfl

end Sys2Proof.Machine

/-! The final RECEIPT (R54 to R56, R105, R156): the transfer is recorded DONE, its done event applied, the standby promoted, and
what the chain flag or the latch calls for is begun. -/

namespace Sys2Proof.Machine

/-! ### The record of a transfer that is DONE (R54, R55) -/

/-- R54, R55: channel c, so changed, after the record of DONE and before the done event. -/
def Channel.closed (ch : Channel) (a : Descriptor) : Channel :=
  { ch with
    timer := none, buffers := #v[.empty, .empty],
    last := { outcome := some .done, reason := none, generation := ch.generation,
              bytes := confirmedBytes ch.accepted a.length } }

/-- R54 steps 1 to 4: the block once a transfer of descriptor a on channel c, which then reads ch, is recorded DONE. -/
def Device.doneRecorded (d : Device) (c : ChannelNo) (a : Descriptor) (ch : Channel) : Device :=
  { d with
    channels := d.channels.set c (ch.closed a)
    span := { d.span with initiation := changeSlot c dropOffer d.span.initiation }
    port := d.port.without c
    lport := d.lport.post (.channelEnded c a.target a.window ch.generation .done none
      (confirmedBytes ch.accepted a.length)) }

section
variable {d : Device} {c : ChannelNo} {a : Descriptor}

theorem Device.doneRecorded_channel (ch : Channel) : (d.doneRecorded c a ch).channels[c] = ch.closed a :=
  Vector.getElem_set_self _

theorem Device.closeTransfer_done :
    (d.closeTransfer c a .done).recordOutcome c a .done none = d.doneRecorded c a d.channels[c] := by
  simp only [Device.closeTransfer, Device.stopMachinery, Device.emptyBuffers_all, Device.removeOffer, Device.recordOutcome,
    TransferOutcome.withdraw, Device.updChannel, Device.updSpan, Device.post, Device.updLocal, Device.doneRecorded,
    Channel.closed]
  simp

theorem Device.endTransfer_done (hactive : d.channels[c].active = some a) :
    d.endTransfer c .done none =
      (((d.doneRecorded c a d.channels[c]).applyDone c a .done).updChannel c Channel.promote).afterPromotion c .done
        a.chain := by
  simp only [Device.endTransfer, hactive]
  rw [← Device.closeTransfer_done]
  rfl

theorem Device.recast_doneRecorded {ch : Channel} {gone : ReadRequest → Bool} (hgone : ∀ r, gone r = true → r.channel = c) :
    (d.recast c ch gone).doneRecorded c a ch = d.doneRecorded c a ch := by
  simp only [Device.doneRecorded, Device.recast, MemoryPort.abandon_without hgone, Vector.set_set]

end

/-! ### The done event leaves the channel's standby (R48, R49, R153) -/

theorem Device.begun_other (d : Device) {c b : ChannelNo} (a : Descriptor) (h : b ≠ c) :
    (d.begun c a).channels[b] = d.channels[b] :=
  Vector.getElem_set_ne c.isLt b.isLt fun he => h (Fin.ext he.symm)

/-- A start latches a channel in a transfer, at most. -/
theorem Device.startedBy_inTransfer {d : Device} {c : ChannelNo} (h : d.channels[c].state.inTransfer = true) (e : ChannelNo)
    (cause : MissedCause) :
    (d.startedBy e cause).channels[c] = d.channels[c] ∨
      (d.startedBy e cause).channels[c] = { d.channels[c] with latch := true } := by
  unfold Device.startedBy
  split
  next hready =>
    have hne : c ≠ e := fun he => by
      subst he
      rw [hready.2] at h
      cases h
    split
    next a _ => exact .inl (d.begun_other a hne)
    next => exact .inl rfl
  next =>
    split
    next =>
      by_cases he : c = e
      · subst he
        exact .inr (Vector.getElem_set_self _)
      · exact .inl (Vector.getElem_set_ne e.isLt c.isLt fun h => he (Fin.ext h.symm))
    next => exact .inl rfl

theorem Device.signalled_inTransfer {d : Device} {c : ChannelNo} (h : d.channels[c].state.inTransfer = true) (x : Station)
    (cause : SignalCause) (e : EventNo) (argument : BitVec 16) :
    (d.signalled x cause e argument).channels[c] = d.channels[c] ∨
      (d.signalled x cause e argument).channels[c] = { d.channels[c] with latch := true } := by
  unfold Device.signalled
  dsimp only
  split
  next =>
    split
    next => exact Device.startedBy_inTransfer (d := { d with lport := d.lport.post (.signal x cause e argument) }) h _ _
    next => exact Device.startedBy_inTransfer h _ _
  next =>
    split
    next => exact .inl rfl
    next => exact .inl rfl

/-! ### After the promotion (R56) -/

section
variable {d : Device} {c : ChannelNo}

theorem Device.afterPromotion_empty (chain : Bool) (hnone : d.channels[c].standby = none) :
    (d.updChannel c Channel.promote).afterPromotion c .done chain =
      { d with
        channels := d.channels.set c { d.channels[c] with active := none, state := .empty, latch := false }
        lport := if d.channels[c].latch then d.lport.post (.startMissed c .latch) else d.lport } := by
  have hpromoted : d.channels[c].promote = { d.channels[c] with active := none, state := .empty } := by
    simp only [Channel.promote, hnone]
  have hsame := d.updChannel_same c Channel.promote
  rw [hpromoted] at hsame
  simp only [Device.afterPromotion, if_true, hsame]
  cases hlatch : d.channels[c].latch with
  | false =>
    simp only [Bool.false_eq_true, if_false, Device.updChannel, hpromoted, hlatch]
  | true =>
    simp only [if_true]
    have htwice : (d.updChannel c Channel.promote).updChannel c (fun ch => { ch with latch := false }) =
        { d with channels := d.channels.set c { d.channels[c] with active := none, state := .empty, latch := false } } := by
      refine congrArg (fun v => { d with channels := v }) ?_
      refine (congrArg (fun ch : Channel => Vector.set _ c { ch with latch := false } c.isLt) hsame).trans ?_
      exact Vector.set_set ..
    rw [htwice]
    rfl

theorem Device.afterPromotion_ready {b : Descriptor} (chain : Bool) (ho : d.control.owed = false)
    (hsome : d.channels[c].standby = some b) :
    let ready : Device :=
      { d with channels := d.channels.set c { d.channels[c] with active := some b, standby := none, state := .ready } }
    (d.updChannel c Channel.promote).afterPromotion c .done chain =
      if chain = true ∨ d.channels[c].latch = true then ready.begun c b else ready := by
  intro ready
  have hpromoted : d.channels[c].promote = { d.channels[c] with active := some b, standby := none, state := .ready } := by
    simp only [Channel.promote, hsome]
  have hready : d.updChannel c Channel.promote = ready :=
    congrArg (fun ch => { d with channels := d.channels.set c ch }) hpromoted
  have hsame : ready.channels[c] = { d.channels[c] with active := some b, standby := none, state := .ready } :=
    Vector.getElem_set_self _
  have hbegin : ready.beginTransfer c = ready.begun c b :=
    Device.beginTransfer_begun ready c b ho (by rw [hsame])
  rw [hready]
  simp only [Device.afterPromotion, if_true, hsame, hbegin, Bool.or_eq_true]

end

theorem confirmedBytes_all (length : Nat) : confirmedBytes (blockCount length) length = length := by
  unfold confirmedBytes blockCount
  omega

/-- Settles O43: the receipt brings every count to the block count, and the ending is put together from its steps. -/
theorem finalReceiptEndsDone : Obligations.FinalReceiptEndsDone := by
  intro s x c g a hx hjoined hok hm hstate ch n closed recorded told latch emptied promoted
  obtain ⟨-, hcounters, hranges⟩ := hok c
  have hactive := hm.2.1
  have hfits := (Channel.receiptFits_iff (accepted := n) (limit := n) (final := true) hactive).mpr
    ⟨le_rfl, le_rfl, fun _ => rfl⟩
  have hcount := hcounters.2.2.2.1 hstate
  simp only [Channel.blocks, hactive] at hcount
  obtain ⟨hal, hln, hnl, -⟩ := hcount
  obtain ⟨-, -, -, hlengths, -⟩ := hranges
  obtain ⟨hpos, hlong⟩ := hlengths a hactive
  simp only [Config.lengthMax] at hlong
  have hrange : receiptInRange n n = true := by
    have hn : n = (a.length + 63) / 64 := rfl
    simp only [receiptInRange, Config.countMax, Bool.and_eq_true, decide_eq_true_eq]
    omega
  obtain ⟨lifted, hlifted⟩ : ∃ l, (s.dev.channels[c].noteReceipt s.dev.config.tReply n n).lifted = l := ⟨_, rfl⟩
  have hn1 : max s.dev.channels[c].accepted n = n := max_eq_right (hal.trans hln)
  have hn2 : max s.dev.channels[c].limit n = n := max_eq_right hln
  have hn3 : max s.dev.channels[c].next n = n := max_eq_right (hnl.trans hln)
  have hadvanced : lifted = { s.dev.channels[c].advanced s.dev.config.tReply n n n with buffers := lifted.buffers } :=
    hlifted ▸ Channel.noteReceipt_lifted hactive hstate hcounters le_rfl le_rfl
  have hclosed : lifted.closed a = closed := by
    have hbytes : confirmedBytes n a.length = a.length := confirmedBytes_all a.length
    have hgen : s.dev.channels[c].generation = g := hm.2.2.2
    rw [hadvanced]
    obtain rfl := hgen
    simp only [Channel.closed, Channel.advanced, hn1, hn2, hn3, if_true, hbytes]
    rfl
  have hrecorded : (s.dev.receipted c n n).doneRecorded c a lifted = recorded := by
    have hbytes : confirmedBytes lifted.accepted a.length = a.length := congrArg (·.last.bytes) hclosed
    have hgen : lifted.generation = g := congrArg (·.last.generation) hclosed
    have htarget : a.target = x := hm.2.2.1
    unfold Device.receipted
    rw [hlifted, Device.recast_doneRecorded fun r => Channel.liftGone_channel]
    simp only [Device.doneRecorded, hclosed, hbytes, hgen, htarget]
    rfl
  have htold : recorded.applyDone c a .done = told := by
    have hgen : recorded.channels[c].generation = g := by
      have hsame : recorded.channels[c] = closed := Vector.getElem_set_self _
      rw [hsame]
      exact hm.2.2.2
    unfold Device.applyDone
    simp only [hgen, told]
    cases a.doneEvent with
    | none => rfl
    | some e => exact Device.applySignal_signalled (d := recorded) (fun _ => hx.2.1) _ _ _ _
  have howed : told.control.owed = false := by
    rw [← htold, (Device.applyDone_keeps ..).1]
    exact hx.2.1
  have hstandby : told.channels[c].standby = ch.standby := by
    have hsame : recorded.channels[c] = closed := Vector.getElem_set_self _
    have htransfer : recorded.channels[c].state.inTransfer = true := by rw [hsame]; rfl
    have hkept : told.channels[c].standby = recorded.channels[c].standby := by
      simp only [told]
      cases a.doneEvent with
      | none => rfl
      | some e =>
        rcases Device.signalled_inTransfer htransfer s.dev.control.number (.done c g) e 0 with h | h
        · exact (congrArg Channel.standby h :)
        · exact (congrArg Channel.standby h :)
    rw [hkept, hsame]
  have hended : s.dev.handleReceipt x c g n n true =
      (told.updChannel c Channel.promote).afterPromotion c .done a.chain := by
    have hsame : (s.dev.receipted c n n).channels[c] = lifted := (Device.recast_same ..).trans hlifted
    have hlive : (s.dev.receipted c n n).channels[c].active = some a := by
      rw [hsame, hadvanced]
      exact hactive
    rw [Device.handleReceipt_taken hm hfits hstate, Device.takeReceipt_eq, if_pos rfl, Device.endTransfer_done hlive, hsame,
      hrecorded, htold]
  rw [exec_receiptArrives_of_hears hx hrange, hended]
  refine ⟨fun hnone => ?_, ?_⟩
  · rw [Device.afterPromotion_empty a.chain (hstandby.trans hnone)]
  · intro b hsome ready
    rw [Device.afterPromotion_ready a.chain howed (hstandby.trans hsome)]

end Sys2Proof.Machine

/-! A channel in order (R39, R40, R41, R55, R88, R89) and its agreement with the read requests (R140 to R142): what each change of a
channel and of the memory port keeps. -/

namespace Sys2Proof.Machine

/-! ### One channel -/

/-- R40, R124: the two fetch buffers of a channel, by its state. -/
abbrev Channel.buffersOk (ch : Channel) : Prop :=
  (∀ b : Fin 2, ch.state ≠ .streaming → ch.state ≠ .draining → ch.buffers[b] = .empty) ∧
  (ch.buffers[(0 : Fin 2)].blockNo = none ∨ ch.buffers[(0 : Fin 2)].blockNo ≠ ch.buffers[(1 : Fin 2)].blockNo)

/-- A channel in order, but for the reads it may still have to request. -/
structure Channel.sound (ch : Channel) : Prop where
  shape : ch.shapeOk
  counters : ch.countersOk
  ranges : ch.rangesOk
  buffers : ch.buffersOk

/-- A channel in order. -/
structure Channel.inOrder (ch : Channel) : Prop extends ch.sound where
  wanted : ch.fetches ch.next
  wantedNext : ch.fetches (ch.next + 1)

/-- A channel whose transfer has been recorded and whose standby is still to be promoted (R54 steps 5 and 6). -/
structure Channel.closing (ch : Channel) : Prop where
  inTransfer : ch.state.inTransfer = true
  stopped : ch.timer = none
  retry : ch.retry ≤ Config.retryMax
  sends : ch.sends ≤ Config.offerSends
  ranges : ch.rangesOk
  empty : ch.buffers = #v[.empty, .empty]

theorem Channel.buffersOk_empty {ch : Channel} (h : ch.buffers = #v[.empty, .empty]) : ch.buffersOk := by
  rw [Channel.buffersOk, h]
  exact ⟨fun b _ _ => Fin.forall_fin_two (p := fun b => (#v[FetchBuffer.empty, .empty])[b] = .empty) |>.mpr ⟨rfl, rfl⟩ b, .inl rfl⟩

/-- Outside STREAMING nothing is wanted. -/
theorem Channel.sound.rest {ch : Channel} (h : ch.sound) (hs : ch.state ≠ .streaming) : ch.inOrder :=
  ⟨h, fun hs' => absurd hs' hs, fun hs' => absurd hs' hs⟩

theorem Channel.sound.buffers_empty {ch : Channel} (h : ch.sound) (hs : ch.state ≠ .streaming) (hd : ch.state ≠ .draining) :
    ch.buffers = #v[.empty, .empty] :=
  Vector.ext_two (h.buffers.1 0 hs hd) (h.buffers.1 1 hs hd)

theorem ChannelState.inTransfer_cases {s : ChannelState} (h : s.inTransfer = true) :
    s = .offering ∨ s = .queued ∨ s = .streaming ∨ s = .draining ∨ s = .paused := by
  cases s <;> simp_all [ChannelState.inTransfer]

theorem ChannelState.not_inTransfer {s : ChannelState} : s.inTransfer = false ↔ s = .empty ∨ s = .ready := by
  cases s <;> simp [ChannelState.inTransfer]

section
variable {ch : Channel}

theorem Channel.inOrder.setLatch (h : ch.inOrder) (l : Bool) : { ch with latch := l }.inOrder :=
  ⟨⟨h.shape, h.counters, h.ranges, h.buffers⟩, h.wanted, h.wantedNext⟩

theorem Channel.closing.setLatch (h : ch.closing) (l : Bool) : { ch with latch := l }.closing :=
  ⟨h.inTransfer, h.stopped, h.retry, h.sends, h.ranges, h.empty⟩

/-- R50: channel c once the transfer of its active descriptor has begun. -/
def Channel.begun (ch : Channel) (tReply : Nat) : Channel :=
  { ch with
    state := .offering, generation := ch.generation + 1, next := 0, accepted := 0, limit := 0, retry := 0, sends := 1,
    timer := some tReply, buffers := #v[.empty, .empty], latch := false }

theorem Channel.inOrder.begun (h : ch.inOrder) {a : Descriptor} (ha : ch.active = some a) (t : Nat) : (ch.begun t).inOrder := by
  obtain ⟨-, -, -, hactive, hstandby, hbytes⟩ := h.ranges
  refine Channel.sound.rest ⟨⟨?_, nofun, rfl⟩, ?_, ?_, Channel.buffersOk_empty rfl⟩ nofun
  · simp [Channel.begun, ha]
  · simp [Channel.countersOk, Channel.begun]
  · exact ⟨Nat.zero_le _, Nat.zero_le _, Nat.zero_le _, hactive, hstandby, hbytes⟩

/-- R54 to R57: a channel whose transfer has ended other than DONE, or has none. -/
theorem Channel.inOrder_of_promoted {e : Channel} (hr : ch.rangesOk) (hretry : ch.retry ≤ Config.retryMax)
    (hsends : ch.sends ≤ Config.offerSends) (hlast : e.last.bytes ≤ Config.lengthMax)
    (he : e = { ch with
      state := if ch.standby.isSome then .ready else .empty
      active := ch.standby, standby := none, timer := none, buffers := #v[.empty, .empty], latch := e.latch,
      last := e.last }) : e.inOrder := by
  obtain ⟨hnext, haccepted, hlimit, -, hstandby, -⟩ := hr
  have hstate : e.state = if ch.standby.isSome then .ready else .empty := by rw [he]
  have hrest : e.state = .ready ∨ e.state = .empty := by
    rw [hstate]
    split
    next => exact .inl rfl
    next => exact .inr rfl
  have hns : e.state ≠ .streaming := fun hs => by rcases hrest with h | h <;> cases h.symm.trans hs
  refine Channel.sound.rest ⟨⟨?_, ?_, ?_⟩, ⟨?_, ?_, ?_, ?_, ?_, ?_⟩, ⟨?_, ?_, ?_, ?_, ?_, hlast⟩,
    Channel.buffersOk_empty (by rw [he])⟩ hns
  · rw [hstate, he]
    cases ch.standby <;> simp
  · intro _
    rw [he]
  · rw [he]
    cases ch.standby <;> rfl
  · rw [he]
    exact hretry
  · rw [he]
    exact hsends
  · intro hs
    rcases hrest with h | h <;> rcases hs with hs | hs <;> cases h.symm.trans hs
  · intro hs
    rcases hrest with h | h <;> rcases hs with hs | hs <;> cases h.symm.trans hs
  · exact fun hs => absurd hs hns
  · intro hs
    rcases hrest with h | h <;> cases h.symm.trans hs
  · rw [he]
    exact hnext
  · rw [he]
    exact haccepted
  · rw [he]
    exact hlimit
  · rw [he]
    exact hstandby
  · rw [he]
    nofun

theorem Channel.closing.promote (h : ch.closing) : ch.promote.inOrder := by
  obtain ⟨-, -, -, -, -, hlast⟩ := h.ranges
  refine Channel.inOrder_of_promoted h.ranges h.retry h.sends ?_ ?_
  · rw [Channel.promote_eq]
    exact hlast
  · have hstopped := h.stopped
    have hempty := h.empty
    rw [Channel.promote_eq]
    simp only [hstopped, hempty]

theorem confirmedBytes_le (blocks length : Nat) : confirmedBytes blocks length ≤ length := Nat.min_le_right _ _

theorem Channel.sound.closed (h : ch.sound) {a : Descriptor} (ha : ch.active = some a) (ht : ch.state.inTransfer = true) :
    (ch.closed a).closing := by
  obtain ⟨hretry, hsends, -⟩ := h.counters
  obtain ⟨hnext, haccepted, hlimit, hactive, hstandby, -⟩ := h.ranges
  exact ⟨ht, rfl, hretry, hsends,
    ⟨hnext, haccepted, hlimit, hactive, hstandby, (confirmedBytes_le _ _).trans (hactive a ha).2⟩, rfl⟩

theorem Channel.inOrder.load (h : ch.inOrder) {a : Descriptor} (ha : 1 ≤ a.length ∧ a.length ≤ Config.lengthMax) :
    (ch.load a).inOrder := by
  obtain ⟨hnext, haccepted, hlimit, hactive, hstandby, hbytes⟩ := h.ranges
  obtain ⟨hshape, hempty, htimer⟩ := h.shape
  obtain ⟨hretry, hsends, -⟩ := h.counters
  cases ht : ch.state.inTransfer with
  | true =>
    rw [Channel.load_inTransfer ht]
    have hstate : ch.state ≠ .empty := fun he => by
      rw [he] at ht
      cases ht
    exact ⟨⟨⟨hshape, fun he => absurd he hstate, htimer⟩, h.counters,
      ⟨hnext, haccepted, hlimit, hactive, fun b hb => Option.some.inj hb ▸ ha, hbytes⟩, h.buffers⟩, h.wanted, h.wantedNext⟩
  | false =>
    rw [Channel.load_atRest ht]
    have hns : ch.state ≠ .streaming := fun hs => by rw [hs] at ht; cases ht
    have hnd : ch.state ≠ .draining := fun hs => by rw [hs] at ht; cases ht
    have hbuffers := h.buffers_empty hns hnd
    exact Channel.sound.rest ⟨⟨⟨nofun, nofun⟩, nofun, htimer.trans ht⟩,
      ⟨hretry, hsends, by simp, by simp, nofun, nofun⟩,
      ⟨hnext, haccepted, hlimit, fun b hb => Option.some.inj hb ▸ ha, hstandby, hbytes⟩,
      Channel.buffersOk_empty hbuffers⟩ nofun

theorem Channel.inOrder.stopIdle (h : ch.inOrder) : ch.stopIdle.inOrder := by
  by_cases hs : ch.state = .ready
  · have hbuffers := h.buffers_empty (by rw [hs]; nofun) (by rw [hs]; nofun)
    have htimer : ch.timer = none := by
      have := h.shape.2.2
      rw [hs] at this
      exact Option.isSome_eq_false_iff.mp this |> Option.isNone_iff_eq_none.mp
    obtain ⟨hretry, hsends, -⟩ := h.counters
    obtain ⟨-, -, -, -, -, hbytes⟩ := h.ranges
    refine Channel.inOrder_of_promoted h.ranges hretry hsends ?_ ?_
    · rw [Channel.stopIdle_ready hs]
      exact hbytes
    · rw [Channel.stopIdle_ready hs]
      simp only [htimer, hbuffers]
  · rw [Channel.stopIdle_other hs]
    exact h

theorem Channel.inOrder.clear (h : ch.inOrder) (ht : ch.state.inTransfer = false) :
    { ch with active := none, standby := none, latch := false, state := .empty }.inOrder := by
  have hns : ch.state ≠ .streaming := fun hs => by rw [hs] at ht; cases ht
  have hnd : ch.state ≠ .draining := fun hs => by rw [hs] at ht; cases ht
  obtain ⟨hnext, haccepted, hlimit, -, -, hbytes⟩ := h.ranges
  obtain ⟨hretry, hsends, -⟩ := h.counters
  refine Channel.sound.rest ⟨⟨⟨fun _ => rfl, fun _ => rfl⟩, fun _ => rfl, h.shape.2.2.trans ht⟩,
    ⟨hretry, hsends, by simp, by simp, nofun, nofun⟩, ⟨hnext, haccepted, hlimit, nofun, nofun, hbytes⟩,
    Channel.buffersOk_empty (h.buffers_empty hns hnd)⟩ nofun

theorem Channel.afterReset_inOrder (g : Generation) : (Channel.afterReset g).inOrder :=
  Channel.sound.rest ⟨⟨⟨fun _ => rfl, fun _ => rfl⟩, fun _ => rfl, rfl⟩,
    ⟨Nat.zero_le _, Nat.zero_le _, by simp [Channel.afterReset], by simp [Channel.afterReset], nofun, nofun⟩,
    ⟨Nat.zero_le _, Nat.zero_le _, Nat.zero_le _, nofun, nofun, Nat.zero_le _⟩, Channel.buffersOk_empty rfl⟩ nofun

end

/-! ### A transfer that goes on -/

theorem blockCount_le {length : Nat} (h : length ≤ Config.lengthMax) : blockCount length ≤ Config.countMax := by
  simp only [Config.lengthMax, Config.countMax, blockCount] at *
  omega

theorem FetchBuffer.blockNo_keptBy {keep : FetchBuffer → Bool} {b : FetchBuffer} {n : Nat}
    (h : (b.keptBy keep).blockNo = some n) : b.blockNo = some n := by
  rcases FetchBuffer.keptBy_cases keep b with ⟨-, heq⟩ | ⟨-, heq⟩
  · rwa [heq] at h
  · rw [heq] at h
    cases h

theorem Vector.getElem_map_two {α β : Type} (v : Vector α 2) (f : α → β) (b : Fin 2) : (v.map f)[b] = f v[b] := by simp

/-- Emptying keeps the two buffers for distinct blocks. -/
theorem FetchBuffer.distinct_keptBy {v : Vector FetchBuffer 2} (keep : FetchBuffer → Bool)
    (h : v[(0 : Fin 2)].blockNo = none ∨ v[(0 : Fin 2)].blockNo ≠ v[(1 : Fin 2)].blockNo) :
    (v.map (FetchBuffer.keptBy keep))[(0 : Fin 2)].blockNo = none ∨
      (v.map (FetchBuffer.keptBy keep))[(0 : Fin 2)].blockNo ≠ (v.map (FetchBuffer.keptBy keep))[(1 : Fin 2)].blockNo := by
  rw [Vector.getElem_map_two, Vector.getElem_map_two]
  rcases h0 : (v[(0 : Fin 2)].keptBy keep).blockNo with _ | n
  · exact .inl rfl
  · refine .inr fun heq => ?_
    have h0 := FetchBuffer.blockNo_keptBy h0
    have h1 := FetchBuffer.blockNo_keptBy heq.symm
    rcases h with h | h
    · cases h.symm.trans h0
    · exact h (h0.trans h1.symm)

/-- A channel that streams or drains with these counters, in order but for its requests. -/
theorem Channel.sound_of_moving {ch e : Channel} {a : Descriptor} (h : ch.sound) (ha : ch.active = some a)
    (hactive : e.active = ch.active) (hstandby : e.standby = ch.standby) (hlast : e.last = ch.last)
    (hsends : e.sends = ch.sends) (htimer : e.timer.isSome = true) (hretry : e.retry ≤ Config.retryMax)
    (hstate : e.state = .streaming ∧ e.next < blockCount a.length ∨ e.state = .draining ∧ e.next = blockCount a.length)
    (hal : e.accepted ≤ e.limit) (hlb : e.limit ≤ blockCount a.length) (hnl : e.next ≤ e.limit) (han : e.accepted ≤ e.next + 1)
    (hbuffers : e.buffers[(0 : Fin 2)].blockNo = none ∨ e.buffers[(0 : Fin 2)].blockNo ≠ e.buffers[(1 : Fin 2)].blockNo) :
    e.sound := by
  obtain ⟨-, -, -, hlengths, hstandbys, hbytes⟩ := h.ranges
  have hmoving : e.state = .streaming ∨ e.state = .draining := hstate.imp (·.1) (·.1)
  have hblocks : e.blocks = blockCount a.length := by simp only [Channel.blocks, hactive, ha]
  have hcount := blockCount_le (hlengths a ha).2
  have hne : e.state ≠ .empty := fun he => by rcases hmoving with h | h <;> cases h.symm.trans he
  refine ⟨⟨?_, fun he => absurd he hne, ?_⟩, ⟨hretry, hsends ▸ h.counters.2.1, ?_, fun _ => ?_, ?_, ?_⟩,
    ⟨by omega, by omega, by omega, ?_, ?_, ?_⟩, fun b hs hd => ?_, hbuffers⟩
  · rw [hactive, ha]
    exact ⟨nofun, fun he => absurd he hne⟩
  · rw [htimer]
    rcases hmoving with hs | hs <;> rw [hs] <;> rfl
  · intro hs
    rcases hmoving with h | h <;> rcases hs with hs | hs <;> cases h.symm.trans hs
  · rw [hblocks]
    exact ⟨hal, hlb, hnl, han⟩
  · intro hs
    rw [hblocks]
    rcases hstate with ⟨-, hlt⟩ | ⟨hd, -⟩
    · exact hlt
    · cases hd.symm.trans hs
  · intro hs
    rw [hblocks]
    rcases hstate with ⟨hd, -⟩ | ⟨-, heq⟩
    · cases hd.symm.trans hs
    · exact heq
  · rw [hactive]
    exact hlengths
  · rw [hstandby]
    exact hstandbys
  · rw [hlast]
    exact hbytes
  · rcases hmoving with h | h
    · exact absurd h hs
    · exact absurd h hd

end Sys2Proof.Machine

/-! The fetch buffers and the read requests agree (R89, R140 to R142): what keeps the agreement, and the order of every channel. -/

namespace Sys2Proof.Machine

/-! ### Requests and buffers (R140 to R142) -/

/-- The reads that wait and the one in flight, unless it is abandoned. -/
def MemoryPort.outstanding (p : MemoryPort) : List ReadRequest := p.reads ++ p.liveRead

/-- R140: the outstanding reads are for distinct buffers, each of which is fetching the block asked for, and they are all
the buffers that fetch. R141: a write in flight is the head of the write queue. -/
structure Device.portAgrees (d : Device) : Prop where
  distinct : (d.port.outstanding.map ReadRequest.place).Nodup
  fetching : ∀ r ∈ d.port.outstanding, d.channels[r.channel].buffers[r.buffer] = .fetching r.block
  requested : ∀ (c : ChannelNo) (b : Fin 2), d.channels[c].buffers[b].isFetching = true →
    ∃ r ∈ d.port.outstanding, r.place = (c, b)
  writing : d.port.access = some .write → d.port.writes ≠ []

section
variable {d e : Device}

/-- The agreement depends on the buffers and the outstanding reads alone. -/
theorem Device.portAgrees.congr (h : d.portAgrees) (hbuffers : ∀ c : ChannelNo, e.channels[c].buffers = d.channels[c].buffers)
    (hreads : e.port.outstanding.Perm d.port.outstanding) (hwrites : e.port.access = some .write → e.port.writes ≠ []) :
    e.portAgrees := by
  refine ⟨(hreads.map _).nodup_iff.mpr h.distinct, fun r hr => ?_, fun c b hb => ?_, hwrites⟩
  · rw [hbuffers]
    exact h.fetching r (hreads.mem_iff.mp hr)
  · rw [hbuffers] at hb
    obtain ⟨r, hr, hplace⟩ := h.requested c b hb
    exact ⟨r, hreads.mem_iff.mpr hr, hplace⟩

theorem MemoryPort.abandon_outstanding (p : MemoryPort) (gone : ReadRequest → Bool) :
    (p.abandon gone).outstanding = p.outstanding.filter fun r => !gone r := by
  obtain ⟨writes, reads, access⟩ := p
  simp only [MemoryPort.outstanding, MemoryPort.abandon, MemoryPort.liveRead, List.filter_append]
  congr 1
  rcases access with _ | _ | ⟨r, _ | _⟩
  · rfl
  · rfl
  · cases hg : gone r <;> simp [hg]
  · rfl

theorem MemoryPort.abandon_writing {p : MemoryPort} {gone : ReadRequest → Bool}
    (h : (p.abandon gone).access = some .write) : p.access = some .write := by
  obtain ⟨writes, reads, access⟩ := p
  rcases access with _ | _ | ⟨r, ab⟩
  · cases h
  · rfl
  · cases h

/-- R140, R142: buffers are emptied and their reads given up. -/
theorem Device.portAgrees.recast (h : d.portAgrees) (c : ChannelNo) {ch : Channel} {keep : FetchBuffer → Bool}
    (hbuffers : ch.buffers = d.channels[c].buffers.map (FetchBuffer.keptBy keep)) {gone : ReadRequest → Bool}
    (hgone : ∀ r, gone r = d.channels[c].givesUp c keep r) : (d.recast c ch gone).portAgrees := by
  have hout : (d.recast c ch gone).port.outstanding =
      d.port.outstanding.filter fun r => !d.channels[c].givesUp c keep r := by
    rw [← funext hgone]
    exact MemoryPort.abandon_outstanding ..
  have hbuffer : ∀ b : Fin 2, (d.recast c ch gone).channels[c].buffers[b] = d.channels[c].buffers[b].keptBy keep := fun b => by
    rw [Device.recast_same, hbuffers, Vector.getElem_map_two]
  refine ⟨?_, fun r hr => ?_, fun e b hb => ?_, fun hw => h.writing (MemoryPort.abandon_writing hw)⟩
  · rw [hout]
    exact h.distinct.sublist (List.filter_sublist.map _)
  · rw [hout, List.mem_filter, Bool.not_eq_true'] at hr
    obtain ⟨hr, hstays⟩ := hr
    have hfetching := h.fetching r hr
    obtain ⟨e, b, block, address, bytes, level⟩ := r
    by_cases he : e = c
    · subst he
      have hkeep : keep d.channels[e].buffers[b] = true := by
        simpa [Channel.givesUp] using hstays
      exact (hbuffer b).trans ((if_pos hkeep).trans hfetching)
    · exact (congrArg (fun x : Channel => x.buffers[b]) (Device.recast_other _ _ _ _ he)).trans hfetching
  · rw [hout]
    by_cases he : e = c
    · subst he
      rw [hbuffer] at hb
      rcases FetchBuffer.keptBy_cases keep d.channels[e].buffers[b] with ⟨hkeep, heq⟩ | ⟨-, heq⟩
      · rw [heq] at hb
        obtain ⟨r, hr, hplace⟩ := h.requested e b hb
        refine ⟨r, List.mem_filter.mpr ⟨hr, ?_⟩, hplace⟩
        obtain ⟨e', b', block, address, bytes, level⟩ := r
        obtain ⟨rfl, rfl⟩ := Prod.mk.inj hplace
        have hkeep : keep d.channels[e'].buffers[b'] = true := hkeep
        simp only [Channel.givesUp, decide_true, Bool.true_and, Bool.not_not]
        exact hkeep
      · rw [heq] at hb
        cases hb
    · rw [Device.recast_other _ _ _ _ he] at hb
      obtain ⟨r, hr, hplace⟩ := h.requested e b hb
      refine ⟨r, List.mem_filter.mpr ⟨hr, ?_⟩, hplace⟩
      have hr : r.channel = e := (Prod.mk.inj hplace).1
      have hne : decide (r.channel = c) = false := decide_eq_false (hr ▸ he)
      simp [Channel.givesUp, hne]

/-- R140: both buffers of a channel are emptied. -/
theorem Device.portAgrees.recast_empty (h : d.portAgrees) (c : ChannelNo) {ch : Channel}
    (hbuffers : ch.buffers = #v[.empty, .empty]) : (d.recast c ch fun r => decide (r.channel = c)).portAgrees := by
  refine h.recast c (keep := fun _ => false) (hbuffers.trans (Vector.ext_two ?_ ?_)) fun r => ?_
  · rw [Vector.getElem_map_two]
    rfl
  · rw [Vector.getElem_map_two]
    rfl
  · simp [Channel.givesUp]

/-- R140: a read is requested for an empty buffer. -/
theorem Device.portAgrees.requestsRead (h : d.portAgrees) {c : ChannelNo} (a : Descriptor) {b : Fin 2} (n : Nat)
    (hempty : d.channels[c].buffers[b] = .empty) : (d.requested c a b n).portAgrees := by
  have hout : (d.requested c a b n).port.outstanding.Perm (a.request c b n :: d.port.outstanding) := by
    have hlive : (d.requested c a b n).port.liveRead = d.port.liveRead := rfl
    unfold MemoryPort.outstanding
    rw [hlive]
    show (d.port.reads ++ [a.request c b n] ++ d.port.liveRead).Perm _
    rw [List.append_assoc]
    exact List.perm_middle
  have hplace : ∀ r ∈ d.port.outstanding, r.place ≠ (c, b) := fun r hr he => by
    have hfetching := h.fetching r hr
    obtain ⟨c', b', block, address, bytes, level⟩ := r
    obtain ⟨rfl, rfl⟩ := Prod.mk.inj he
    cases hempty.symm.trans hfetching
  have hsame : (d.requested c a b n).channels[c].buffers[b] = .fetching n := by
    rw [Device.requested_channel]
    exact Vector.getElem_set_self _
  have hother : ∀ (e : ChannelNo) (i : Fin 2), (e, i) ≠ (c, b) →
      (d.requested c a b n).channels[e].buffers[i] = d.channels[e].buffers[i] := fun e i hne => by
    by_cases he : e = c
    · subst he
      have hi : i ≠ b := fun hi => hne (by rw [hi])
      rw [Device.requested_channel]
      exact Vector.getElem_set_ne b.isLt i.isLt fun h => hi (Fin.ext h.symm)
    · exact congrArg (fun ch : Channel => ch.buffers[i])
        (Vector.getElem_set_ne c.isLt e.isLt fun h => he (Fin.ext h.symm))
  refine ⟨?_, fun r hr => ?_, fun e i hi => ?_, h.writing⟩
  · rw [(hout.map _).nodup_iff, List.map_cons, List.nodup_cons]
    refine ⟨fun hmem => ?_, h.distinct⟩
    obtain ⟨r, hr, he⟩ := List.mem_map.mp hmem
    exact hplace r hr he
  · rcases List.mem_cons.mp (hout.mem_iff.mp hr) with rfl | hr
    · exact hsame
    · exact (hother r.channel r.buffer (hplace r hr)).trans (h.fetching r hr)
  · by_cases he : (e, i) = (c, b)
    · exact ⟨a.request c b n, hout.mem_iff.mpr List.mem_cons_self, he.symm⟩
    · rw [hother e i he] at hi
      obtain ⟨r, hr, hpl⟩ := h.requested e i hi
      exact ⟨r, hout.mem_iff.mpr (List.mem_cons_of_mem _ hr), hpl⟩

end

/-! ### The order of the channels with their port -/

/-- Every channel is as K says, and the port agrees with them. -/
structure Device.ordered (K : ChannelNo → Channel → Prop) (d : Device) : Prop where
  each : ∀ c : ChannelNo, K c d.channels[c]
  port : d.portAgrees

/-- All channels in order. -/
abbrev Device.allInOrder (d : Device) : Prop := d.ordered fun _ ch => ch.inOrder

/-- Every channel but c is in order, and c is as K says. -/
def Channel.exceptAt (c : ChannelNo) (K : Channel → Prop) (b : ChannelNo) (ch : Channel) : Prop :=
  if b = c then K ch else ch.inOrder

theorem Channel.exceptAt_same {c : ChannelNo} {K : Channel → Prop} {ch : Channel} : Channel.exceptAt c K c ch ↔ K ch := by
  simp [Channel.exceptAt]

theorem Channel.exceptAt_other {b c : ChannelNo} {K : Channel → Prop} {ch : Channel} (h : b ≠ c) :
    Channel.exceptAt c K b ch ↔ ch.inOrder := by
  simp [Channel.exceptAt, h]

theorem Device.inOrder_iff {d : Device} : d.channelsOk ∧ d.fetchOk ∧ d.wantedOk ↔ d.allInOrder := by
  constructor
  · rintro ⟨hchannels, ⟨hempty, hdistinct, hnodup, hfetching, hrequested, hwriting⟩, hwanted⟩
    refine ⟨fun c => ?_, ⟨hnodup, hfetching, hrequested, hwriting⟩⟩
    obtain ⟨hshape, hcounters, hranges⟩ := hchannels c
    obtain ⟨hnext, hnextNext⟩ := hwanted c
    exact ⟨⟨hshape, hcounters, hranges, ⟨hempty c, hdistinct c⟩⟩, hnext, hnextNext⟩
  · rintro ⟨heach, hport⟩
    exact ⟨fun c => ⟨(heach c).shape, (heach c).counters, (heach c).ranges⟩,
      ⟨fun c => (heach c).buffers.1, fun c => (heach c).buffers.2, hport.distinct, hport.fetching, hport.requested, hport.writing⟩,
      fun c => ⟨(heach c).wanted, (heach c).wantedNext⟩⟩

section
variable {d e : Device} {K : ChannelNo → Channel → Prop}

/-- Nothing of a channel, of the reads or of the access changes, and the write queue does not run empty. -/
structure Device.beyond (d e : Device) : Prop where
  channels : e.channels = d.channels
  reads : e.port.reads = d.port.reads
  access : e.port.access = d.port.access
  writes : e.port.access = some .write → e.port.writes = [] → d.port.writes = []

theorem Device.beyond_of_keeps (hc : e.channels = d.channels) (hp : e.port = d.port) : d.beyond e :=
  ⟨hc, by rw [hp], by rw [hp], by rw [hp]; exact fun _ => id⟩

theorem Device.beyond_refl (d : Device) : d.beyond d := Device.beyond_of_keeps rfl rfl

theorem Device.beyond.trans {g : Device} (h : d.beyond e) (h' : e.beyond g) : d.beyond g :=
  ⟨h'.channels.trans h.channels, h'.reads.trans h.reads, h'.access.trans h.access,
    fun ha hw => h.writes (h'.access.symm.trans ha) (h'.writes ha hw)⟩

theorem Device.beyond.ordered (h : d.beyond e) (hd : d.ordered K) : e.ordered K := by
  obtain ⟨hchannels, hreads, haccess, hwrites⟩ := h
  have hout : e.port.outstanding = d.port.outstanding := by
    unfold MemoryPort.outstanding MemoryPort.liveRead
    rw [hreads, haccess]
  refine ⟨fun c => hchannels ▸ hd.each c, hd.port.congr (fun c => by rw [hchannels]) (hout ▸ .refl _) fun hw => ?_⟩
  exact fun he => hd.port.writing (haccess.symm.trans hw) (hwrites hw he)

/-- A channel changes and its buffers do not. -/
theorem Device.ordered.updChannel {K' : ChannelNo → Channel → Prop} (hd : d.ordered K) (c : ChannelNo) {f : Channel → Channel}
    (hbuffers : (f d.channels[c]).buffers = d.channels[c].buffers) (hc : K' c (f d.channels[c]))
    (hother : ∀ b ch, b ≠ c → K b ch → K' b ch) : (d.updChannel c f).ordered K' := by
  refine ⟨Device.forall_updChannel.mpr ⟨hc, fun b hb => hother b _ hb (hd.each b)⟩, ?_⟩
  exact hd.port.congr (Device.forall_updChannel (p := fun b ch => ch.buffers = d.channels[b].buffers)
    |>.mpr ⟨hbuffers, fun _ _ => rfl⟩) (.refl _) hd.port.writing

/-- A channel changes and some of its buffers are emptied. -/
theorem Device.ordered.recast {K' : ChannelNo → Channel → Prop} (hd : d.ordered K) (c : ChannelNo) {ch : Channel}
    {keep : FetchBuffer → Bool} (hbuffers : ch.buffers = d.channels[c].buffers.map (FetchBuffer.keptBy keep))
    {gone : ReadRequest → Bool} (hgone : ∀ r, gone r = d.channels[c].givesUp c keep r) (hc : K' c ch)
    (hother : ∀ b ch, b ≠ c → K b ch → K' b ch) : (d.recast c ch gone).ordered K' := by
  refine ⟨fun b => ?_, hd.port.recast c hbuffers hgone⟩
  by_cases hb : b = c
  · subst hb
    rwa [Device.recast_same]
  · rw [Device.recast_other _ _ _ _ hb]
    exact hother b _ hb (hd.each b)

/-- A channel changes and both its buffers are emptied. -/
theorem Device.ordered.recast_empty {K' : ChannelNo → Channel → Prop} (hd : d.ordered K) (c : ChannelNo) {ch : Channel}
    (hbuffers : ch.buffers = #v[.empty, .empty]) (hc : K' c ch) (hother : ∀ b ch, b ≠ c → K b ch → K' b ch) :
    (d.recast c ch fun r => decide (r.channel = c)).ordered K' := by
  refine ⟨fun b => ?_, hd.port.recast_empty c hbuffers⟩
  by_cases hb : b = c
  · subst hb
    rwa [Device.recast_same]
  · rw [Device.recast_other _ _ _ _ hb]
    exact hother b _ hb (hd.each b)

end

/-! ### The wanted blocks are requested (R89) -/

section
variable {ch : Channel} {a : Descriptor} {b : Fin 2} {n : Nat}

/-- R89: the channel once block n is requested for buffer b. -/
def Channel.requesting (ch : Channel) (b : Fin 2) (n : Nat) : Channel :=
  { ch with buffers := ch.buffers.set b (.fetching n) }

theorem Channel.requesting_same : (ch.requesting b n).buffers[b] = .fetching n := Vector.getElem_set_self _

theorem Channel.requesting_other {i : Fin 2} (h : i ≠ b) : (ch.requesting b n).buffers[i] = ch.buffers[i] :=
  Vector.getElem_set_ne b.isLt i.isLt fun he => h (Fin.ext he.symm)

theorem Channel.requesting_fetches {m : Nat} (hempty : ch.buffers[b] = .empty) (h : ch.fetches m) :
    (ch.requesting b n).fetches m := by
  intro hs hl hb
  rcases h hs hl hb with ⟨i, hi⟩ | hfull
  · have hne : i ≠ b := fun he => by
      rw [he, hempty] at hi
      cases hi
    exact .inl ⟨i, by rw [Channel.requesting_other hne]; exact hi⟩
  · exact absurd hempty (hfull b)

theorem Channel.requesting_wanted : (ch.requesting b n).fetches n := fun _ _ _ =>
  .inl ⟨b, by rw [Channel.requesting_same]; rfl⟩

theorem Channel.sound.requesting (h : ch.sound) (hs : ch.state = .streaming)
    (hnone : ∀ i : Fin 2, ch.buffers[i].blockNo ≠ some n) : (ch.requesting b n).sound := by
  have htwo : ∀ b : Fin 2, b = 0 ∨ b = 1 := by decide
  refine ⟨h.shape, h.counters, h.ranges, fun _ hs' => absurd hs hs', ?_⟩
  rcases htwo b with rfl | rfl
  · refine .inr ?_
    rw [Channel.requesting_same, Channel.requesting_other (by decide)]
    exact (hnone 1).symm
  · rw [Channel.requesting_same, Channel.requesting_other (by decide)]
    exact .inr (hnone 0)

end

section
variable {d : Device} {c : ChannelNo} {K : Channel → Prop}

/-- A request keeps the channels in order, but for c, where it keeps what K says of a channel that requests. -/
theorem Device.ordered.requestRead {K' : Channel → Prop} {n : Nat} (hd : d.ordered (Channel.exceptAt c K))
    (hsame : d.channels[c].fetches n → K d.channels[c] → K' d.channels[c])
    (hnew : ∀ (a : Descriptor) (b : Fin 2), d.channels[c].lacksBlock a b n → K d.channels[c] →
      K' (d.channels[c].requesting b n)) :
    (d.requestRead c n).ordered (Channel.exceptAt c K') := by
  have hc := Channel.exceptAt_same.mp (hd.each c)
  rcases d.requestRead_cases c n with ⟨heq, hfetches⟩ | ⟨a, b, hlacks, heq⟩
  · rw [heq]
    refine ⟨fun b => ?_, hd.port⟩
    by_cases hb : b = c
    · subst hb
      exact Channel.exceptAt_same.mpr (hsame hfetches hc)
    · exact (Channel.exceptAt_other hb).mpr ((Channel.exceptAt_other hb).mp (hd.each b))
  · rw [heq]
    refine ⟨fun b' => ?_, hd.port.requestsRead a n (Channel.emptySlot_some hlacks.2.1)⟩
    by_cases hb : b' = c
    · subst hb
      rw [Device.requested_channel]
      exact Channel.exceptAt_same.mpr (hnew a b hlacks hc)
    · have hsame : (d.requested c a b n).channels[b'] = d.channels[b'] :=
        Vector.getElem_set_ne c.isLt b'.isLt fun h => hb (Fin.ext h.symm)
      rw [hsame]
      exact (Channel.exceptAt_other hb).mpr ((Channel.exceptAt_other hb).mp (hd.each b'))

theorem Channel.inOrder_of_fetches {ch : Channel} {m : Nat} (hs : ch.sound) (hnext : ch.next = m) (hw : ch.fetches m)
    (hw' : ch.fetches (m + 1)) : ch.inOrder := by
  subst hnext
  exact ⟨hs, hw, hw'⟩

/-- R89: a sound channel is in order once its wanted blocks are requested. -/
theorem Device.ordered.requestReads (hd : d.ordered (Channel.exceptAt c Channel.sound)) : (d.requestReads c).allInOrder := by
  unfold Device.requestReads
  dsimp only
  obtain ⟨m, hm⟩ : ∃ m, d.channels[c].next = m := ⟨_, rfl⟩
  rw [hm]
  have hfirst := hd.requestRead (n := m) (K' := fun ch => ch.sound ∧ ch.next = m ∧ ch.fetches m)
    (fun hf hs => ⟨hs, hm, hf⟩)
    (fun a b ⟨_, _, hstate, _, _, hnone⟩ hs => ⟨hs.requesting hstate hnone, hm, Channel.requesting_wanted⟩)
  have hsecond := hfirst.requestRead (n := m + 1) (K' := Channel.inOrder)
    (fun hf ⟨hs, hnext, hw⟩ => Channel.inOrder_of_fetches hs hnext hw hf)
    (fun a b ⟨_, hslot, hstate, _, _, hnone⟩ ⟨hs, hnext, hw⟩ =>
      Channel.inOrder_of_fetches (hs.requesting hstate hnone) hnext
        (Channel.requesting_fetches (Channel.emptySlot_some hslot) hw) Channel.requesting_wanted)
  refine ⟨fun b => ?_, hsecond.port⟩
  by_cases hb : b = c
  · subst hb
    exact Channel.exceptAt_same.mp (hsecond.each b)
  · exact (Channel.exceptAt_other hb).mp (hsecond.each b)

end

end Sys2Proof.Machine

/-! Every step keeps the channels in order (R39, R40, R55, R88, R89, R140 to R142): the operations one by one, and the rule they
come to. -/

namespace Sys2Proof.Machine

/-! ### Starts (R49, R50, R51) -/

/-- What a property of the channels has to bear for starts to keep it. -/
structure ChannelRule (K : ChannelNo → Channel → Prop) : Prop where
  latches : ∀ {c : ChannelNo} {ch : Channel} (l : Bool), K c ch → K c { ch with latch := l }
  begins : ∀ {c : ChannelNo} {ch : Channel} {a : Descriptor} (t : Nat), ch.state = .ready → ch.active = some a → K c ch →
    K c (ch.begun t)

theorem inOrderRule : ChannelRule fun _ ch => ch.inOrder where
  latches l h := h.setLatch l
  begins t _ ha h := h.begun ha t

theorem exceptAt_closingRule (c : ChannelNo) : ChannelRule (Channel.exceptAt c Channel.closing) where
  latches {b ch} l h := by
    by_cases hb : b = c
    · subst hb
      exact Channel.exceptAt_same.mpr ((Channel.exceptAt_same.mp h).setLatch l)
    · exact (Channel.exceptAt_other hb).mpr (((Channel.exceptAt_other hb).mp h).setLatch l)
  begins {b ch a} t hs ha h := by
    by_cases hb : b = c
    · subst hb
      have ht := (Channel.exceptAt_same.mp h).inTransfer
      rw [hs] at ht
      cases ht
    · exact (Channel.exceptAt_other hb).mpr (((Channel.exceptAt_other hb).mp h).begun ha t)

section
variable {d e : Device} {K : ChannelNo → Channel → Prop} {c : ChannelNo}

theorem Device.ordered_of_parts (h : d.ordered K) (hc : e.channels = d.channels) (hp : e.port = d.port) : e.ordered K :=
  (Device.beyond_of_keeps hc hp).ordered h

theorem Device.beginTransfer_parts {a : Descriptor} (ha : d.channels[c].active = some a) :
    (d.beginTransfer c).channels = d.channels.set c (d.channels[c].begun d.config.tReply) ∧
      (d.beginTransfer c).port = d.port.without c := by
  simp only [Device.beginTransfer, ha, Device.emptyBuffers_all, Device.updChannel, Device.updSpan, Device.claimOffer,
    Device.claimInitiation]
  split <;> simp [Channel.begun, ← ha]

theorem Device.ordered_of_recast {ch : Channel} (h : (d.recast c ch fun r => decide (r.channel = c)).ordered K)
    (hc : e.channels = d.channels.set c ch) (hp : e.port = d.port.without c) : e.ordered K :=
  Device.ordered_of_parts h hc (hp.trans (MemoryPort.without_abandon ..))

theorem Device.ordered.beginTransfer (rule : ChannelRule K) (hd : d.ordered K) (hs : d.channels[c].state = .ready) :
    (d.beginTransfer c).ordered K := by
  cases ha : d.channels[c].active with
  | none =>
    have hnone : d.beginTransfer c = d := by simp only [Device.beginTransfer, ha]
    rwa [hnone]
  | some a =>
    obtain ⟨hchannels, hport⟩ := Device.beginTransfer_parts ha
    exact Device.ordered_of_recast (hd.recast_empty c rfl (rule.begins d.config.tReply hs ha (hd.each c)) fun _ _ _ h => h)
      hchannels hport

theorem Device.ordered.setLatch (rule : ChannelRule K) (hd : d.ordered K) (l : Bool) :
    (d.updChannel c fun ch => { ch with latch := l }).ordered K :=
  hd.updChannel c rfl (rule.latches l (hd.each c)) fun _ _ _ h => h

theorem Device.ordered.post (hd : d.ordered K) (n : Notice) : (d.post n).ordered K :=
  Device.ordered_of_parts hd (by simp) (by simp)

theorem Device.ordered.tryStart (rule : ChannelRule K) (hd : d.ordered K) (h : d.tryStart c = some e) : e.ordered K := by
  unfold Device.tryStart at h
  split at h
  next =>
    split at h
    next => cases h
    next hs =>
      obtain rfl := Option.some.inj h
      exact hd.beginTransfer rule hs
    all_goals
      obtain rfl := Option.some.inj h
      exact hd.setLatch rule true
  next =>
    split at h
    next => cases h
    all_goals
      obtain rfl := Option.some.inj h
      exact hd.setLatch rule true
  next => cases h
  next => cases h

theorem Device.ordered.startOrMiss (rule : ChannelRule K) (hd : d.ordered K) (c : ChannelNo) (cause : MissedCause) :
    (d.startOrMiss c cause).ordered K := by
  unfold Device.startOrMiss
  split
  next h => exact hd.tryStart rule h
  next => exact hd.post _

theorem Device.ordered.applySignal (rule : ChannelRule K) (hd : d.ordered K) (x : Station) (cause : SignalCause) (n : EventNo)
    (argument : BitVec 16) : (d.applySignal x cause n argument).ordered K := by
  have htold : (if d.config.signals[n].action.notices then d.post (.signal x cause n argument) else d).ordered K := by
    split
    next => exact hd.post _
    next => exact hd
  unfold Device.applySignal
  dsimp only
  split
  next => exact htold.startOrMiss rule _ _
  next => exact htold

/-! ### The ending of a transfer (R54 to R57) -/

theorem Device.ordered.allBut (hd : d.allInOrder) (c : ChannelNo) {K' : Channel → Prop} (hc : K' d.channels[c]) :
    d.ordered (Channel.exceptAt c K') := by
  refine ⟨fun b => ?_, hd.port⟩
  by_cases hb : b = c
  · subst hb
    exact Channel.exceptAt_same.mpr hc
  · exact (Channel.exceptAt_other hb).mpr (hd.each b)

theorem Device.ordered.soundAt (hd : d.allInOrder) (c : ChannelNo) : d.ordered (Channel.exceptAt c Channel.sound) :=
  hd.allBut c (hd.each c).tosound

theorem Channel.ended_inOrder {ch : Channel} (h : ch.sound) {a : Descriptor} (ha : ch.active = some a) (o : TransferOutcome)
    (r : Option Reason) :
    { ch with
      state := if ch.standby.isSome then .ready else .empty
      active := ch.standby, standby := none, timer := none, buffers := #v[.empty, .empty], latch := false,
      last := { outcome := some o, reason := r, generation := ch.generation,
                bytes := min (64 * ch.accepted) a.length } }.inOrder := by
  obtain ⟨-, -, -, hactive, -, -⟩ := h.ranges
  exact Channel.inOrder_of_promoted h.ranges h.counters.1 h.counters.2.1 ((Nat.min_le_right _ _).trans (hactive a ha).2) rfl

theorem Device.ordered.endTransfer (hd : d.ordered (Channel.exceptAt c Channel.sound)) {o : TransferOutcome} (ho : o ≠ .done)
    (r : Option RefuseReason) (ht : d.channels[c].state.inTransfer = true) : (d.endTransfer c o r).allInOrder := by
  have hc := Channel.exceptAt_same.mp (hd.each c)
  cases ha : d.channels[c].active with
  | none =>
    rw [hc.shape.1.mp ha] at ht
    cases ht
  | some a =>
    rw [Device.endTransfer_ended d c a o r ho ha]
    exact Device.ordered_of_recast (hd.recast_empty c rfl (Channel.ended_inOrder hc ha o (outcomeReason o r))
      fun b ch hb h => (Channel.exceptAt_other hb).mp h) rfl rfl

theorem Device.ordered.afterPromotion_done (hd : d.allInOrder) (chain : Bool) :
    (d.afterPromotion c .done chain).allInOrder := by
  have hmiss : (if d.channels[c].latch then
      (d.updChannel c fun ch => { ch with latch := false }).post (.startMissed c .latch) else d).allInOrder := by
    split
    next => exact (hd.setLatch inOrderRule false).post _
    next => exact hd
  unfold Device.afterPromotion
  rw [if_pos rfl]
  split
  next hs =>
    split
    next => exact hd.beginTransfer inOrderRule hs
    next => exact hd
  all_goals exact hmiss

theorem Device.ordered.endTransfer_done (hd : d.ordered (Channel.exceptAt c Channel.sound))
    (ht : d.channels[c].state.inTransfer = true) : (d.endTransfer c .done none).allInOrder := by
  have hc := Channel.exceptAt_same.mp (hd.each c)
  cases ha : d.channels[c].active with
  | none =>
    rw [hc.shape.1.mp ha] at ht
    cases ht
  | some a =>
    have hrecorded : (d.doneRecorded c a d.channels[c]).ordered (Channel.exceptAt c Channel.closing) :=
      Device.ordered_of_recast (hd.recast_empty c rfl (Channel.exceptAt_same.mpr (hc.closed ha ht))
        fun b ch hb h => (Channel.exceptAt_other hb).mpr ((Channel.exceptAt_other hb).mp h)) rfl rfl
    have happlied : ((d.doneRecorded c a d.channels[c]).applyDone c a .done).ordered
        (Channel.exceptAt c Channel.closing) := by
      unfold Device.applyDone
      split
      next => exact hrecorded.applySignal (exceptAt_closingRule c) _ _ _ _
      next => exact hrecorded
    have hclosing := Channel.exceptAt_same.mp (happlied.each c)
    rw [Device.endTransfer_done ha]
    refine Device.ordered.afterPromotion_done (happlied.updChannel c ?_ hclosing.promote
      fun b ch hb h => (Channel.exceptAt_other hb).mp h) a.chain
    rw [Channel.promote_eq]

end

/-! ### The replies that reach a source -/

section
variable {d : Device} {c : ChannelNo}

theorem Channel.matchesReply_inTransfer {ch : Channel} {x : Station} {g : Generation} (h : ch.matchesReply x g = true) :
    ∃ a, ch.active = some a ∧ ch.state.inTransfer = true := by
  obtain ⟨a, ha, ht, -⟩ := (Channel.matchesReply_iff ch x g).mp h
  exact ⟨a, ha, ht⟩

theorem Device.ordered.handleWait (hd : d.allInOrder) (x : Station) (g : Generation) : (d.handleWait x c g).allInOrder := by
  unfold Device.handleWait
  split
  next h =>
    obtain ⟨-, hs⟩ := h
    have hc := hd.each c
    obtain ⟨hshape, -, -⟩ := hc.shape
    obtain ⟨hretry, hsends, hzero, -⟩ := hc.counters
    have hqueued : (d.updChannel c fun ch => { ch with state := .queued, timer := some d.config.tQueue }).allInOrder :=
      hd.updChannel c rfl (Channel.sound.rest ⟨⟨⟨fun h => (by cases hs.symm.trans (hshape.mp h)), nofun⟩, nofun, rfl⟩,
        ⟨hretry, hsends, fun _ => hzero (.inl hs), by simp, nofun, nofun⟩, hc.ranges,
        Channel.buffersOk_empty (hc.buffers_empty (by rw [hs]; nofun) (by rw [hs]; nofun))⟩ nofun) fun _ _ _ h => h
    exact Device.ordered_of_parts hqueued (by simp) (by simp)
  next => exact hd

theorem Device.ordered.takeGrant (hd : d.allInOrder) {start limit : Nat}
    (hs : d.channels[c].state = .offering ∨ d.channels[c].state = .queued ∨ d.channels[c].state = .paused)
    {a : Descriptor} (ha : d.channels[c].active = some a) (hlt : start < limit) (hle : limit ≤ blockCount a.length) :
    (d.takeGrant c start limit).allInOrder := by
  have hc := hd.each c
  have hbuffers := hc.buffers_empty (fun h => by rw [h] at hs; simp at hs) fun h => by rw [h] at hs; simp at hs
  have hsound : (d.channels[c].granted d.config.tReply start limit).sound :=
    Channel.sound_of_moving hc.tosound ha rfl rfl rfl rfl rfl (Nat.zero_le _) (.inl ⟨rfl, hlt.trans_le hle⟩) hlt.le hle hlt.le
      (Nat.le_succ _) (Channel.buffersOk_empty (ch := d.channels[c].granted d.config.tReply start limit) hbuffers).2
  have hgranted : (d.updChannel c (·.granted d.config.tReply start limit)).ordered (Channel.exceptAt c Channel.sound) :=
    hd.updChannel c rfl (Channel.exceptAt_same.mpr hsound) fun b ch hb h => (Channel.exceptAt_other hb).mpr h
  exact (Device.ordered_of_parts (e := (d.updChannel c (·.granted d.config.tReply start limit)).removeOffer c) hgranted
    (by simp) (by simp)).requestReads

theorem Device.answerStale_ordered (hd : d.allInOrder) (x : Station) (g : Generation) : (d.answerStale c x g).allInOrder :=
  Device.ordered_of_parts hd (by simp) (by simp)

theorem Device.ordered.handleGrant (hd : d.allInOrder) (x : Station) (g : Generation) (start limit : Nat) :
    (d.handleGrant x c g start limit).allInOrder := by
  have htake : (d.channels[c].state = .offering ∨ d.channels[c].state = .queued ∨ d.channels[c].state = .paused) →
      (if d.channels[c].matchesReply x g then
        if d.channels[c].grantFits start limit then d.takeGrant c start limit else d.answerStale c x g
      else d).allInOrder := fun hs => by
    split
    next hm =>
      split
      next hfits =>
        obtain ⟨a, ha, -⟩ := Channel.matchesReply_inTransfer hm
        obtain ⟨hlt, hle, -⟩ := (Channel.grantFits_iff ha).mp hfits
        exact hd.takeGrant hs ha hlt hle
      next => exact Device.answerStale_ordered hd x g
    next => exact hd
  have hmoving : (if d.channels[c].matchesReply x g then d.answerStale c x g else d).allInOrder := by
    split
    next => exact Device.answerStale_ordered hd x g
    next => exact hd
  unfold Device.handleGrant
  dsimp only
  split
  next => exact Device.answerStale_ordered hd x g
  next =>
    split
    next => exact Device.answerStale_ordered hd x g
    next => exact Device.answerStale_ordered hd x g
    next => exact hmoving
    next => exact hmoving
    next hs => exact htake (.inl hs)
    next hs => exact htake (.inr (.inl hs))
    next hs => exact htake (.inr (.inr hs))

theorem Device.ordered.handleRefuse (hd : d.allInOrder) (x : Station) (g : Generation) (r : RefuseReason) :
    (d.handleRefuse x c g r).allInOrder := by
  unfold Device.handleRefuse
  split
  next hm =>
    obtain ⟨a, -, ht⟩ := Channel.matchesReply_inTransfer hm
    exact (hd.soundAt c).endTransfer (o := .refused) (by decide) _ ht
  next => exact hd

theorem Device.ordered.receipted (hd : d.allInOrder) {a : Descriptor} {accepted limit : Nat}
    (hs : d.channels[c].state = .streaming ∨ d.channels[c].state = .draining) (ha : d.channels[c].active = some a)
    (hal : accepted ≤ limit) (hlb : limit ≤ blockCount a.length) :
    (d.receipted c accepted limit).ordered (Channel.exceptAt c Channel.sound) ∧
      (d.receipted c accepted limit).channels[c].state.inTransfer = true := by
  have hc := hd.each c
  have hadvanced := Channel.noteReceipt_lifted (tReply := d.config.tReply) ha hs hc.counters hal hlb
  have hsame : (d.receipted c accepted limit).channels[c] =
      (d.channels[c].noteReceipt d.config.tReply accepted limit).lifted := Device.recast_same ..
  obtain ⟨hretry, -, -, hcount, -⟩ := hc.counters
  obtain ⟨hle, hbl, hnl, hnear⟩ := hcount hs
  simp only [Channel.blocks, ha] at hbl
  obtain ⟨keep, hbuffers, hgone⟩ : ∃ keep : FetchBuffer → Bool,
      (d.channels[c].noteReceipt d.config.tReply accepted limit).lifted.buffers =
        d.channels[c].buffers.map (FetchBuffer.keptBy keep) ∧
      ∀ r, (d.channels[c].noteReceipt d.config.tReply accepted limit).liftGone c r = d.channels[c].givesUp c keep r := by
    by_cases hlift : d.channels[c].next < max d.channels[c].accepted accepted
    · refine ⟨FetchBuffer.notBelow (max d.channels[c].accepted accepted), ?_, fun r => ?_⟩
      · exact congrArg Channel.buffers (if_pos hlift)
      · exact (congrArg (· && _) (decide_eq_true hlift)).trans (Bool.true_and _)
    · refine ⟨fun _ => true, (congrArg Channel.buffers (if_neg hlift)).trans ?_, fun r => ?_⟩
      · exact Vector.ext_two (Vector.getElem_map_two d.channels[c].buffers (FetchBuffer.keptBy fun _ => true) 0).symm
          (Vector.getElem_map_two d.channels[c].buffers (FetchBuffer.keptBy fun _ => true) 1).symm
      · exact (congrArg (· && _) (decide_eq_false hlift)).trans (Bool.and_false _).symm
  have hsound : (d.channels[c].noteReceipt d.config.tReply accepted limit).lifted.sound := by
    have hdistinct := FetchBuffer.distinct_keptBy keep hc.buffers.2
    rw [← hbuffers] at hdistinct
    refine Channel.sound_of_moving hc.tosound ha ?_ ?_ ?_ ?_ ?_ ?_ ?_ ?_ ?_ ?_ ?_ hdistinct
    all_goals rw [hadvanced]
    · rfl
    · rfl
    · rfl
    · rfl
    · rfl
    · show (if _ then 0 else d.channels[c].retry) ≤ Config.retryMax
      split
      next => exact Nat.zero_le _
      next => exact hretry
    · by_cases hend : max d.channels[c].next (max d.channels[c].accepted accepted) = blockCount a.length
      · exact .inr ⟨if_pos hend, hend⟩
      · refine .inl ⟨if_neg hend, ?_⟩
        show max d.channels[c].next (max d.channels[c].accepted accepted) < blockCount a.length
        omega
    · show max d.channels[c].accepted accepted ≤ max d.channels[c].limit limit
      omega
    · show max d.channels[c].limit limit ≤ blockCount a.length
      omega
    · show max d.channels[c].next (max d.channels[c].accepted accepted) ≤ max d.channels[c].limit limit
      omega
    · show max d.channels[c].accepted accepted ≤ max d.channels[c].next (max d.channels[c].accepted accepted) + 1
      omega
  refine ⟨hd.recast c hbuffers hgone (Channel.exceptAt_same.mpr hsound)
    fun b ch hb h => (Channel.exceptAt_other hb).mpr h, ?_⟩
  rw [hsame, hadvanced]
  show (if _ then ChannelState.draining else .streaming).inTransfer = true
  split <;> rfl

theorem Device.ordered.handleReceipt (hd : d.allInOrder) (x : Station) (g : Generation) {accepted limit : Nat} (final : Bool)
    (hrange : receiptInRange accepted limit = true) : (d.handleReceipt x c g accepted limit final).allInOrder := by
  unfold Device.handleReceipt
  split
  next hboth =>
    rw [Bool.and_eq_true] at hboth
    obtain ⟨hm, hfits⟩ := hboth
    obtain ⟨a, ha, -⟩ := Channel.matchesReply_inTransfer hm
    obtain ⟨hal, hlb, -⟩ := (Channel.receiptFits_iff ha).mp hfits
    have htake : (d.channels[c].state = .streaming ∨ d.channels[c].state = .draining) →
        (d.takeReceipt c accepted limit final).allInOrder := fun hs => by
      obtain ⟨hreceipted, ht⟩ := hd.receipted hs ha hal hlb
      rw [Device.takeReceipt_eq]
      split
      next => exact hreceipted.endTransfer_done ht
      next => exact hreceipted.requestReads
    split
    next hs => exact htake (.inl hs)
    next hs => exact htake (.inr hs)
    next hs =>
      have hc := hd.each c
      obtain ⟨hnext, haccepted, hlimit, hactive, hstandby, hbytes⟩ := hc.ranges
      obtain ⟨hretry, hsends, -⟩ := hc.counters
      simp only [receiptInRange, Bool.and_eq_true, decide_eq_true_eq] at hrange
      refine hd.updChannel c rfl (Channel.sound.rest ⟨hc.shape, ⟨hretry, hsends, ?_, ?_, ?_, ?_⟩,
        ⟨hnext, Nat.max_le.mpr ⟨haccepted, hrange.1.1⟩, hlimit, hactive, hstandby, hbytes⟩, hc.buffers⟩ ?_) fun _ _ _ h => h
      all_goals simp only [hs]
      all_goals simp
    all_goals exact hd
  next => exact hd

theorem Device.ordered.handlePause (hd : d.allInOrder) (x : Station) (g : Generation) (block : Nat) :
    (d.handlePause x c g block).allInOrder := by
  unfold Device.handlePause
  split
  next hboth =>
    rw [Bool.and_eq_true] at hboth
    obtain ⟨hm, hfits⟩ := hboth
    obtain ⟨a, ha, -⟩ := Channel.matchesReply_inTransfer hm
    obtain ⟨-, -, hblock⟩ := (Channel.pauseFits_iff ha block).mp hfits
    have htake : (d.takePause c block).allInOrder := by
      have hc := hd.each c
      obtain ⟨-, -, hlimit, hactive, hstandby, hbytes⟩ := hc.ranges
      obtain ⟨hretry, hsends, -⟩ := hc.counters
      have hcount := hblock.le.trans (blockCount_le (hactive a ha).2)
      rw [Device.takePause_eq]
      refine Device.ordered_of_recast (hd.recast_empty c rfl (Channel.sound.rest (ch := { d.channels[c] with
          state := .paused, accepted := block, next := block, timer := some d.config.tPause, buffers := #v[.empty, .empty] })
        ⟨⟨⟨fun h => ?_, nofun⟩, nofun, rfl⟩, ⟨hretry, hsends, by simp, by simp, nofun, nofun⟩,
          ⟨hcount, hcount, hlimit, hactive, hstandby, hbytes⟩, Channel.buffersOk_empty rfl⟩ nofun) fun _ _ _ h => h) rfl rfl
      cases ha.symm.trans h
    split
    next => exact htake
    next => exact htake
    all_goals exact hd
  next => exact hd

end

end Sys2Proof.Machine

/-! The other operations on the channels: timers, leaving and teardown, the memory events, the arbiter (R26, R33, R61, R90, R91, R107
to R109, R141), and the rule that every step keeps the channels in order. -/

namespace Sys2Proof.Machine

/-! ### Timers of a transfer (R61, R107 to R109) -/

section
variable {d : Device} {c : ChannelNo}

/-- The counts of repeats and the timer move in a transfer. -/
theorem Channel.inOrder.retimed {ch : Channel} (h : ch.inOrder) (ht : ch.state.inTransfer = true) {retry sends : Nat}
    (hretry : retry ≤ Config.retryMax) (hsends : sends ≤ Config.offerSends) (t : Nat) :
    { ch with retry := retry, sends := sends, timer := some t }.inOrder := by
  obtain ⟨hshape, hempty, -⟩ := h.shape
  obtain ⟨-, -, hcounts⟩ := h.counters
  exact ⟨⟨⟨hshape, hempty, ht.symm⟩, ⟨hretry, hsends, hcounts⟩, h.ranges, h.buffers⟩, h.wanted, h.wantedNext⟩

theorem Channel.inOrder.active_of_state {ch : Channel} (h : ch.inOrder) (hs : ch.state ≠ .empty) : ∃ a, ch.active = some a :=
  Option.ne_none_iff_exists'.mp fun hn => hs (h.shape.1.mp hn)

theorem Device.ordered.resendOffer (hd : d.allInOrder) (hs : d.channels[c].state = .offering) :
    (d.resendOffer c).allInOrder := by
  unfold Device.resendOffer
  split
  next a ha =>
    split
    next hsends =>
      have hc := hd.each c
      have hclaimed : (d.claimOffer c a).allInOrder := Device.ordered_of_parts hd (by simp) (by simp)
      have hsame : (d.claimOffer c a).channels = d.channels := by simp
      refine hclaimed.updChannel c rfl ?_ fun _ _ _ h => h
      rw [hsame]
      exact hc.retimed (by rw [hs]; rfl) hc.counters.1 hsends _
    next => exact (hd.soundAt c).endTransfer (o := .noReply) (by decide) _ (by rw [hs]; rfl)
  next => exact hd

theorem Device.ordered.fallBack (hd : d.allInOrder) {a : Descriptor} (ha : d.channels[c].active = some a) {block : Nat}
    (htimer : d.channels[c].timer.isSome = true) (hal : d.channels[c].accepted ≤ d.channels[c].limit)
    (hlb : d.channels[c].limit ≤ blockCount a.length) (hblock : block < d.channels[c].limit)
    (hnear : d.channels[c].accepted ≤ block + 1) : (d.fallBack c block).allInOrder := by
  have hc := hd.each c
  have heq : d.fallBack c block = (d.recast c
      { d.channels[c] with
        buffers := d.channels[c].buffers.map (FetchBuffer.keptBy (FetchBuffer.holdsWanted block)), next := block,
        state := .streaming }
      (d.channels[c].givesUp c (FetchBuffer.holdsWanted block))).requestReads c := by
    unfold Device.fallBack
    dsimp only
    rw [Device.emptyBuffers_recast, Device.recast_updChannel]
  rw [heq]
  refine Device.ordered.requestReads (hd.recast c rfl (fun _ => rfl) (Channel.exceptAt_same.mpr ?_)
    fun b ch hb h => (Channel.exceptAt_other hb).mpr h)
  exact Channel.sound_of_moving hc.tosound ha rfl rfl rfl rfl htimer hc.counters.1 (.inl ⟨rfl, hblock.trans_le hlb⟩) hal hlb
    hblock.le hnear (FetchBuffer.distinct_keptBy _ hc.buffers.2)

theorem Device.ordered.streamExpiry (hd : d.allInOrder)
    (hs : d.channels[c].state = .streaming ∨ d.channels[c].state = .draining) : (d.streamExpiry c).allInOrder := by
  have hc := hd.each c
  obtain ⟨a, ha⟩ := hc.active_of_state fun he => by rcases hs with h | h <;> cases h.symm.trans he
  obtain ⟨-, hsends, -, hcount, -⟩ := hc.counters
  unfold Device.streamExpiry
  split
  next =>
    exact (hd.soundAt c).endTransfer (o := .noReply) (by decide) _ (by rcases hs with h | h <;> rw [h] <;> rfl)
  next hlow =>
    have hkept : { d.channels[c] with retry := d.channels[c].retry + 1, timer := some d.config.tReply }.inOrder :=
      hc.retimed (by rcases hs with h | h <;> rw [h] <;> rfl) (Nat.succ_le_of_lt (Nat.lt_of_not_le hlow)) hsends _
    have hstarted := hd.updChannel c (f := fun ch => { ch with retry := ch.retry + 1, timer := some d.config.tReply })
      rfl hkept fun _ _ _ h => h
    have hsame := d.updChannel_same c fun ch => { ch with retry := ch.retry + 1, timer := some d.config.tReply }
    obtain ⟨hal, hlb, hnl, hnear⟩ := hcount hs
    simp only [Channel.blocks, ha] at hlb
    unfold Device.goBackOrProbe
    simp only [hsame]
    split
    next hback =>
      refine hstarted.fallBack (a := a) ?_ ?_ ?_ ?_ ?_ ?_
      all_goals rw [hsame]
      · exact ha
      · rfl
      · exact hal
      · exact hlb
      · exact hback.trans_le hnl
      · exact Nat.le_succ _
    next =>
      split
      next hprobe =>
        refine hstarted.fallBack (a := a) ?_ ?_ ?_ ?_ ?_ ?_
        all_goals rw [hsame]
        · exact ha
        · rfl
        · exact hal
        · exact hlb
        · show d.channels[c].accepted - 1 < d.channels[c].limit
          omega
        · show d.channels[c].accepted ≤ d.channels[c].accepted - 1 + 1
          omega
      next => exact hstarted

end

/-! ### Joining, leaving and teardown (R23, R26, R33) -/

section
variable {d : Device}

theorem Device.ordered.releaseLatches (hd : d.allInOrder) : d.releaseLatches.allInOrder := by
  refine foldl_induction (fun e c he => ?_) eight hd
  split
  next h => exact he.beginTransfer inOrderRule h.1
  next => exact he

theorem Device.ordered.leaveChannel (hd : d.allInOrder) (c : ChannelNo) : (d.leaveChannel c).allInOrder := by
  unfold Device.leaveChannel
  split
  next ht => exact (hd.soundAt c).endTransfer (o := .left) (by decide) _ ht
  next =>
    split
    next => exact (hd.setLatch inOrderRule false).post _
    next => exact hd

theorem Device.ordered.tearChannels (hd : d.allInOrder) (x : Station) {o : TransferOutcome} (ho : o ≠ .done) :
    (d.tearChannels x o).allInOrder := by
  refine foldl_induction (fun e c he => ?_) eight hd
  split
  next =>
    split
    next h => exact (he.soundAt c).endTransfer ho _ (Bool.and_eq_true_iff.mp h).1
    next => exact he
  next => exact he

theorem Device.foldl_beyond {α : Type} {f : Device → α → Device} (h : ∀ (e : Device) (a : α), e.beyond (f e a)) (l : List α)
    (d : Device) : d.beyond (l.foldl f d) :=
  foldl_induction (P := d.beyond) (fun e a he => he.trans (h e a)) l d.beyond_refl

section
variable {e : Device} (h : d.beyond e)
include h

theorem Device.beyond.then {g : Device} (hc : g.channels = e.channels) (hp : g.port = e.port) : d.beyond g :=
  h.trans (Device.beyond_of_keeps hc hp)

theorem Device.beyond.post (n : Notice) : d.beyond (e.post n) := h.then (by simp) (by simp)

theorem Device.beyond.updAdmission (f : AdmissionUnit → AdmissionUnit) : d.beyond (e.updAdmission f) := h.then rfl rfl

theorem Device.beyond.reply (k : Key) (g : Generation) (r : ReplyKind) : d.beyond (e.claimReply k g r) :=
  h.then (by simp) (by simp)

theorem Device.beyond.removeRecord (k : Key) : d.beyond (e.removeRecord k) :=
  h.trans ⟨by simp, rfl, rfl, fun _ hw => List.map_eq_nil_iff.mp hw⟩

theorem Device.beyond.run : d.beyond e.runAndSweep := h.then (by simp) (by simp)

end

theorem Device.refuseLeaving_beyond (d : Device) (o : Offer) (n : Nat) : d.beyond (d.refuseLeaving o n) :=
  (((d.beyond_refl.reply ..).removeRecord o.key).updAdmission _).post _

theorem Device.leaveLandings_beyond (d : Device) : d.beyond d.leaveLandings := by
  unfold Device.leaveLandings
  exact ((Device.foldl_beyond (fun e (l : Landing) => e.refuseLeaving_beyond l.offer l.byteCount) _ d).trans
    (Device.foldl_beyond (fun e (w : PendingEntry) => e.refuseLeaving_beyond w.offer 0) _ _)).updAdmission _

theorem Device.tearRecord_beyond (d : Device) (ending : Ending) (o : Offer) (n : Nat) :
    d.beyond (d.tearRecord ending o n) := ((d.beyond_refl.removeRecord o.key).updAdmission _).post _

theorem Device.tearLandings_beyond (d : Device) (x : Station) (ending : Ending) : d.beyond (d.tearLandings x ending) := by
  unfold Device.tearLandings
  exact ((Device.foldl_beyond (fun e (l : Landing) => e.tearRecord_beyond ending l.offer l.byteCount) _ d).trans
    (Device.foldl_beyond (fun e (w : PendingEntry) => e.tearRecord_beyond ending w.offer 0) _ _)).updAdmission _

theorem Device.ordered.leaveHold {K : ChannelNo → Channel → Prop} (hd : d.ordered K) : d.leaveHold.ordered K :=
  Device.ordered_of_parts hd (by simp) (by simp)

theorem Device.ordered.startLeaving (hd : d.allInOrder) : d.startLeaving.allInOrder := by
  have hstate : (d.endJoining.updControl fun c => { c with state := .leaving }).allInOrder :=
    Device.ordered_of_parts hd (by simp) (by simp)
  have hchannels : (eight.foldl Device.leaveChannel
      (d.endJoining.updControl fun c => { c with state := .leaving })).allInOrder :=
    foldl_induction (P := Device.allInOrder) (fun e c he => Device.ordered.leaveChannel he c) eight hstate
  unfold Device.startLeaving
  exact ((Device.leaveLandings_beyond _).ordered hchannels).leaveHold

theorem Device.ordered.teardown (hd : d.allInOrder) (x : Station) {o : TransferOutcome} (ho : o ≠ .done) (ending : Ending) :
    (d.teardown x o ending).allInOrder := by
  have htorn := (Device.tearLandings_beyond _ x ending).ordered (hd.tearChannels x ho)
  unfold Device.teardown
  exact Device.ordered_of_parts htorn (by simp) (by simp)

theorem Device.ordered.setPeer {K : ChannelNo → Channel → Prop} (hd : d.ordered K) (x : Station) (p : Presence) (t : Timer) :
    (d.setPeer x p t).ordered K := Device.ordered_of_parts hd (by simp) (by simp)

theorem Device.ordered.handleJoin (hd : d.allInOrder) (x : Station) : (d.handleJoin x).allInOrder := by
  unfold Device.handleJoin
  split
  next => exact Device.ordered_of_parts hd (by simp) (by simp)
  next => exact hd.setPeer ..
  next => exact Device.ordered.setPeer (Device.ordered.teardown (hd.post _) x (o := .peerRestart) (by decide) .peerRestart) ..
  next => exact hd

theorem Device.ordered.handleLeave (hd : d.allInOrder) (x : Station) : (d.handleLeave x).allInOrder := by
  unfold Device.handleLeave
  split
  next => exact Device.ordered.setPeer (Device.ordered.teardown (hd.post _) x (o := .peerLeft) (by decide) .peerLeft) ..
  all_goals exact hd

/-- Every channel as a reset leaves it, and nothing to read or write. -/
theorem Device.ordered_atReset {g : ChannelNo → Generation} (hc : ∀ c : ChannelNo, d.channels[c] = Channel.afterReset (g c))
    (hp : d.port = MemoryPort.powerOn) : d.allInOrder := by
  refine ⟨fun c => hc c ▸ Channel.afterReset_inOrder (g c), ?_, ?_, fun c b hb => ?_, ?_⟩
  · rw [hp]
    exact List.nodup_nil
  · rw [hp]
    nofun
  · rw [hc c] at hb
    rcases Fin.forall_fin_two (p := fun b => b = 0 ∨ b = 1) |>.mpr ⟨.inl rfl, .inr rfl⟩ b with rfl | rfl <;> cases hb
  · rw [hp]
    nofun

theorem Device.softReset_inOrder (d : Device) : d.softReset.allInOrder :=
  Device.ordered_atReset (g := fun c => d.channels[c].generation) (fun c => d.softReset_channel c) rfl

theorem Device.powerOn_inOrder (n : Station) (line : Bool) : (Device.powerOn n line).allInOrder := by
  refine Device.ordered_atReset (g := fun _ => 0) (fun c => ?_) rfl
  simp [Device.powerOn]

theorem Device.ordered.resetStation (hd : d.allInOrder) : d.resetStation.allInOrder := by
  unfold Device.resetStation
  split
  next => exact d.softReset_inOrder
  all_goals exact Device.ordered_of_parts hd (by simp) (by simp)

theorem Device.ordered.countJoin (hd : d.allInOrder) : d.countJoin.allInOrder := by
  unfold Device.countJoin
  split
  next =>
    dsimp only
    split
    next => exact Device.ordered_of_parts hd rfl rfl
    next =>
      have hreleased := Device.ordered.releaseLatches (d := (d.updControl fun c => { c with joinCount := c.joinCount + 1 }).updControl
        fun c => { c with state := .joined }) (Device.ordered_of_parts hd rfl rfl)
      exact Device.ordered_of_parts hreleased (by simp [Device.becomeJoined]) (by simp [Device.becomeJoined])
  next => exact hd

/-! ### The Admission Unit's events -/

theorem Device.handleOffer_beyond (d : Device) (o : Offer) : d.beyond (d.handleOffer o) := by
  have hplaced : ∀ {e : Device} (b : Bool), d.beyond e → d.beyond (runIf b (e.judgeAndPlace o).1) := fun b he =>
    he.then (by simp) (by simp)
  unfold Device.handleOffer
  split
  next l _ =>
    split
    next => exact d.beyond_refl.reply ..
    next => exact hplaced _ ((d.beyond_refl.removeRecord l.offer.key).post _)
  next e _ =>
    split
    next => exact d.beyond_refl.reply ..
    next => exact hplaced _ ((d.beyond_refl.updAdmission _).post _)
  next => exact hplaced _ (d.beyond_refl.updAdmission _)
  next => exact hplaced _ d.beyond_refl

theorem Device.handleWithdraw_beyond (d : Device) (k : Key) (g : Generation) (r : WithdrawReason) :
    d.beyond (d.handleWithdraw k g r) := by
  unfold Device.handleWithdraw
  split
  next =>
    split
    next => exact ((d.beyond_refl.removeRecord k).post _).run
    next => exact d.beyond_refl
  next =>
    split
    next => exact ((d.beyond_refl.updAdmission _).post _).run
    next => exact d.beyond_refl
  all_goals exact d.beyond_refl

theorem Device.handleBlock_beyond (d : Device) (k : Key) (g : Generation) (n : Nat) (p : List Byte) :
    d.beyond (d.handleBlock k g n p) := by
  have hanswered : d.beyond (d.answerBlock k g) := Device.beyond_of_keeps (by simp) (by simp)
  unfold Device.handleBlock
  split
  next =>
    split
    next => exact ⟨by simp, rfl, rfl, fun _ hw => absurd hw (List.append_ne_nil_of_right_ne_nil _ (List.cons_ne_nil _ _))⟩
    next => exact hanswered
  next => exact hanswered

theorem Device.landTimeout_beyond (d : Device) (l : Landing) : d.beyond (d.landTimeout l) :=
  (((d.beyond_refl.reply ..).removeRecord l.offer.key).post _).run

theorem Device.ordered.completeLanding (hd : d.allInOrder) (l : Landing) : (d.completeLanding l).allInOrder := by
  have hended : (((d.removeRecord l.offer.key).updAdmission (·.addRecent
      { key := l.offer.key, generation := l.offer.generation, blocks := l.blocks })).post
        (l.offer.ended .landed l.offer.fields.length)).allInOrder :=
    (((d.beyond_refl.removeRecord l.offer.key).updAdmission _).post _).ordered hd
  unfold Device.completeLanding
  dsimp only
  split
  next => exact hended.applySignal inOrderRule _ _ _ _
  next => exact hended

theorem Device.ordered.reportWrite (hd : d.allInOrder) (k : Key) : (d.reportWrite k).allInOrder := by
  unfold Device.reportWrite
  split
  next l _ =>
    have hclaimed : (d.claimReceipt l (decide (l.written = l.blocks))).allInOrder :=
      Device.ordered_of_parts hd (by simp) (by simp)
    dsimp only
    split
    next => exact hclaimed.completeLanding l
    next => exact hclaimed
  next => exact hd

theorem Device.ordered.writeDone (hd : d.allInOrder) (owner : Option Key) : (d.writeDone owner).allInOrder := by
  cases owner with
  | none => exact Device.ordered_of_parts hd (by simp [Device.writeDone]) (by simp [Device.writeDone])
  | some k =>
    have hplaced : ((d.updAdmission (·.updRecord k fun l => { l with written := l.written + 1 })).placeFreed k).allInOrder :=
      Device.ordered_of_parts hd (by simp) (by simp)
    exact Device.ordered_of_parts (hplaced.reportWrite k) (by simp [Device.writeDone]) (by simp [Device.writeDone])

/-- No write is in flight when one has failed. -/
theorem Device.ordered.writeFailed (hd : d.allInOrder) (hfree : d.port.access = none) (owner : Option Key) :
    (d.writeFailed owner).allInOrder := by
  have hspread : d.distribute.runAndSweep.allInOrder := Device.ordered_of_parts hd (by simp) (by simp)
  cases owner with
  | none => exact hspread
  | some k =>
    unfold Device.writeFailed
    dsimp only
    split
    next =>
      have hdropped : d.beyond (d.updPort fun p =>
          { p with writes := p.writes.filter fun w => decide (w.owner ≠ some k) }) :=
        ⟨rfl, rfl, rfl, fun ha => by cases ha.symm.trans hfree⟩
      exact ((((hdropped.reply ..).updAdmission _).post _).run).ordered hd
    all_goals exact hspread

/-! ### The memory port and the lane (R15, R90, R91, R141 to R144) -/

theorem MemoryPort.outstanding_free {p : MemoryPort} (h : p.liveRead = []) :
    ({ p with access := none } : MemoryPort).outstanding = p.outstanding := by
  unfold MemoryPort.outstanding
  rw [h]
  rfl

/-- The port is free again after an access that is no read for a buffer. -/
theorem Device.ordered.freed {K : ChannelNo → Channel → Prop} (hd : d.ordered K) (h : d.port.liveRead = []) {e : Device}
    (hc : e.channels = d.channels) (hr : e.port.reads = d.port.reads) (ha : e.port.access = none) : e.ordered K := by
  have hout : e.port.outstanding = d.port.outstanding := by
    rw [← MemoryPort.outstanding_free h]
    unfold MemoryPort.outstanding MemoryPort.liveRead
    rw [hr, ha]
  exact ⟨fun c => hc ▸ hd.each c, hd.port.congr (fun c => by rw [hc]) (hout ▸ .refl _) fun hw => by cases ha.symm.trans hw⟩

theorem MemoryPort.outstanding_read {p : MemoryPort} {r : ReadRequest} (h : p.access = some (.read r false)) :
    p.outstanding = p.reads ++ [r] := by
  unfold MemoryPort.outstanding MemoryPort.liveRead
  rw [h]

/-- R90: the buffer holds the block that was read. -/
theorem Device.ordered.fillBuffer (hd : d.allInOrder) {r : ReadRequest} (h : d.port.access = some (.read r false))
    (data : List Byte) : (d.freePort.fillBuffer r data).allInOrder := by
  have hout := MemoryPort.outstanding_read h
  have hperm : d.port.outstanding.Perm (r :: d.port.reads) := by
    rw [hout]
    exact List.perm_append_singleton r d.port.reads
  have hfetching := hd.port.fetching r (hperm.mem_iff.mpr List.mem_cons_self)
  have hplaces := (hperm.map ReadRequest.place).nodup_iff.mp hd.port.distinct
  rw [List.map_cons, List.nodup_cons] at hplaces
  obtain ⟨hnew, hdistinct⟩ := hplaces
  obtain ⟨c, b, block, address, bytes, level⟩ := r
  have hc := hd.each c
  have hsame : (d.freePort.fillBuffer ⟨c, b, block, address, bytes, level⟩ data).channels[c] =
      { d.channels[c] with buffers := d.channels[c].buffers.set b (.holding block data) } := Vector.getElem_set_self _
  have hother : ∀ e : ChannelNo, e ≠ c →
      (d.freePort.fillBuffer ⟨c, b, block, address, bytes, level⟩ data).channels[e] = d.channels[e] := fun e he =>
    Vector.getElem_set_ne c.isLt e.isLt fun h => he (Fin.ext h.symm)
  have hfilled : (d.channels[c].buffers.set b (.holding block data))[b] = .holding block data := Vector.getElem_set_self _
  have hkept : ∀ i : Fin 2, i ≠ b → (d.channels[c].buffers.set b (.holding block data))[i] = d.channels[c].buffers[i] :=
    fun i hi => Vector.getElem_set_ne b.isLt i.isLt fun h => hi (Fin.ext h.symm)
  have hblock : ∀ i : Fin 2, (d.channels[c].buffers.set b (.holding block data))[i].blockNo =
      d.channels[c].buffers[i].blockNo := fun i => by
    by_cases hi : i = b
    · subst hi
      have hfetching : d.channels[c].buffers[i] = .fetching block := hfetching
      rw [hfilled, hfetching]
      rfl
    · rw [hkept i hi]
  have hempty : ∀ i : Fin 2, (d.channels[c].buffers.set b (.holding block data))[i] = .empty ↔
      d.channels[c].buffers[i] = .empty := fun i => by
    constructor
    · intro he
      exact FetchBuffer.blockNo_none ((hblock i).symm.trans (congrArg FetchBuffer.blockNo he))
    · intro he
      exact FetchBuffer.blockNo_none ((hblock i).trans (congrArg FetchBuffer.blockNo he))
  have hfetches : ∀ m, d.channels[c].fetches m →
      ({ d.channels[c] with buffers := d.channels[c].buffers.set b (.holding block data) } : Channel).fetches m :=
    fun m hm hs hl hb => (hm hs hl hb).imp (fun ⟨i, hi⟩ => ⟨i, (hblock i).trans hi⟩) fun hfull i => mt (hempty i).mp (hfull i)
  refine ⟨fun e => ?_, ?_, fun q hq => ?_, fun e i hi => ?_, nofun⟩
  · by_cases he : e = c
    · subst he
      rw [hsame]
      refine ⟨⟨hc.shape, hc.counters, hc.ranges, fun i hs hd => (hempty i).mpr (hc.buffers.1 i hs hd), ?_⟩,
        hfetches _ hc.wanted, hfetches _ hc.wantedNext⟩
      rw [hblock, hblock]
      exact hc.buffers.2
    · rw [hother e he]
      exact hd.each e
  · show ((d.port.reads ++ []).map ReadRequest.place).Nodup
    rwa [List.append_nil]
  · have hq : q ∈ d.port.reads := by
      have hq : q ∈ d.port.reads ++ [] := hq
      rwa [List.append_nil] at hq
    have hbuffer := hd.port.fetching q (hperm.mem_iff.mpr (List.mem_cons_of_mem _ hq))
    have hplace : q.place ≠ (c, b) := fun he => hnew (List.mem_map.mpr ⟨q, hq, he⟩)
    obtain ⟨e, i, block', address', bytes', level'⟩ := q
    by_cases he : e = c
    · subst he
      have hi : i ≠ b := fun hi => hplace (by rw [hi]; rfl)
      exact (congrArg (fun ch : Channel => ch.buffers[i]) hsame).trans ((hkept i hi).trans hbuffer)
    · exact (congrArg (fun ch : Channel => ch.buffers[i]) (hother e he)).trans hbuffer
  · have hplace : (e, i) ≠ (c, b) := fun he => by
      obtain ⟨rfl, rfl⟩ := Prod.mk.inj he
      rw [hsame] at hi
      have hi : (d.channels[e].buffers.set i (.holding block data))[i].isFetching = true := hi
      rw [hfilled] at hi
      cases hi
    have hi' : d.channels[e].buffers[i].isFetching = true := by
      by_cases he : e = c
      · subst he
        have hib : i ≠ b := fun hib => hplace (by rw [hib])
        rw [hsame] at hi
        have hi : (d.channels[e].buffers.set b (.holding block data))[i].isFetching = true := hi
        rwa [hkept i hib] at hi
      · rwa [hother e he] at hi
    obtain ⟨q, hq, hqp⟩ := hd.port.requested e i hi'
    refine ⟨q, ?_, hqp⟩
    show q ∈ d.port.reads ++ []
    rw [List.append_nil]
    rcases List.mem_cons.mp (hperm.mem_iff.mp hq) with rfl | hq
    · exact absurd hqp.symm hplace
    · exact hq

/-- R144: the transfer whose read failed ends, whatever the port was doing for its buffers. -/
theorem Device.ordered.readFailed (hd : d.allInOrder) {r : ReadRequest} (h : d.port.access = some (.read r false)) :
    (d.freePort.endTransfer r.channel .fault none).allInOrder := by
  have hlive : r ∈ d.port.outstanding := by
    rw [MemoryPort.outstanding_read h]
    exact List.mem_append_right _ (List.mem_singleton_self r)
  have hfetching := hd.port.fetching r hlive
  have hc := hd.each r.channel
  have hmoving : d.channels[r.channel].state = .streaming ∨ d.channels[r.channel].state = .draining := by
    by_contra hno
    rw [not_or] at hno
    cases hfetching.symm.trans (hc.buffers.1 r.buffer hno.1 hno.2)
  obtain ⟨a, ha⟩ := hc.active_of_state fun he => by rcases hmoving with h | h <;> cases h.symm.trans he
  have hended := (hd.soundAt r.channel).endTransfer (o := .fault) (by decide) none
    (by rcases hmoving with h | h <;> rw [h] <;> rfl)
  rw [Device.endTransfer_ended d r.channel a .fault none (by decide) ha] at hended
  rw [Device.endTransfer_ended d.freePort r.channel a .fault none (by decide) ha]
  refine hended.freed ?_ rfl rfl rfl
  show (d.port.without r.channel).liveRead = []
  simp [MemoryPort.without, MemoryPort.liveRead, h]

theorem Device.ordered.issue (hd : d.allInOrder) : (d.updPort MemoryPort.issue).allInOrder := by
  cases ha : d.port.access with
  | some a => exact Device.ordered_of_parts hd rfl (MemoryPort.issue_busy ha)
  | none =>
    by_cases hw : d.port.writes = []
    · cases hr : bestRead d.port.reads with
      | none =>
        have hsame : d.port.issue = d.port := by simp only [MemoryPort.issue, ha, hw, hr]
        exact Device.ordered_of_parts hd rfl hsame
      | some r =>
        have hissued := MemoryPort.issue_read ha hw hr
        have hperm : d.port.issue.outstanding.Perm d.port.outstanding := by
          rw [hissued]
          have hfree : d.port.outstanding = d.port.reads := by
            unfold MemoryPort.outstanding MemoryPort.liveRead
            rw [ha]
            exact List.append_nil _
          rw [hfree]
          show (d.port.reads.erase r ++ [r]).Perm d.port.reads
          exact (List.perm_append_singleton r _).trans (List.perm_cons_erase (firstMin_mem hr)).symm
        refine ⟨hd.each, hd.port.congr (fun _ => rfl) hperm fun hwr => ?_⟩
        have hwr : d.port.issue.access = some .write := hwr
        rw [hissued] at hwr
        cases hwr
    · have hissued := MemoryPort.issue_write ha hw
      refine ⟨hd.each, hd.port.congr (fun _ => rfl) ?_ fun _ => ?_⟩
      · show d.port.issue.outstanding.Perm d.port.outstanding
        rw [hissued]
        unfold MemoryPort.outstanding MemoryPort.liveRead
        rw [ha]
      · show d.port.issue.writes ≠ []
        rwa [MemoryPort.issue_writes]

theorem Device.ordered.sentBlock (hd : d.allInOrder) {c : ChannelNo} {a : Descriptor} {data : List Byte}
    (h : d.channels[c].readyBlock = some (a, data)) : ((d.sentBlock c a data).requestReads c).allInOrder := by
  obtain ⟨hs, ha, hlt, -⟩ := Channel.hasReady_of_readyBlock h
  have hc := hd.each c
  obtain ⟨hretry, -, -, hcount, hstream, -⟩ := hc.counters
  obtain ⟨hal, hlb, -, hnear⟩ := hcount (.inl hs)
  have hnext := hstream hs
  have htimer : d.channels[c].timer.isSome = true := by
    rw [hc.shape.2.2, hs]
    rfl
  simp only [Channel.blocks, ha] at hlb hnext
  refine Device.ordered.requestReads ?_
  have hsent := hd.recast c (keep := fun b => !b.has d.channels[c].next) (K' := Channel.exceptAt c Channel.sound)
    (ch := { d.channels[c] with
      next := d.channels[c].next + 1
      buffers := d.channels[c].buffers.map (FetchBuffer.keptBy fun b => !b.has d.channels[c].next)
      state := if d.channels[c].next + 1 = blockCount a.length then .draining else d.channels[c].state })
    rfl (fun _ => rfl) (Channel.exceptAt_same.mpr ?_) fun b ch hb h => (Channel.exceptAt_other hb).mpr h
  · exact Device.ordered_of_parts hsent rfl rfl
  · refine Channel.sound_of_moving hc.tosound ha rfl rfl rfl rfl htimer hretry ?_ hal hlb hlt
      (hnear.trans (Nat.le_succ _)) (FetchBuffer.distinct_keptBy _ hc.buffers.2)
    by_cases hend : d.channels[c].next + 1 = blockCount a.length
    · exact .inr ⟨if_pos hend, hend⟩
    · refine .inl ⟨(if_neg hend).trans hs, ?_⟩
      show d.channels[c].next + 1 < blockCount a.length
      omega

theorem Device.ordered.settle (hd : d.allInOrder) : d.settle.allInOrder := by
  have hreported : d.reportDrained.allInOrder := Device.ordered_of_parts hd (by simp) (by simp)
  refine Device.ordered.issue ?_
  rcases d.reportDrained.chooseFrame_cases with ⟨s, heq⟩ | ⟨c, a, data, -, -, -, -, -, -, hblock, heq⟩
  · rw [heq]
    exact Device.ordered_of_parts hreported rfl rfl
  · rw [heq]
    exact hreported.sentBlock hblock

/-! ### Every step -/

theorem Device.Handles.ordered {e : Device} {x : Station} (h : d.Handles x e) (hd : d.allInOrder) : e.allInOrder := by
  cases h with
  | offer c g h => exact (d.handleOffer_beyond _).ordered hd
  | block c g h => exact (d.handleBlock_beyond ..).ordered hd
  | withdraw c g reason => exact (d.handleWithdraw_beyond ..).ordered hd
  | wait c g => exact hd.handleWait x g
  | grant c g h => exact hd.handleGrant x g ..
  | refuse c g reason => exact hd.handleRefuse x g reason
  | receipt c g final h => exact hd.handleReceipt x g final h
  | pause c g h => exact hd.handlePause x g _
  | signal e a =>
    unfold Device.handleSignal
    split
    next => exact hd.applySignal inOrderRule ..
    next => exact hd
  | halt => exact Device.ordered_of_parts hd (by simp) (by simp)
  | resume => exact Device.ordered_of_parts hd (by simp) (by simp)

theorem Device.Works.ordered {e : Device} (h : d.Works e) (hd : d.allInOrder) : e.allInOrder := by
  cases h with
  | leave h => exact hd.startLeaving
  | reset => exact hd.resetStation
  | start h => exact hd.tryStart inOrderRule h
  | stop hs h => exact (hd.soundAt _).endTransfer (o := .aborted) (by decide) _ h
  | edge line =>
    refine foldl_induction (fun e c he => ?_) eight hd
    split
    next => exact he.startOrMiss inOrderRule c .line
    next => exact he
  | frame hr hx h => exact h.ordered (Device.ordered_of_parts hd (by simp) (by simp))
  | joinFrame hr hx => exact hd.handleJoin _
  | leaveFrame hr hx => exact hd.handleLeave _
  | joinSent h => exact Device.ordered.countJoin (Device.ordered_of_parts hd (by simp) (by simp))
  | resetSent h ho => exact d.softReset_inOrder
  | offerTimer h => exact hd.resendOffer h
  | streamTimer h => exact hd.streamExpiry h
  | queueTimer h => exact (hd.soundAt _).endTransfer (o := .queueExpired) (by decide) _ (by rw [h]; rfl)
  | pauseTimer h => exact (hd.soundAt _).endTransfer (o := .pauseExpired) (by decide) _ (by rw [h]; rfl)
  | lifetime h => exact Device.ordered_of_parts hd (by simp) (by simp)
  | landingTimer h => exact (d.landTimeout_beyond _).ordered hd
  | readFilled data h => exact hd.fillBuffer h data
  | readDropped h => exact hd.freed (by simp only [MemoryPort.liveRead, h]) rfl rfl rfl
  | readFailed h => exact hd.readFailed h
  | written ha hw =>
    exact Device.ordered.writeDone (hd.freed (e := d.popWrite) (by simp only [MemoryPort.liveRead, ha]) rfl rfl rfl) _
  | writeFailed ha hw =>
    exact Device.ordered.writeFailed (hd.freed (e := d.popWrite) (by simp only [MemoryPort.liveRead, ha]) rfl rfl rfl) rfl _
  | _ => exact Device.ordered_of_parts hd (by simp) (by simp)

theorem Device.Writes.ordered {e : Device} (h : d.Writes e) (hd : d.allInOrder) : e.allInOrder := by
  cases h with
  | load c h => exact hd.updChannel c (by unfold Channel.load; split <;> rfl) ((hd.each c).load h) fun _ _ _ h => h
  | stopIdle c h =>
    refine hd.updChannel c ?_ (hd.each c).stopIdle fun _ _ _ h => h
    unfold Channel.stopIdle
    split
    next => rw [Channel.promote_eq]
    all_goals rfl
  | clear c h => exact hd.updChannel c rfl ((hd.each c).clear h) fun _ _ _ h => h
  | _ => exact Device.ordered_of_parts hd (by simp) (by simp)

end

theorem channelsRule : EventRule Device.allInOrder Device.allInOrder Device.allInOrder where
  registers {d e} h hd := by
    obtain ⟨f, -, rfl⟩ := h
    exact Device.ordered_of_parts hd rfl rfl
  answered {d e} h hd := by
    obtain ⟨f, -, rfl⟩ := h
    exact Device.ordered_of_parts hd rfl rfl
  works h hd := h.ordered hd
  settles hd := hd.settle
  writes h hd := h.ordered hd
  configures _ h hd := by cases h <;> exact Device.ordered_of_parts hd rfl rfl

/-- Settles O57: a channel in order and the agreement of its buffers with the port are kept by every operation. -/
theorem channelsStayInOrder : Obligations.ChannelsStayInOrder := fun _ _ hs h =>
  Device.inOrder_iff.mpr (channelsRule.step Device.powerOn_inOrder h (Device.inOrder_iff.mp hs))

end Sys2Proof.Machine

/-! The ledger of the receive pool (R67, R92, R93, R139): which record each written block is for, and how the operations on
the four collections and on the write queue keep it. -/

namespace Sys2Proof.Machine

/-! ### Tallies -/

/-- A record's key with the blocks it has written and the blocks it has accepted. -/
def Landing.tally (l : Landing) : Key × Nat × Nat := (l.offer.key, l.written, l.accepted)

/-- The tallies of the landing table and of the suspended list. -/
def AdmissionUnit.tallies (a : AdmissionUnit) : List (Key × Nat × Nat) := (a.landings ++ a.suspended).map Landing.tally

/-- The queued writes of this key's record. -/
def heldFor (ws : List WriteEntry) (k : Key) : Nat := ws.countP fun w => decide (w.owner = some k)

theorem AdmissionUnit.keys_eq (a : AdmissionUnit) :
    a.keys = a.tallies.map Prod.fst ++ a.waiting.map (·.offer.key) ++ a.recent.map (·.key) := by
  simp [AdmissionUnit.keys, AdmissionUnit.tallies, Landing.tally, Function.comp_def]

theorem AdmissionUnit.mem_tallies {a : AdmissionUnit} {l : Landing} (h : l ∈ a.landings ++ a.suspended) :
    l.tally ∈ a.tallies := List.mem_map_of_mem h

/-- R69, R92, R139: keys are distinct, each record's counts agree with the write queue, and every reference names a record. -/
structure AdmissionUnit.booked (a : AdmissionUnit) (ws : List WriteEntry) : Prop where
  keys : a.keysOk
  counts : ∀ t ∈ a.tallies, t.2.1 + heldFor ws t.1 = t.2.2
  owners : ∀ w ∈ ws, ∀ k ∈ w.owner, ∃ t ∈ a.tallies, t.1 = k

section
variable {a b : AdmissionUnit} {ws : List WriteEntry}

theorem AdmissionUnit.keysOk_of_tallies (h : a.keysOk) (ht : (b.tallies.map Prod.fst).Sublist (a.tallies.map Prod.fst))
    (hw : (b.waiting.map (·.offer.key)).Sublist (a.waiting.map (·.offer.key)))
    (hr : (b.recent.map (·.key)).Sublist (a.recent.map (·.key))) : b.keysOk := by
  rw [AdmissionUnit.keysOk, AdmissionUnit.keys_eq] at h ⊢
  exact h.sublist ((ht.append hw).append hr)

theorem AdmissionUnit.keysOk_of_perm (h : a.keysOk) (hk : b.keys.Perm a.keys) : b.keysOk := hk.nodup_iff.mpr h

/-- The records are the same with the same counts, in any order and in either collection. -/
theorem AdmissionUnit.booked.of_perm (h : a.booked ws) (ht : b.tallies.Perm a.tallies)
    (hw : (b.waiting.map (·.offer.key)).Sublist (a.waiting.map (·.offer.key)))
    (hr : (b.recent.map (·.key)).Sublist (a.recent.map (·.key))) : b.booked ws where
  keys := by
    have hkeys := h.keys
    rw [AdmissionUnit.keysOk, AdmissionUnit.keys_eq] at hkeys ⊢
    have hmid := hkeys.sublist (((List.Sublist.refl _).append hw).append hr)
    exact (((ht.map Prod.fst).append_right _).append_right _).nodup_iff.mpr hmid
  counts t htm := h.counts t (ht.mem_iff.mp htm)
  owners w hwm k hk := by
    obtain ⟨t, htm, hkey⟩ := h.owners w hwm k hk
    exact ⟨t, ht.mem_iff.mpr htm, hkey⟩

theorem AdmissionUnit.tallies_dropRecord (a : AdmissionUnit) (k : Key) :
    (a.dropRecord k).tallies = a.tallies.filter fun t => decide (t.1 ≠ k) := by
  rw [AdmissionUnit.tallies, AdmissionUnit.tallies, List.filter_map, List.filter_append]
  rfl

/-- R71, R101: a record goes, and of the writes that were queued none names it any longer. -/
theorem AdmissionUnit.booked.dropRecord (h : a.booked ws) (k : Key) {vs : List WriteEntry}
    (hothers : ∀ k', k' ≠ k → heldFor vs k' = heldFor ws k')
    (howners : ∀ w ∈ vs, ∀ k' ∈ w.owner, k' ≠ k ∧ ∃ v ∈ ws, k' ∈ v.owner) : (a.dropRecord k).booked vs where
  keys := AdmissionUnit.keysOk_of_tallies h.keys (by rw [a.tallies_dropRecord]; exact List.filter_sublist.map _) (.refl _) (.refl _)
  counts t ht := by
    rw [a.tallies_dropRecord, List.mem_filter, decide_eq_true_eq] at ht
    rw [hothers t.1 ht.2]
    exact h.counts t ht.1
  owners w hw k' hk' := by
    obtain ⟨hne, v, hv, hkv⟩ := howners w hw k' hk'
    obtain ⟨t, ht, hkey⟩ := h.owners v hv k' hkv
    exact ⟨t, by rw [a.tallies_dropRecord]; simp [ht, hkey, hne], hkey⟩

/-- R75: a record enters under a key that no record and no reference has. -/
theorem AdmissionUnit.booked.enter (h : a.booked ws) {k : Key} (hfresh : k ∉ a.keys) (hkeys : b.keys.Perm (k :: a.keys))
    (ht : b.tallies.Perm ((k, 0, 0) :: a.tallies)) : b.booked ws where
  keys := hkeys.nodup_iff.mpr (List.nodup_cons.mpr ⟨hfresh, h.keys⟩)
  counts t htm := by
    rcases List.mem_cons.mp (ht.mem_iff.mp htm) with rfl | htm
    · have hnone : heldFor ws k = 0 := List.countP_eq_zero.mpr fun w hw howner => hfresh (by
        obtain ⟨u, hu, rfl⟩ := h.owners w hw k (of_decide_eq_true howner)
        rw [AdmissionUnit.keys_eq]
        exact List.mem_append_left _ (List.mem_append_left _ (List.mem_map_of_mem hu)))
      rw [hnone]
    · exact h.counts t htm
  owners w hw k' hk' := by
    obtain ⟨t, htm, hkey⟩ := h.owners w hw k' hk'
    exact ⟨t, ht.mem_iff.mpr (List.mem_cons_of_mem _ htm), hkey⟩

/-- R77, R110: an entry that is no record enters under a new key. -/
theorem AdmissionUnit.booked.note (h : a.booked ws) {k : Key} (hfresh : k ∉ a.keys) (hkeys : b.keys.Subperm (k :: a.keys))
    (ht : b.tallies = a.tallies) : b.booked ws where
  keys := by
    obtain ⟨l, hperm, hsub⟩ := hkeys
    exact hperm.nodup_iff.mp ((List.nodup_cons.mpr ⟨hfresh, h.keys⟩).sublist hsub)
  counts := ht ▸ h.counts
  owners := ht ▸ h.owners

/-- A change of one record: the tallies that change are those of its key. -/
theorem AdmissionUnit.booked.change (h : a.booked ws) {k : Key} {f : Key × Nat × Nat → Key × Nat × Nat}
    {vs : List WriteEntry} (hf : ∀ t, (f t).1 = t.1) (hkeys : b.keys = a.keys)
    (ht : b.tallies = a.tallies.map fun t => if t.1 = k then f t else t)
    (hothers : ∀ k', k' ≠ k → heldFor vs k' = heldFor ws k')
    (hown : ∀ t ∈ a.tallies, t.1 = k → (f t).2.1 + heldFor vs k = (f t).2.2)
    (howners : ∀ w ∈ vs, ∀ k' ∈ w.owner, ∃ t ∈ a.tallies, t.1 = k') : b.booked vs where
  keys := by rw [AdmissionUnit.keysOk, hkeys]; exact h.keys
  counts t htm := by
    rw [ht] at htm
    obtain ⟨u, hu, rfl⟩ := List.mem_map.mp htm
    split
    next hk =>
      rw [hf, hk]
      exact hown u hu hk
    next hk =>
      rw [hothers _ hk]
      exact h.counts u hu
  owners w hw k' hk' := by
    obtain ⟨t, htm, rfl⟩ := howners w hw k' hk'
    refine ⟨_, ht ▸ List.mem_map_of_mem htm, ?_⟩
    split
    next => exact hf t
    next => rfl

end

end Sys2Proof.Machine

/-! The receive pool in order (R67, R92, R93, R113, R139) as a property of the four collections and the write queue, and one
lemma for each way the Admission Unit and the Memory Port change them. -/

namespace Sys2Proof.Machine

/-- The ledger, the counts of each record, and the size of the pool. -/
structure AdmissionUnit.pooled (a : AdmissionUnit) (ws : List WriteEntry) : Prop where
  booked : a.booked ws
  table : ∀ l ∈ a.landings, l.tableOk
  aside : ∀ l ∈ a.suspended, l.suspendedOk
  lengths : ∀ e ∈ a.waiting, 1 ≤ e.offer.fields.length
  room : ws.length + a.reserved ≤ Config.poolBuffers

theorem Device.poolOk_iff {d : Device} : d.poolOk ↔ d.admission.pooled d.port.writes := by
  constructor
  · rintro ⟨hkeys, htable, haside, hlengths, hcounts, howners, hroom⟩
    refine ⟨⟨hkeys, fun t ht => ?_, fun w hw k hk => ?_⟩, htable, haside, hlengths, hroom⟩
    · obtain ⟨l, hl, rfl⟩ := List.mem_map.mp ht
      exact hcounts l hl
    · obtain ⟨l, hl, hkey⟩ := howners w hw k hk
      exact ⟨_, AdmissionUnit.mem_tallies hl, hkey⟩
  · rintro ⟨⟨hkeys, hcounts, howners⟩, htable, haside, hlengths, hroom⟩
    refine ⟨hkeys, htable, haside, hlengths, fun l hl => hcounts _ (AdmissionUnit.mem_tallies hl), fun w hw k hk => ?_, hroom⟩
    obtain ⟨t, ht, hkey⟩ := howners w hw k hk
    obtain ⟨l, hl, rfl⟩ := List.mem_map.mp ht
    exact ⟨l, hl, hkey⟩

/-! ### A record of the landing table changes -/

section
variable {a : AdmissionUnit}

theorem AdmissionUnit.keysOk_apart (h : a.keysOk) {l m : Landing} (hl : l ∈ a.landings) (hm : m ∈ a.suspended) :
    m.offer.key ≠ l.offer.key := by
  obtain ⟨hrecords, -⟩ := a.keysOk_parts h
  rw [List.map_append, List.nodup_append'] at hrecords
  obtain ⟨-, -, hdisjoint⟩ := hrecords
  exact fun heq => hdisjoint (List.mem_map_of_mem hl) (heq ▸ List.mem_map_of_mem hm)

theorem AdmissionUnit.keysOk_unique (h : a.keysOk) {l m : Landing} (hl : l ∈ a.landings) (hm : m ∈ a.landings)
    (hkey : m.offer.key = l.offer.key) : m = l :=
  List.inj_on_of_nodup_map (a.keysOk_landings h) hm hl hkey

/-- The record of a landing's key is on no other list. -/
theorem AdmissionUnit.updLanding_eq_updRecord (h : a.keysOk) {l : Landing} (hl : l ∈ a.landings) (f : Landing → Landing) :
    a.updLanding l.offer.key f = a.updRecord l.offer.key f := by
  have hsame : (a.suspended.map fun m => if m.offer.key = l.offer.key then f m else m) = a.suspended :=
    (List.map_congr_left fun m hm => if_neg (AdmissionUnit.keysOk_apart h hl hm)).trans (List.map_id' _)
  simp only [AdmissionUnit.updLanding, AdmissionUnit.updRecord, hsame]

theorem AdmissionUnit.tallies_updRecord (k : Key) {f : Landing → Landing} {g : Key × Nat × Nat → Key × Nat × Nat}
    (hf : ∀ l, (f l).tally = g l.tally) :
    (a.updRecord k f).tallies = a.tallies.map fun t => if t.1 = k then g t else t := by
  simp only [AdmissionUnit.tallies, AdmissionUnit.updRecord, ← List.map_append, List.map_map]
  refine List.map_congr_left fun l _ => ?_
  simp only [Function.comp_apply]
  split
  next hk => rw [hf, if_pos (show l.tally.1 = k from hk)]
  next hk => rw [if_neg (show ¬l.tally.1 = k from hk)]

theorem AdmissionUnit.keys_updRecord (k : Key) {f : Landing → Landing} (hf : ∀ l, (f l).offer = l.offer) :
    (a.updRecord k f).keys = a.keys := by
  have hsame : ∀ ls : List Landing, (ls.map fun l => if l.offer.key = k then f l else l).map (·.offer.key) =
      ls.map (·.offer.key) := fun ls => by
    rw [List.map_map]
    refine List.map_congr_left fun l _ => ?_
    simp only [Function.comp_apply]
    split
    next => rw [hf]
    next => rfl
  simp only [AdmissionUnit.keys, AdmissionUnit.updRecord, hsame]

theorem AdmissionUnit.reserved_updLanding (h : a.keysOk) {l : Landing} (hl : l ∈ a.landings) (f : Landing → Landing) :
    (a.updLanding l.offer.key f).reserved + l.reserved = a.reserved + (f l).reserved := by
  obtain ⟨before, after, hsplit⟩ := List.append_of_mem hl
  rw [a.updLanding_at h hsplit]
  simp only [AdmissionUnit.reserved, hsplit, List.map_append, List.map_cons, List.sum_append, List.sum_cons]
  omega

/-- What the landing table holds after a change of one landing. -/
theorem AdmissionUnit.mem_updLanding (h : a.keysOk) {l : Landing} (hl : l ∈ a.landings) {f : Landing → Landing} {m : Landing}
    (hm : m ∈ (a.updLanding l.offer.key f).landings) : m = f l ∨ m ∈ a.landings := by
  obtain ⟨n, hn, rfl⟩ := List.mem_map.mp hm
  split
  next hk => exact .inl (by rw [AdmissionUnit.keysOk_unique h hl hn hk])
  next => exact .inr hn

end

/-! ### What keeps the pool in order -/

/-- R139: the write queue after a record is removed. -/
def orphans (ws : List WriteEntry) (k : Key) : List WriteEntry :=
  ws.map fun w => if w.owner = some k then { w with owner := none } else w

theorem heldFor_orphans {k k' : Key} (h : k' ≠ k) (ws : List WriteEntry) : heldFor (orphans ws k) k' = heldFor ws k' := by
  rw [heldFor, orphans, List.countP_map]
  refine List.countP_congr fun w _ => ?_
  simp only [Function.comp_apply, decide_eq_true_eq]
  split
  next hk => simp [hk, Ne.symm h]
  next => rfl

theorem heldFor_filter {k k' : Key} (h : k' ≠ k) (ws : List WriteEntry) :
    heldFor (ws.filter fun w => decide (w.owner ≠ some k)) k' = heldFor ws k' := by
  rw [heldFor, List.countP_filter]
  refine List.countP_congr fun w _ => ?_
  simp only [Bool.and_eq_true, decide_eq_true_eq, and_iff_left_iff_imp]
  intro hw heq
  exact h (Option.some.inj (hw.symm.trans heq))

section
variable {a : AdmissionUnit} {ws : List WriteEntry} (h : a.pooled ws)
include h

theorem AdmissionUnit.pooled.keysOk : a.keysOk := h.booked.keys

/-- Pending entries and recently landed ones go. -/
theorem AdmissionUnit.pooled.fewer {waiting : List PendingEntry} {recent : List RecentEntry}
    (hw : waiting.Sublist a.waiting) (hr : recent.Sublist a.recent) :
    ({ a with waiting := waiting, recent := recent } : AdmissionUnit).pooled ws where
  booked := h.booked.of_perm (.refl _) (hw.map _) (hr.map _)
  table := h.table
  aside := h.aside
  lengths e he := h.lengths e (hw.subset he)
  room := h.room

/-- R71, R101: a record goes, and its references or its writes with it. -/
theorem AdmissionUnit.pooled.dropRecord (k : Key) {vs : List WriteEntry}
    (hothers : ∀ k', k' ≠ k → heldFor vs k' = heldFor ws k')
    (howners : ∀ w ∈ vs, ∀ k' ∈ w.owner, k' ≠ k ∧ ∃ v ∈ ws, k' ∈ v.owner) (hlen : vs.length ≤ ws.length) :
    (a.dropRecord k).pooled vs where
  booked := h.booked.dropRecord k hothers howners
  table l hl := h.table l (List.mem_filter.mp hl).1
  aside l hl := h.aside l (List.mem_filter.mp hl).1
  lengths := h.lengths
  room := by
    have hless : (a.dropRecord k).reserved ≤ a.reserved := (List.filter_sublist.map _).sum_le_sum fun _ _ => Nat.zero_le _
    have hroom := h.room
    omega

/-- R71, R82, R102. -/
theorem AdmissionUnit.pooled.remove (k : Key) : (a.dropRecord k).pooled (orphans ws k) := by
  refine h.dropRecord k (fun k' hk' => heldFor_orphans hk' ws) (fun w hw k' hk' => ?_) (by simp [orphans])
  obtain ⟨v, hv, rfl⟩ := List.mem_map.mp hw
  split at hk'
  next => cases hk'
  next hne => exact ⟨fun heq => hne (heq ▸ hk'), v, hv, hk'⟩

/-- R101: the record of a failed write goes with the writes that are queued for it. -/
theorem AdmissionUnit.pooled.discard (k : Key) : (a.dropRecord k).pooled (ws.filter fun w => decide (w.owner ≠ some k)) := by
  refine h.dropRecord k (fun k' hk' => heldFor_filter hk' ws) (fun w hw k' hk' => ?_) (List.length_filter_le _ _)
  obtain ⟨hmem, hne⟩ := List.mem_filter.mp hw
  exact ⟨fun heq => of_decide_eq_true hne (heq ▸ hk'), w, hmem, hk'⟩

/-- R75: a landing enters the table with what is free reserved for it. -/
theorem AdmissionUnit.pooled.entered {o : Offer} (hfresh : o.key ∉ a.keys) (hlen : 1 ≤ o.fields.length) {r : Nat}
    (hr : r ≤ blockCount o.fields.length) (hroom : ws.length + a.reserved + r ≤ Config.poolBuffers) (t : Timer) :
    ({ a with landings := a.landings ++ [{ offer := o, accepted := 0, written := 0, limit := r, phase := .active,
                                           timer := t }] } : AdmissionUnit).pooled ws where
  booked := by
    refine h.booked.enter hfresh ?_ ?_
    · simp [AdmissionUnit.keys]
    · simp [AdmissionUnit.tallies, Landing.tally]
  table l hl := by
    rcases List.mem_append.mp hl with hl | hl
    · exact h.table l hl
    · obtain rfl := List.mem_singleton.mp hl
      exact ⟨Nat.zero_le _, hr, .inl ⟨rfl, by simp only [Landing.blocks, blockCount]; omega⟩⟩
  aside := h.aside
  lengths := h.lengths
  room := by
    simp only [AdmissionUnit.reserved, List.map_append, List.map_cons, List.map_nil, List.sum_append, List.sum_cons,
      List.sum_nil, Landing.reserved] at hroom ⊢
    omega

/-- R77: an offer is kept waiting. -/
theorem AdmissionUnit.pooled.wait {e : PendingEntry} (hfresh : e.offer.key ∉ a.keys) (hlen : 1 ≤ e.offer.fields.length) :
    ({ a with waiting := insertByLevel PendingEntry.level e a.waiting } : AdmissionUnit).pooled ws where
  booked := by
    refine h.booked.note hfresh (List.Perm.subperm ?_) rfl
    have hperm : (insertByLevel PendingEntry.level e a.waiting).Perm (e :: a.waiting) := insertByLevel_perm _
    simp only [AdmissionUnit.keys]
    exact ((List.Perm.append_left _ (hperm.map _)).append_right _).trans (List.perm_middle.append_right _)
  table := h.table
  aside := h.aside
  lengths e' he := by
    rcases mem_insertByLevel.mp he with rfl | he
    · exact hlen
    · exact h.lengths e' he
  room := h.room

/-- R110: a landed transfer is remembered. -/
theorem AdmissionUnit.pooled.remember {r : RecentEntry} (hfresh : r.key ∉ a.keys) : (a.addRecent r).pooled ws where
  booked := by
    refine h.booked.note hfresh ?_ rfl
    have hless : (if a.recent.length < Config.recentMax then a.recent else a.recent.drop 1).Sublist a.recent := by
      split
      next => exact .refl _
      next => exact List.drop_sublist _ _
    have hkeys : (a.addRecent r).keys =
        a.landings.map (·.offer.key) ++ a.suspended.map (·.offer.key) ++ a.waiting.map (·.offer.key) ++
          (if a.recent.length < Config.recentMax then a.recent else a.recent.drop 1).map (·.key) ++ [r.key] := by
      simp [AdmissionUnit.keys, AdmissionUnit.addRecent]
    rw [hkeys]
    exact ⟨_, (List.perm_append_singleton _ _).symm, ((List.Sublist.refl _).append (hless.map _)).cons_cons _⟩
  table := h.table
  aside := h.aside
  lengths := h.lengths
  room := h.room

end

end Sys2Proof.Machine

/-! The receive pool stays in order as records change: suspension and resumption (R81, R117), credit (R98), an accepted block
(R94) and a completed write (R97, R143). -/

namespace Sys2Proof.Machine

/-- The one element of a key, ahead of the rest. -/
theorem filter_key_perm {α : Type} {key : α → Key} {xs : List α} (h : (xs.map key).Nodup) {x : α} (hx : x ∈ xs) :
    (x :: xs.filter fun y => decide (key y ≠ key x)).Perm xs := by
  obtain ⟨before, after, rfl⟩ := List.append_of_mem hx
  rw [List.map_append, List.map_cons, List.nodup_middle, List.nodup_cons, ← List.map_append] at h
  have hother : ∀ y ∈ before ++ after, decide (key y ≠ key x) = true := fun y hy =>
    decide_eq_true fun heq => h.1 (List.mem_map.mpr ⟨y, hy, heq⟩)
  rw [List.filter_append, List.filter_cons_of_neg (by simp), ← List.filter_append, List.filter_eq_self.mpr hother]
  exact List.perm_middle.symm

theorem AdmissionUnit.keysOk_suspended {a : AdmissionUnit} (h : a.keysOk) : (a.suspended.map (·.offer.key)).Nodup := by
  obtain ⟨hrecords, -⟩ := a.keysOk_parts h
  rw [List.map_append] at hrecords
  exact hrecords.of_append_right

theorem Landing.tableOk.unsettled {l : Landing} (h : l.tableOk) (hp : l.phase = .active) : l.accepted < l.blocks := by
  obtain ⟨-, -, ⟨-, hlt⟩ | ⟨hs, -⟩⟩ := h
  · exact hlt
  · cases hp.symm.trans hs

/-- R81: the landing that a suspended record resumes as. -/
def Landing.resumed (l : Landing) (r : Nat) (t : Timer) : Landing :=
  { l with limit := l.accepted + r, phase := .active, timer := t }

/-- R117: the record that a landing is suspended as. -/
def Landing.setAside (l : Landing) : Landing := { l with limit := l.accepted, phase := .suspended, timer := none }

/-- R98: the landing with one more buffer. -/
def Landing.raised (l : Landing) : Landing := { l with limit := l.limit + 1 }

/-- R97: the record once one of its blocks is written. -/
def Landing.stored (l : Landing) : Landing := { l with written := l.written + 1 }

section
variable {a : AdmissionUnit} {ws : List WriteEntry}

theorem AdmissionUnit.pooled.resume (h : a.pooled ws) {l : Landing} (hl : l ∈ a.suspended) {r : Nat}
    (hr : r ≤ l.blocks - l.accepted) (hroom : ws.length + a.reserved + r ≤ Config.poolBuffers) (t : Timer) :
    ({ a with suspended := a.suspended.filter fun m => decide (m.offer.key ≠ l.offer.key),
              landings := a.landings ++ [l.resumed r t] } : AdmissionUnit).pooled ws where
  booked := by
    refine h.booked.of_perm ?_ (.refl _) (.refl _)
    have hperm := filter_key_perm (key := fun m : Landing => m.offer.key) (a.keysOk_suspended h.keysOk) hl
    simpa [AdmissionUnit.tallies, Landing.tally, Landing.resumed] using (hperm.map Landing.tally).append_left (a.landings.map Landing.tally)
  table m hm := by
    rcases List.mem_append.mp hm with hm | hm
    · exact h.table m hm
    · obtain rfl := List.mem_singleton.mp hm
      obtain ⟨-, -, hlt⟩ := h.aside l hl
      exact ⟨Nat.le_add_right _ _, show l.accepted + r ≤ l.blocks by omega, .inl ⟨rfl, hlt⟩⟩
  aside m hm := h.aside m (List.mem_filter.mp hm).1
  lengths := h.lengths
  room := by
    have hnew : (l.resumed r t).reserved = r := Nat.add_sub_cancel_left _ _
    simp only [AdmissionUnit.reserved, List.map_append, List.map_cons, List.map_nil, List.sum_append, List.sum_cons,
      List.sum_nil, hnew] at hroom ⊢
    omega

theorem AdmissionUnit.pooled.suspend (h : a.pooled ws) {l : Landing} (hl : l ∈ a.landings) (hp : l.phase = .active) :
    ({ a with landings := a.landings.filter fun m => decide (m.offer.key ≠ l.offer.key),
              suspended := insertByLevel Landing.level l.setAside a.suspended } : AdmissionUnit).pooled ws where
  booked := by
    refine h.booked.of_perm ?_ (.refl _) (.refl _)
    have hperm := filter_key_perm (key := fun m : Landing => m.offer.key) (a.keysOk_landings h.keysOk) hl
    have hinsert : (insertByLevel Landing.level l.setAside a.suspended).Perm (l.setAside :: a.suspended) := insertByLevel_perm _
    simp only [AdmissionUnit.tallies, List.map_append]
    exact ((hinsert.map Landing.tally).append_left _).trans (List.perm_middle.trans ((hperm.map Landing.tally).append_right _))
  table m hm := h.table m (List.mem_filter.mp hm).1
  aside m hm := by
    rcases mem_insertByLevel.mp hm with rfl | hm
    · exact ⟨rfl, rfl, (h.table l hl).unsettled hp⟩
    · exact h.aside m hm
  lengths := h.lengths
  room := by
    have hless := ((List.filter_sublist (p := fun m : Landing => decide (m.offer.key ≠ l.offer.key))
      (l := a.landings)).map Landing.reserved).sum_le_sum fun _ _ => Nat.zero_le _
    have hroom := h.room
    simp only [AdmissionUnit.reserved] at hroom ⊢
    omega

/-- R94, R98: one landing changes, at its place in the table. -/
theorem AdmissionUnit.pooled.updLanding (h : a.pooled ws) {l : Landing} (hl : l ∈ a.landings) {f : Landing → Landing}
    {vs : List WriteEntry} (hbooked : (a.updLanding l.offer.key f).booked vs) (htable : (f l).tableOk)
    (hroom : vs.length + a.reserved + (f l).reserved ≤ Config.poolBuffers + l.reserved) :
    (a.updLanding l.offer.key f).pooled vs where
  booked := hbooked
  table m hm := by
    rcases AdmissionUnit.mem_updLanding h.keysOk hl hm with rfl | hm
    · exact htable
    · exact h.table m hm
  aside := h.aside
  lengths := h.lengths
  room := by
    have hsum := AdmissionUnit.reserved_updLanding h.keysOk hl f
    omega

theorem AdmissionUnit.pooled.raise (h : a.pooled ws) {l : Landing} (hl : l ∈ a.landings) (hp : l.phase = .active)
    (hlt : l.limit < l.blocks) (hroom : ws.length + a.reserved < Config.poolBuffers) :
    (a.updLanding l.offer.key Landing.raised).pooled ws := by
  obtain ⟨hle, -, hphase⟩ := h.table l hl
  refine h.updLanding hl ?_ ⟨Nat.le_succ_of_le hle, hlt, hphase⟩ ?_
  · rw [AdmissionUnit.updLanding_eq_updRecord h.keysOk hl]
    refine h.booked.change (f := id) (k := l.offer.key) (fun _ => rfl) (AdmissionUnit.keys_updRecord _ fun _ => rfl)
      (AdmissionUnit.tallies_updRecord _ fun _ => rfl) (fun _ _ => rfl) (fun t ht hk => ?_) h.booked.owners
    exact hk ▸ h.booked.counts t ht
  · simp only [Landing.reserved, Landing.raised, hp]
    omega

/-- R94: a block is accepted and its write is queued. -/
theorem AdmissionUnit.pooled.accept (h : a.pooled ws) {l : Landing} (hl : l ∈ a.landings) (hp : l.phase = .active)
    (hlt : l.accepted < l.limit) (t : Nat) {w : WriteEntry} (hw : w.owner = some l.offer.key) :
    (a.updLanding l.offer.key (Landing.accept t)).pooled (ws ++ [w]) := by
  obtain ⟨-, hlimit, -⟩ := h.table l hl
  have hheld : ∀ k, heldFor (ws ++ [w]) k = heldFor ws k + if l.offer.key = k then 1 else 0 := fun k => by
    simp [heldFor, List.countP_cons, hw]
  refine h.updLanding hl ?_ ?_ ?_
  · rw [AdmissionUnit.updLanding_eq_updRecord h.keysOk hl]
    refine h.booked.change (f := fun t => (t.1, t.2.1, t.2.2 + 1)) (k := l.offer.key) (fun _ => rfl)
      (AdmissionUnit.keys_updRecord _ fun _ => rfl) (AdmissionUnit.tallies_updRecord _ fun _ => rfl) (fun k hk => ?_)
      (fun u hu hk => ?_) (fun v hv k hk => ?_)
    · rw [hheld, if_neg (Ne.symm hk), Nat.add_zero]
    · have hcounts := h.booked.counts u hu
      rw [hheld, if_pos rfl, ← hk]
      dsimp only
      omega
    · rcases List.mem_append.mp hv with hv | hv
      · exact h.booked.owners v hv k hk
      · obtain rfl := List.mem_singleton.mp hv
        exact ⟨l.tally, AdmissionUnit.mem_tallies (List.mem_append_left _ hl), Option.some.inj (hw.symm.trans hk)⟩
  · refine ⟨hlt, hlimit, ?_⟩
    by_cases hfull : l.accepted + 1 = l.blocks
    · exact .inr ⟨if_pos hfull, hfull⟩
    · exact .inl ⟨(if_neg hfull).trans hp, show l.accepted + 1 < l.blocks by omega⟩
  · have hroom := h.room
    have hnew : (l.accept t).reserved ≤ l.limit - (l.accepted + 1) := by
      simp only [Landing.reserved, Landing.accept]
      split
      next => exact le_rfl
      next => exact Nat.zero_le _
      next => exact Nat.zero_le _
    have hold : l.reserved = l.limit - l.accepted := by simp only [Landing.reserved, hp]
    simp only [List.length_append, List.length_singleton]
    omega

/-- R139: the write of a removed record completes. -/
theorem AdmissionUnit.pooled.pop {w : WriteEntry} (h : a.pooled (w :: ws)) (hw : w.owner = none) : a.pooled ws where
  booked := by
    refine ⟨h.keysOk, fun t ht => ?_, fun v hv k hk => h.booked.owners v (List.mem_cons_of_mem _ hv) k hk⟩
    have hcounts := h.booked.counts t ht
    rwa [heldFor, List.countP_cons_of_neg (by simp [hw])] at hcounts
  table := h.table
  aside := h.aside
  lengths := h.lengths
  room := (Nat.add_le_add_right (Nat.le_succ _) _).trans h.room

/-- R97 step 1: a write completes for its record. -/
theorem AdmissionUnit.pooled.store {w : WriteEntry} (h : a.pooled (w :: ws)) {k : Key} (hw : w.owner = some k) :
    (a.updRecord k Landing.stored).pooled ws where
  booked := by
    refine h.booked.change (f := fun t => (t.1, t.2.1 + 1, t.2.2)) (k := k) (fun _ => rfl)
      (AdmissionUnit.keys_updRecord _ fun _ => rfl) (AdmissionUnit.tallies_updRecord _ fun _ => rfl) (fun k' hk' => ?_)
      (fun t ht hk => ?_) (fun v hv k' hk' => h.booked.owners v (List.mem_cons_of_mem _ hv) k' hk')
    · rw [heldFor, heldFor, List.countP_cons_of_neg (by simpa [hw] using Ne.symm hk')]
    · have hcounts := h.booked.counts t ht
      rw [heldFor, List.countP_cons_of_pos (by simp [hw, hk]), hk] at hcounts
      simp only [heldFor]
      omega
  table l hl := by
    obtain ⟨m, hm, rfl⟩ := List.mem_map.mp hl
    split
    next => exact h.table m hm
    next => exact h.table m hm
  aside l hl := by
    obtain ⟨m, hm, rfl⟩ := List.mem_map.mp hl
    split
    next => exact h.aside m hm
    next => exact h.aside m hm
  lengths := h.lengths
  room := by
    have hsame : (a.updRecord k Landing.stored).reserved = a.reserved := by
      simp only [AdmissionUnit.reserved, AdmissionUnit.updRecord, List.map_map]
      refine congrArg List.sum (List.map_congr_left fun l _ => ?_)
      simp only [Function.comp_apply]
      split
      next => rfl
      next => rfl
    have hroom := h.room
    rw [List.length_cons] at hroom
    omega

end

end Sys2Proof.Machine

/-! Every record fits its window and the landing credit (R74, R93, R136), and the search for a key (R69). -/

namespace Sys2Proof.Machine

/-! ### Windows and credit -/

/-- The offers of the landing table, of the suspended list and of the pending list. -/
def AdmissionUnit.placed (a : AdmissionUnit) : List Offer :=
  a.landings.map (·.offer) ++ a.suspended.map (·.offer) ++ a.waiting.map (·.offer)

theorem AdmissionUnit.mem_placed {a : AdmissionUnit} {o : Offer} :
    o ∈ a.placed ↔ (∃ l ∈ a.landings ++ a.suspended, l.offer = o) ∨ ∃ e ∈ a.waiting, e.offer = o := by
  simp [AdmissionUnit.placed, or_and_right, exists_or, or_assoc]

theorem Device.judge_congr {d e : Device} (h : e.config = d.config) (o : Offer) : e.judge o = d.judge o := by
  simp only [Device.judge, h]

/-- R74, R93, R136 under the configuration record of a block. -/
structure AdmissionUnit.fits (a : AdmissionUnit) (d : Device) : Prop where
  single : ∀ w : WindowNo, d.config.windows[w].mode = .exclusive →
    a.landings.countP (fun l => decide (l.offer.fields.window = w)) ≤ 1
  credited : ∀ l ∈ a.landings, l.reserved ≤ d.config.credit
  judged : ∀ o ∈ a.placed, d.judge o = none

section
variable {a b : AdmissionUnit} {d e : Device}

theorem AdmissionUnit.fits.congr (h : a.fits d) (hconfig : e.config = d.config) : a.fits e where
  single w hw := h.single w (hconfig ▸ hw)
  credited l hl := hconfig ▸ h.credited l hl
  judged o ho := (Device.judge_congr hconfig o).trans (h.judged o ho)

/-- Landings go, and no new offer comes. -/
theorem AdmissionUnit.fits.shrink (h : a.fits d) (hl : b.landings.Sublist a.landings) (ho : ∀ o ∈ b.placed, o ∈ a.placed) :
    b.fits d where
  single w hw := (hl.countP_le).trans (h.single w hw)
  credited l hm := h.credited l (hl.subset hm)
  judged o hm := h.judged o (ho o hm)

/-- R74, R75, R81: a landing enters a window that is free for it. -/
theorem AdmissionUnit.fits.enter (h : a.fits d) {l : Landing} (hl : b.landings = a.landings ++ [l])
    (hfree : d.config.windows[l.offer.fields.window].mode = .exclusive →
      ∀ m ∈ a.landings, m.offer.fields.window ≠ l.offer.fields.window)
    (hcredit : l.reserved ≤ d.config.credit) (ho : ∀ o ∈ b.placed, o ∈ a.placed ∨ d.judge o = none) : b.fits d where
  single w hw := by
    rw [hl, List.countP_append, List.countP_singleton]
    split
    next hwin =>
      obtain rfl := of_decide_eq_true hwin
      have hnone : a.landings.countP (fun m => decide (m.offer.fields.window = l.offer.fields.window)) = 0 :=
        List.countP_eq_zero.mpr fun m hm => by simpa using hfree hw m hm
      rw [hnone]
    next => exact h.single w hw
  credited m hm := by
    rw [hl] at hm
    rcases List.mem_append.mp hm with hm | hm
    · exact h.credited m hm
    · exact List.mem_singleton.mp hm ▸ hcredit
  judged o hm := (ho o hm).elim (h.judged o) id

theorem AdmissionUnit.placed_updRecord (k : Key) {f : Landing → Landing} (hf : ∀ l, (f l).offer = l.offer) :
    (a.updRecord k f).placed = a.placed := by
  have hsame : ∀ ls : List Landing, (ls.map fun l => if l.offer.key = k then f l else l).map (·.offer) = ls.map (·.offer) := by
    intro ls
    rw [List.map_map]
    refine List.map_congr_left fun l _ => ?_
    simp only [Function.comp_apply]
    split
    next => exact hf l
    next => rfl
  simp only [AdmissionUnit.placed, AdmissionUnit.updRecord, hsame]

/-- R94, R97, R98: a record changes and keeps its offer. -/
theorem AdmissionUnit.fits.updRecord (h : a.fits d) (k : Key) {f : Landing → Landing} (hf : ∀ l, (f l).offer = l.offer)
    (hcredit : ∀ l ∈ a.landings, l.offer.key = k → (f l).reserved ≤ d.config.credit) : (a.updRecord k f).fits d where
  single w hw := by
    have hsame : (a.updRecord k f).landings.countP (fun l => decide (l.offer.fields.window = w)) =
        a.landings.countP fun l => decide (l.offer.fields.window = w) := by
      simp only [AdmissionUnit.updRecord, List.countP_map]
      refine List.countP_congr fun l _ => ?_
      simp only [Function.comp_apply]
      split
      next => rw [hf]
      next => rfl
    exact hsame ▸ h.single w hw
  credited l hl := by
    obtain ⟨m, hm, rfl⟩ := List.mem_map.mp hl
    split
    next hk => exact hcredit m hm hk
    next => exact h.credited m hm
  judged := (AdmissionUnit.placed_updRecord k hf (a := a)) ▸ h.judged

end

/-! ### What the search finds (R69) -/

section
variable {a : AdmissionUnit} {k : Key}

theorem AdmissionUnit.mem_keys :
    k ∈ a.keys ↔ (∃ l ∈ a.landings ++ a.suspended, l.offer.key = k) ∨ (∃ e ∈ a.waiting, e.offer.key = k) ∨
      ∃ r ∈ a.recent, r.key = k := by
  simp [AdmissionUnit.keys, or_and_right, exists_or, or_assoc]

theorem AdmissionUnit.not_mem_keys : k ∉ a.keys ↔ a.lacks k ∧ ∀ r ∈ a.recent, r.key ≠ k := by
  rw [AdmissionUnit.mem_keys]
  simp only [not_or, not_exists, not_and, AdmissionUnit.lacks, and_assoc]

theorem find?_key_none {α : Type} {key : α → Key} {xs : List α} (h : (xs.find? fun b => decide (key b = k)) = none) :
    ∀ x ∈ xs, key x ≠ k := fun x hx heq => by
  simpa [heq] using List.find?_eq_none.mp h x hx

theorem find?_key_some {α : Type} {key : α → Key} {xs : List α} {x : α}
    (h : (xs.find? fun b => decide (key b = k)) = some x) : x ∈ xs ∧ key x = k :=
  ⟨List.mem_of_find?_eq_some h, of_decide_eq_true (List.find?_some (p := fun b => decide (key b = k)) h)⟩

/-- What each answer of the search says. -/
theorem AdmissionUnit.find_spec (a : AdmissionUnit) (k : Key) :
    match a.find k with
    | .landing l => l ∈ a.landings ++ a.suspended ∧ l.offer.key = k
    | .pending e => e ∈ a.waiting ∧ e.offer.key = k
    | .recent _ => a.lacks k
    | .nothing => k ∉ a.keys := by
  rcases hrecord : (a.landings ++ a.suspended).find? fun l => decide (l.offer.key = k) with _ | l
  · have hrecords := find?_key_none (key := fun l : Landing => l.offer.key) hrecord
    rcases hentry : a.waiting.find? fun e => decide (e.offer.key = k) with _ | e
    · have hwaiting := find?_key_none (key := fun e : PendingEntry => e.offer.key) hentry
      rcases hrecent : a.recent.find? fun r => decide (r.key = k) with _ | r
      · simp only [AdmissionUnit.find, hrecord, hentry, hrecent]
        exact AdmissionUnit.not_mem_keys.mpr ⟨⟨hrecords, hwaiting⟩, find?_key_none (key := RecentEntry.key) hrecent⟩
      · simp only [AdmissionUnit.find, hrecord, hentry, hrecent]
        exact ⟨hrecords, hwaiting⟩
    · simp only [AdmissionUnit.find, hrecord, hentry]
      exact find?_key_some (key := fun e : PendingEntry => e.offer.key) hentry
  · simp only [AdmissionUnit.find, hrecord]
    exact find?_key_some (key := fun l : Landing => l.offer.key) hrecord

theorem AdmissionUnit.find_landing {l : Landing} (h : a.find k = .landing l) :
    l ∈ a.landings ++ a.suspended ∧ l.offer.key = k := by simpa only [h] using a.find_spec k

theorem AdmissionUnit.find_pending {e : PendingEntry} (h : a.find k = .pending e) : e ∈ a.waiting ∧ e.offer.key = k := by
  simpa only [h] using a.find_spec k

theorem AdmissionUnit.find_lacks {r : RecentEntry} (h : a.find k = .recent r) : a.lacks k := by
  simpa only [h] using a.find_spec k

theorem AdmissionUnit.find_fresh (h : a.find k = .nothing) : k ∉ a.keys := by simpa only [h] using a.find_spec k

theorem AdmissionUnit.landing_spec {l : Landing} (h : a.landing k = some l) : l ∈ a.landings ∧ l.offer.key = k :=
  find?_key_some (key := fun l : Landing => l.offer.key) h

/-! ### A key that has been dropped is free -/

theorem AdmissionUnit.dropRecord_fresh (h : a.keysOk) {l : Landing} (hl : l ∈ a.landings ++ a.suspended) :
    l.offer.key ∉ (a.dropRecord l.offer.key).keys := by
  obtain ⟨-, -, -, hwaiting, hrecent⟩ := a.keysOk_parts h
  refine AdmissionUnit.not_mem_keys.mpr ⟨⟨fun m hm => ?_, fun e he => (hwaiting e he l hl).symm⟩, fun r hr => ?_⟩
  · rcases List.mem_append.mp hm with hm | hm
    · exact of_decide_eq_true (List.mem_filter.mp hm).2
    · exact of_decide_eq_true (List.mem_filter.mp hm).2
  · exact ((hrecent r hr).1 l hl).symm

theorem AdmissionUnit.dropWaiting_fresh (h : a.keysOk) {e : PendingEntry} (he : e ∈ a.waiting) :
    e.offer.key ∉ (a.dropWaiting e.offer.key).keys := by
  obtain ⟨-, -, -, hwaiting, hrecent⟩ := a.keysOk_parts h
  refine AdmissionUnit.not_mem_keys.mpr ⟨⟨hwaiting e he, fun m hm => ?_⟩, fun r hr => ?_⟩
  · exact of_decide_eq_true (List.mem_filter.mp hm).2
  · exact ((hrecent r hr).2 e he).symm

theorem AdmissionUnit.dropRecent_fresh (h : a.lacks k) : k ∉ (a.dropRecent k).keys :=
  AdmissionUnit.not_mem_keys.mpr ⟨h, fun _ hr => of_decide_eq_true (List.mem_filter.mp hr).2⟩

end

end Sys2Proof.Machine

/-! What the Admission Unit does keeps the receive pool in order and every record in its window (R67 to R83, R92 to R102,
R113 to R128). -/

namespace Sys2Proof.Machine

/-- The receive pool is in order, and the records fit the configuration record. -/
structure Device.inPlace (d : Device) : Prop where
  pool : d.admission.pooled d.port.writes
  fits : d.admission.fits d

section
variable {d e : Device}

theorem Device.inPlace.of_parts {a : AdmissionUnit} {ws : List WriteEntry} (hpool : a.pooled ws) (hfits : a.fits d)
    (ha : e.admission = a) (hw : e.port.writes = ws) (hc : e.config = d.config) : e.inPlace := by
  subst ha hw
  exact ⟨hpool, hfits.congr hc⟩

theorem Device.inPlace.of_keeps (h : d.inPlace) (ha : e.admission = d.admission) (hw : e.port.writes = d.port.writes)
    (hc : e.config = d.config) : e.inPlace := .of_parts h.pool h.fits ha hw hc

theorem Device.inPlace.post (h : d.inPlace) (n : Notice) : (d.post n).inPlace := h.of_keeps (by simp) (by simp) (by simp)

theorem Device.inPlace.reply (h : d.inPlace) (k : Key) (g : Generation) (r : ReplyKind) : (d.claimReply k g r).inPlace :=
  h.of_keeps (by simp) (by simp) (by simp)

theorem Device.inPlace.receipt (h : d.inPlace) (l : Landing) (final : Bool) : (d.claimReceipt l final).inPlace :=
  h.of_keeps (by simp) (by simp) (by simp)

theorem Device.free_room {r : Nat} (h : d.inPlace) (hr : r ≤ d.free) :
    d.port.writes.length + d.admission.reserved + r ≤ Config.poolBuffers := by
  have hroom := h.pool.room
  simp only [Device.free, Device.holding] at hr
  omega

theorem Device.not_occupied {w : WindowNo} (h : d.occupied w = false) (hw : d.config.windows[w].mode = .exclusive) :
    ∀ m ∈ d.admission.landings, m.offer.fields.window ≠ w := fun m hm heq =>
  absurd (Device.occupied_iff.mpr ⟨hw, m, hm, heq⟩) (by simp [h])

/-! ### Entries go -/

theorem Device.inPlace.fewer (h : d.inPlace) {waiting : List PendingEntry} {recent : List RecentEntry}
    (hw : waiting.Sublist d.admission.waiting) (hr : recent.Sublist d.admission.recent) :
    (d.updAdmission fun a => { a with waiting := waiting, recent := recent }).inPlace :=
  .of_parts (h.pool.fewer hw hr)
    (h.fits.shrink (.refl _) fun _ ho => List.Sublist.subset ((List.Sublist.refl _).append (hw.map _)) ho) rfl rfl rfl

theorem Device.inPlace.dropWaiting (h : d.inPlace) (k : Key) : (d.updAdmission (·.dropWaiting k)).inPlace :=
  h.fewer List.filter_sublist (.refl _)

theorem Device.inPlace.dropRecent (h : d.inPlace) (k : Key) : (d.updAdmission (·.dropRecent k)).inPlace :=
  h.fewer (.refl _) List.filter_sublist

theorem AdmissionUnit.fits.dropRecord (h : d.admission.fits d) (k : Key) : (d.admission.dropRecord k).fits d :=
  h.shrink List.filter_sublist fun _ ho =>
    List.Sublist.subset (((List.filter_sublist.map _).append (List.filter_sublist.map _)).append (.refl _)) ho

theorem Device.inPlace.removeRecord (h : d.inPlace) (k : Key) : (d.removeRecord k).inPlace :=
  .of_parts (h.pool.remove k) (h.fits.dropRecord k) rfl rfl rfl

/-! ### Landings and entries come -/

theorem Device.inPlace.admitOffer (h : d.inPlace) {o : Offer} (hfresh : o.key ∉ d.admission.keys)
    (hlen : 1 ≤ o.fields.length) (hjudge : d.judge o = none) (hfree : d.occupied o.fields.window = false) :
    (d.admitOffer o).inPlace := by
  obtain ⟨r, hr⟩ : ∃ r, min (min d.config.credit (blockCount o.fields.length)) d.free = r := ⟨_, rfl⟩
  have hcredit : r ≤ d.config.credit := by omega
  refine .of_parts (h.pool.entered hfresh hlen (r := r) (by omega) (Device.free_room h (by omega)) (some d.config.tLand))
    (h.fits.enter rfl (Device.not_occupied hfree) (by simpa [Landing.reserved] using hcredit) fun o' ho => ?_)
    (by simp [Device.admitOffer, hr]) (by simp [Device.admitOffer]) (by simp [Device.admitOffer])
  rw [AdmissionUnit.mem_placed] at ho ⊢
  rcases ho with ⟨l, hl, rfl⟩ | ho
  · simp only [List.append_assoc, List.mem_append, List.mem_singleton] at hl
    rcases hl with hl | rfl | hl
    · exact .inl (.inl ⟨l, List.mem_append_left _ hl, rfl⟩)
    · exact .inr hjudge
    · exact .inl (.inl ⟨l, List.mem_append_right _ hl, rfl⟩)
  · exact .inl (.inr ho)

theorem Device.inPlace.resumeLanding (h : d.inPlace) {l : Landing} (hl : l ∈ d.admission.suspended)
    (hfree : d.occupied l.offer.fields.window = false) : (d.resumeLanding l).inPlace := by
  obtain ⟨r, hr⟩ : ∃ r, min (min d.config.credit (l.blocks - l.accepted)) d.free = r := ⟨_, rfl⟩
  have hcredit : r ≤ d.config.credit := by omega
  have hmem : l.offer ∈ d.admission.placed := AdmissionUnit.mem_placed.mpr (.inl ⟨l, List.mem_append_right _ hl, rfl⟩)
  refine .of_parts (h.pool.resume hl (r := r) (by omega) (Device.free_room h (by omega)) (some d.config.tLand))
    (h.fits.enter rfl (Device.not_occupied hfree) (by simpa [Landing.reserved, Landing.resumed] using hcredit)
      fun o ho => .inl ?_)
    (by simp [Device.resumeLanding, hr, Landing.resumed]) (by simp [Device.resumeLanding]) (by simp [Device.resumeLanding])
  rw [AdmissionUnit.mem_placed] at ho
  rcases ho with ⟨m, hm, rfl⟩ | ho
  · simp only [List.append_assoc, List.mem_append, List.mem_singleton] at hm
    rcases hm with hm | rfl | hm
    · exact AdmissionUnit.mem_placed.mpr (.inl ⟨m, List.mem_append_left _ hm, rfl⟩)
    · exact hmem
    · exact AdmissionUnit.mem_placed.mpr (.inl ⟨m, List.mem_append_right _ (List.mem_filter.mp hm).1, rfl⟩)
  · exact AdmissionUnit.mem_placed.mpr (.inr ho)

/-- R98: an ACTIVE landing that takes a buffer. -/
theorem Device.inPlace.raise (h : d.inPlace) {l : Landing} (hl : l ∈ d.admission.landings)
    (htaker : l.isTaker d.config.credit = true) (hfree : 0 < d.free) :
    (d.updAdmission (·.updLanding l.offer.key Landing.raised)).inPlace := by
  simp only [Landing.isTaker, Bool.and_eq_true, decide_eq_true_eq, and_assoc] at htaker
  obtain ⟨hp, hlt, hcredit⟩ := htaker
  have hfits : (d.admission.updLanding l.offer.key Landing.raised).fits d := by
    rw [AdmissionUnit.updLanding_eq_updRecord h.pool.keysOk hl]
    refine h.fits.updRecord _ (f := Landing.raised) (fun _ => rfl) fun m hm hk => ?_
    rw [AdmissionUnit.keysOk_unique h.pool.keysOk hl hm hk]
    simp only [Landing.reserved, Landing.raised, hp]
    omega
  exact .of_parts (h.pool.raise hl hp hlt (Device.free_room h hfree)) hfits rfl rfl rfl

theorem Device.bestTaker_taker {l : Landing} (h : d.bestTaker = some l) :
    l ∈ d.admission.landings ∧ l.isTaker d.config.credit = true := by
  obtain ⟨htaker, hmem, -⟩ := firstMin_filter_spec h
  exact ⟨hmem, htaker⟩

/-- R80, R98: what a run and a sweep choose keeps everything in place. -/
theorem inPlaceRule : RunRule Device.inPlace where
  takes {d c} hq h := by
    cases c with
    | resume l =>
      obtain ⟨hmem, hcan⟩ := hq
      exact h.resumeLanding hmem (Device.canAdmit_iff.mp hcan).2.1
    | enter e =>
      obtain ⟨hmem, hcan⟩ := hq
      have hjudge := h.fits.judged e.offer (AdmissionUnit.mem_placed.mpr (.inr ⟨e, hmem, rfl⟩))
      exact (h.dropWaiting e.offer.key).admitOffer (AdmissionUnit.dropWaiting_fresh h.pool.keysOk hmem)
        (h.pool.lengths e hmem) hjudge (Device.canAdmit_iff.mp hcan).2.1
  raises {d l} hfree hl h := by
    obtain ⟨hmem, htaker⟩ := Device.bestTaker_taker hl
    exact (h.raise hmem htaker hfree).receipt _ false

/-! ### An OFFER -/

theorem Device.suspend_admission (l : Landing) :
    (d.suspend l).admission =
      { d.admission with landings := d.admission.landings.filter fun m => decide (m.offer.key ≠ l.offer.key),
                         suspended := insertByLevel Landing.level l.setAside d.admission.suspended } := by
  simp [Device.suspend, Landing.setAside]

theorem Device.inPlace.suspend (h : d.inPlace) {l : Landing} (hl : l ∈ d.admission.landings) (hp : l.phase = .active) :
    (d.suspend l).inPlace := by
  refine .of_parts (h.pool.suspend hl hp) (h.fits.shrink List.filter_sublist fun o ho => ?_) (Device.suspend_admission l)
    (by simp) (by simp)
  rw [AdmissionUnit.mem_placed] at ho ⊢
  refine ho.imp_left fun ⟨m, hm, hoffer⟩ => ?_
  rcases List.mem_append.mp hm with hm | hm
  · exact ⟨m, List.mem_append_left _ (List.mem_filter.mp hm).1, hoffer⟩
  · rcases mem_insertByLevel.mp hm with rfl | hm
    · exact ⟨l, List.mem_append_left _ hl, hoffer⟩
    · exact ⟨m, List.mem_append_right _ hm, hoffer⟩

theorem Device.suspend_fresh {l : Landing} (hl : l ∈ d.admission.landings) {k : Key} (h : k ∉ d.admission.keys) :
    k ∉ (d.suspend l).admission.keys := by
  rw [Device.suspend_admission]
  intro hk
  rw [AdmissionUnit.mem_keys] at h hk
  refine h (hk.imp_left fun ⟨m, hm, hkey⟩ => ?_)
  rcases List.mem_append.mp hm with hm | hm
  · exact ⟨m, List.mem_append_left _ (List.mem_filter.mp hm).1, hkey⟩
  · rcases mem_insertByLevel.mp hm with rfl | hm
    · exact ⟨l, List.mem_append_left _ hl, hkey⟩
    · exact ⟨m, List.mem_append_right _ hm, hkey⟩

theorem Device.inPlace.placeWaiting (h : d.inPlace) {o : Offer} (hfresh : o.key ∉ d.admission.keys)
    (hlen : 1 ≤ o.fields.length) (hjudge : d.judge o = none) : (d.placeWaiting o).inPlace := by
  refine .of_parts (h.pool.wait (e := { offer := o, lifetime := some d.config.tQueue }) hfresh hlen)
    ⟨h.fits.single, h.fits.credited, fun o' ho => ?_⟩ (by simp [Device.placeWaiting]) (by simp) (by simp)
  rw [AdmissionUnit.mem_placed] at ho
  rcases ho with ho | ⟨e, he, rfl⟩
  · exact h.fits.judged o' (AdmissionUnit.mem_placed.mpr (.inl ho))
  · rcases mem_insertByLevel.mp he with rfl | he
    · exact hjudge
    · exact h.fits.judged e.offer (AdmissionUnit.mem_placed.mpr (.inr ⟨e, he, rfl⟩))

theorem Device.inPlace.evict (h : d.inPlace) (t : PendingEntry) : (d.evict t).inPlace :=
  ((h.fewer (List.dropLast_sublist _) (.refl _)).reply _ _ _).post _

theorem Device.evict_fresh (t : PendingEntry) {k : Key} (h : k ∉ d.admission.keys) : k ∉ (d.evict t).admission.keys := by
  rw [Device.evict_admission]
  intro hk
  rw [AdmissionUnit.mem_keys] at h hk
  exact h (hk.imp_right (Or.imp_left fun ⟨e, he, hkey⟩ => ⟨e, (List.dropLast_sublist _).subset he, hkey⟩))

theorem Device.inPlace.queueOffer (h : d.inPlace) {o : Offer} (hfresh : o.key ∉ d.admission.keys)
    (hlen : 1 ≤ o.fields.length) (hjudge : d.judge o = none) : (d.queueOffer o).inPlace := by
  unfold Device.queueOffer
  split
  next => exact h.placeWaiting hfresh hlen hjudge
  next =>
    split
    next t _ =>
      split
      next =>
        exact (h.evict t).placeWaiting (Device.evict_fresh t hfresh) hlen ((Device.judge_congr (by simp) o).trans hjudge)
      next => exact h.reply _ _ _
    next => exact h.placeWaiting hfresh hlen hjudge

theorem Device.inPlace.admitOrQueue (h : d.inPlace) {o : Offer} (hfresh : o.key ∉ d.admission.keys)
    (hlen : 1 ≤ o.fields.length) (hjudge : d.judge o = none) : (d.admitOrQueue o).inPlace := by
  unfold Device.admitOrQueue
  split
  next hcan => exact h.admitOffer hfresh hlen hjudge (Device.canAdmit_iff.mp hcan).2.1
  next => exact h.queueOffer hfresh hlen hjudge

theorem Device.namedVictim_mem {o : Offer} {l : Landing} (h : d.namedVictim o = some l) : l ∈ d.admission.landings := by
  unfold Device.namedVictim at h
  split at h
  next => exact List.mem_of_find?_eq_some h
  next =>
    obtain ⟨-, before, after, hsplit, -⟩ := lastMax_filter_eq_some.mp h
    exact hsplit ▸ List.mem_append_right _ List.mem_cons_self

theorem Device.inPlace.judgeAndPlace (h : d.inPlace) {o : Offer} (hfresh : o.key ∉ d.admission.keys)
    (hlen : 1 ≤ o.fields.length) : (d.judgeAndPlace o).1.inPlace := by
  unfold Device.judgeAndPlace
  split
  next => exact h.reply _ _ _
  next hjudge =>
    split
    next l hl =>
      obtain ⟨hnamed, hmay, -⟩ := Device.victim_maySuspend hl
      obtain ⟨⟨hp, -⟩, -⟩ := Device.maySuspend_iff.mp hmay
      have hmem := Device.namedVictim_mem hnamed
      exact (h.suspend hmem hp).admitOrQueue (Device.suspend_fresh hmem hfresh) hlen
        ((Device.judge_congr (by simp) o).trans hjudge)
    next => exact h.admitOrQueue hfresh hlen hjudge

theorem Device.inPlace.handleOffer (h : d.inPlace) {o : Offer} (hlen : 1 ≤ o.fields.length) : (d.handleOffer o).inPlace := by
  unfold Device.handleOffer
  split
  next l hfind =>
    split
    next => exact h.reply _ _ _
    next =>
      obtain ⟨hmem, hkey⟩ := AdmissionUnit.find_landing hfind
      have hfresh : o.key ∉ (d.supersedeRecord l).admission.keys := hkey ▸ AdmissionUnit.dropRecord_fresh h.pool.keysOk hmem
      exact inPlaceRule.runIf _ (((h.removeRecord l.offer.key).post _).judgeAndPlace hfresh hlen)
  next e hfind =>
    split
    next => exact h.reply _ _ _
    next =>
      obtain ⟨hmem, hkey⟩ := AdmissionUnit.find_pending hfind
      have hfresh : o.key ∉ (d.supersedeWaiting e).admission.keys := hkey ▸ AdmissionUnit.dropWaiting_fresh h.pool.keysOk hmem
      exact inPlaceRule.runIf _ (((h.dropWaiting e.offer.key).post _).judgeAndPlace hfresh hlen)
  next hfind =>
    exact inPlaceRule.runIf _
      ((h.dropRecent o.key).judgeAndPlace (AdmissionUnit.dropRecent_fresh (AdmissionUnit.find_lacks hfind)) hlen)
  next hfind => exact inPlaceRule.runIf _ (h.judgeAndPlace (AdmissionUnit.find_fresh hfind) hlen)

end

end Sys2Proof.Machine

/-! What the Channel Unit and Station Control do leaves the write queue as it is (R139). -/

namespace Sys2Proof.Machine

section
variable (d : Device)

@[simp] theorem Device.emptyBuffers_writes (c : ChannelNo) (keep : FetchBuffer → Bool) :
    (d.emptyBuffers c keep).port.writes = d.port.writes := by rw [Device.emptyBuffers_eq]; rfl

@[simp] theorem Device.requestReads_writes (c : ChannelNo) : (d.requestReads c).port.writes = d.port.writes := by
  obtain ⟨-, -, hwrites⟩ := d.requestReads_asks c
  exact hwrites

@[simp] theorem Device.beginTransfer_writes (c : ChannelNo) : (d.beginTransfer c).port.writes = d.port.writes := by
  unfold Device.beginTransfer
  split
  next => rfl
  next => simp

theorem Device.tryStart_writes {c : ChannelNo} {e : Device} (h : d.tryStart c = some e) : e.port.writes = d.port.writes := by
  unfold Device.tryStart at h
  split at h
  · split at h
    · cases h
    · obtain rfl := Option.some.inj h
      simp
    all_goals
      obtain rfl := Option.some.inj h
      rfl
  · split at h
    · cases h
    all_goals
      obtain rfl := Option.some.inj h
      rfl
  all_goals cases h

@[simp] theorem Device.startOrMiss_writes (c : ChannelNo) (m : MissedCause) :
    (d.startOrMiss c m).port.writes = d.port.writes := by
  unfold Device.startOrMiss
  split
  next h => exact d.tryStart_writes h
  next => rfl

@[simp] theorem Device.applySignal_writes (x : Station) (cause : SignalCause) (n : EventNo) (a : BitVec 16) :
    (d.applySignal x cause n a).port.writes = d.port.writes := by
  unfold Device.applySignal
  dsimp only
  split
  next => split <;> simp
  next => split <;> simp

@[simp] theorem Device.closeTransfer_writes (c : ChannelNo) (a : Descriptor) (o : TransferOutcome) :
    (d.closeTransfer c a o).port.writes = d.port.writes := by
  unfold Device.closeTransfer Device.stopMachinery
  dsimp only
  split
  next => simp
  next => simp

@[simp] theorem Device.afterPromotion_writes (c : ChannelNo) (o : TransferOutcome) (chain : Bool) :
    (d.afterPromotion c o chain).port.writes = d.port.writes := by
  unfold Device.afterPromotion
  (repeat' split) <;> simp

@[simp] theorem Device.endTransfer_writes (c : ChannelNo) (o : TransferOutcome) (r : Option RefuseReason) :
    (d.endTransfer c o r).port.writes = d.port.writes := by
  unfold Device.endTransfer
  split
  next => rfl
  next a _ =>
    have hdone : ∀ e : Device, (e.applyDone c a o).port.writes = e.port.writes := fun e => by
      unfold Device.applyDone
      split
      next => simp
      next => rfl
    simp [hdone, Device.recordOutcome]

@[simp] theorem Device.lineStarts_writes (line : LineNo) : (d.lineStarts line).port.writes = d.port.writes := by
  unfold Device.lineStarts
  refine foldl_keeps (fun d : Device => d.port.writes) _ (fun e c => ?_) _ _
  split <;> simp

@[simp] theorem Device.releaseLatches_writes : d.releaseLatches.port.writes = d.port.writes := by
  unfold Device.releaseLatches
  refine foldl_keeps (fun d : Device => d.port.writes) _ (fun e c => ?_) _ _
  split <;> simp

@[simp] theorem Device.tearChannels_writes (x : Station) (o : TransferOutcome) :
    (d.tearChannels x o).port.writes = d.port.writes := by
  unfold Device.tearChannels
  refine foldl_keeps (fun d : Device => d.port.writes) _ (fun e c => ?_) _ _
  (repeat' split) <;> simp

@[simp] theorem Device.leaveChannel_writes (c : ChannelNo) : (d.leaveChannel c).port.writes = d.port.writes := by
  unfold Device.leaveChannel
  (repeat' split) <;> simp

@[simp] theorem Device.handleWait_writes (x : Station) (c : ChannelNo) (g : Generation) :
    (d.handleWait x c g).port.writes = d.port.writes := by
  unfold Device.handleWait
  split <;> simp

@[simp] theorem Device.answerStale_writes (x : Station) (c : ChannelNo) (g : Generation) :
    (d.answerStale c x g).port.writes = d.port.writes := by
  unfold Device.answerStale
  split <;> simp

@[simp] theorem Device.handleGrant_writes (x : Station) (c : ChannelNo) (g : Generation) (start limit : Nat) :
    (d.handleGrant x c g start limit).port.writes = d.port.writes := by
  unfold Device.handleGrant
  dsimp only
  (repeat' split) <;> simp [Device.takeGrant]

@[simp] theorem Device.handleRefuse_writes (x : Station) (c : ChannelNo) (g : Generation) (r : RefuseReason) :
    (d.handleRefuse x c g r).port.writes = d.port.writes := by
  unfold Device.handleRefuse
  split <;> simp

@[simp] theorem Device.liftNext_writes (c : ChannelNo) : (d.liftNext c).port.writes = d.port.writes := by
  unfold Device.liftNext
  dsimp only
  split <;> simp

@[simp] theorem Device.handleReceipt_writes (x : Station) (c : ChannelNo) (g : Generation) (accepted limit : Nat)
    (final : Bool) : (d.handleReceipt x c g accepted limit final).port.writes = d.port.writes := by
  unfold Device.handleReceipt Device.takeReceipt
  (repeat' split) <;> simp

@[simp] theorem Device.handlePause_writes (x : Station) (c : ChannelNo) (g : Generation) (block : Nat) :
    (d.handlePause x c g block).port.writes = d.port.writes := by
  unfold Device.handlePause Device.takePause
  (repeat' split) <;> simp

@[simp] theorem Device.handleSignal_writes (x : Station) (n : EventNo) (a : BitVec 16) :
    (d.handleSignal x n a).port.writes = d.port.writes := by
  unfold Device.handleSignal
  split <;> simp

@[simp] theorem Device.resendOffer_writes (c : ChannelNo) : (d.resendOffer c).port.writes = d.port.writes := by
  unfold Device.resendOffer
  (repeat' split) <;> simp

@[simp] theorem Device.goBackOrProbe_writes (c : ChannelNo) : (d.goBackOrProbe c).port.writes = d.port.writes := by
  unfold Device.goBackOrProbe Device.fallBack
  dsimp only
  (repeat' split) <;> simp

@[simp] theorem Device.streamExpiry_writes (c : ChannelNo) : (d.streamExpiry c).port.writes = d.port.writes := by
  unfold Device.streamExpiry
  split <;> simp

@[simp] theorem Device.settle_writes : d.settle.port.writes = d.port.writes := by
  have hdrained : d.reportDrained.port = d.port := by unfold Device.reportDrained; split <;> rfl
  rw [Device.settle_port, MemoryPort.issue_writes]
  rcases d.reportDrained.chooseFrame_cases with ⟨s, heq⟩ | ⟨c, a, data, -, -, -, -, -, -, -, heq⟩
  · rw [heq]
    exact congrArg MemoryPort.writes hdrained
  · have hsent : (d.reportDrained.sentBlock c a data).port.writes = d.reportDrained.port.writes := rfl
    rw [heq, Device.requestReads_writes, hsent, hdrained]

end

end Sys2Proof.Machine

/-! The rest of the Admission Unit's work keeps the pool in order and every record in its window: blocks and their writes
(R94 to R101), removals (R82, R102), leaving and teardown (R26, R33). -/

namespace Sys2Proof.Machine

section
variable {d e : Device}

theorem Device.inPlace.handleWithdraw (h : d.inPlace) (k : Key) (g : Generation) (r : WithdrawReason) :
    (d.handleWithdraw k g r).inPlace := by
  unfold Device.handleWithdraw
  split
  next =>
    split
    next => exact inPlaceRule.runAndSweep ((h.removeRecord k).post _)
    next => exact h
  next =>
    split
    next => exact inPlaceRule.runAndSweep ((h.dropWaiting k).post _)
    next => exact h
  next => exact h
  next => exact h

theorem Device.inPlace.acceptBlock (h : d.inPlace) {l : Landing} (hl : l ∈ d.admission.landings) (hp : l.phase = .active)
    (hlt : l.accepted < l.limit) (payload : List Byte) : (d.acceptBlock l payload).inPlace := by
  have hfits : (d.admission.updLanding l.offer.key (Landing.accept d.config.tLand)).fits d := by
    rw [AdmissionUnit.updLanding_eq_updRecord h.pool.keysOk hl]
    refine h.fits.updRecord _ (f := Landing.accept d.config.tLand) (fun _ => rfl) fun m hm hk => ?_
    rw [AdmissionUnit.keysOk_unique h.pool.keysOk hl hm hk]
    have hcredit := h.fits.credited l hl
    simp only [Landing.reserved, Landing.accept, hp] at hcredit ⊢
    split
    next => omega
    next => exact Nat.zero_le _
    next => exact Nat.zero_le _
  exact .of_parts (h.pool.accept hl hp hlt d.config.tLand rfl) hfits rfl rfl rfl

theorem Device.inPlace.handleBlock (h : d.inPlace) (k : Key) (g : Generation) (n : Nat) (p : List Byte) :
    (d.handleBlock k g n p).inPlace := by
  have hanswer : (d.answerBlock k g).inPlace := h.of_keeps (by simp) (by simp) (by simp)
  unfold Device.handleBlock
  split
  next l hl =>
    split
    next hacc =>
      obtain ⟨⟨hp, -⟩, rfl, hlt, -⟩ := (l.accepts_iff g n p).mp hacc
      exact h.acceptBlock (AdmissionUnit.landing_spec hl).1 hp hlt p
    next => exact hanswer
  next => exact hanswer

theorem Device.inPlace.completeLanding (h : d.inPlace) {l : Landing} (hl : l ∈ d.admission.landings) :
    (d.completeLanding l).inPlace := by
  have hremoved := h.removeRecord l.offer.key
  have hlanded : ((d.removeRecord l.offer.key).updAdmission
      (·.addRecent { key := l.offer.key, generation := l.offer.generation, blocks := l.blocks })).inPlace :=
    .of_parts (hremoved.pool.remember (AdmissionUnit.dropRecord_fresh h.pool.keysOk (List.mem_append_left _ hl)))
      (hremoved.fits.shrink (.refl _) fun _ ho => ho) rfl rfl rfl
  unfold Device.completeLanding
  dsimp only
  split
  next => exact hlanded.of_keeps (by simp) (by simp) (by simp)
  next => exact hlanded.post _

theorem Device.inPlace.placeFreed (h : d.inPlace) (hfree : 0 < d.free) (k : Key) : (d.placeFreed k).inPlace := by
  unfold Device.placeFreed
  split
  next l hl =>
    split
    next htaker =>
      obtain ⟨hmem, rfl⟩ := AdmissionUnit.landing_spec hl
      exact h.raise hmem htaker hfree
    next => exact inPlaceRule.distribute h
  next => exact inPlaceRule.distribute h

theorem Device.inPlace.reportWrite (h : d.inPlace) (k : Key) : (d.reportWrite k).inPlace := by
  unfold Device.reportWrite
  split
  next l hl =>
    have hmem := (AdmissionUnit.landing_spec hl).1
    dsimp only
    split
    next => exact (h.receipt l _).completeLanding (by simpa using hmem)
    next => exact h.receipt l _
  next => exact h

/-- R97 step 1: the block of a completed write is counted, and its buffer is free. -/
theorem Device.inPlace.stored (h : d.inPlace) {w : WriteEntry} {ws : List WriteEntry} (hw : d.port.writes = w :: ws) {k : Key}
    (hk : w.owner = some k) :
    (d.popWrite.updAdmission (·.updRecord k Landing.stored)).inPlace ∧
      0 < (d.popWrite.updAdmission (·.updRecord k Landing.stored)).free := by
  have hpool : d.admission.pooled (w :: ws) := hw ▸ h.pool
  have hpopped : (d.popWrite.updAdmission (·.updRecord k Landing.stored)).port.writes = ws := by simp [Device.popWrite, Device.freePort, hw]
  have hfits : (d.admission.updRecord k Landing.stored).fits d :=
    h.fits.updRecord k (fun _ => rfl) fun l hl _ => h.fits.credited l hl
  refine ⟨.of_parts (hpool.store hk) hfits rfl hpopped rfl, ?_⟩
  have hsame : (d.admission.updRecord k Landing.stored).reserved = d.admission.reserved := by
    simp only [AdmissionUnit.reserved, AdmissionUnit.updRecord, List.map_map]
    refine congrArg List.sum (List.map_congr_left fun l _ => ?_)
    simp only [Function.comp_apply]
    split
    next => rfl
    next => rfl
  have hroom := hpool.room
  rw [List.length_cons] at hroom
  simp only [Device.free, Device.holding, hpopped]
  have hreserved : (d.popWrite.updAdmission (·.updRecord k Landing.stored)).admission.reserved = d.admission.reserved := hsame
  omega

/-- R139: the write of a removed record completes, or fails. -/
theorem Device.inPlace.popped (h : d.inPlace) {w : WriteEntry} {ws : List WriteEntry} (hw : d.port.writes = w :: ws)
    (hk : w.owner = none) : d.popWrite.inPlace := by
  have hpool : d.admission.pooled (w :: ws) := hw ▸ h.pool
  exact .of_parts (hpool.pop hk) h.fits rfl (by simp [Device.popWrite, Device.freePort, hw]) rfl

theorem Device.inPlace.writeDone (h : d.inPlace) {w : WriteEntry} {ws : List WriteEntry} (hw : d.port.writes = w :: ws) :
    (d.popWrite.writeDone w.owner).inPlace := by
  rcases hk : w.owner with _ | k
  · exact inPlaceRule.runAndSweep (inPlaceRule.distribute (h.popped hw hk))
  · obtain ⟨hstored, hfree⟩ := h.stored hw hk
    exact inPlaceRule.runAndSweep ((hstored.placeFreed hfree k).reportWrite k)

/-- R101: the record of a failed write. -/
theorem Device.inPlace.find_owner (h : d.inPlace) {w : WriteEntry} {ws : List WriteEntry} (hw : d.port.writes = w :: ws)
    {k : Key} (hk : w.owner = some k) : ∃ l, d.admission.find k = .landing l := by
  obtain ⟨t, ht, rfl⟩ := h.pool.booked.owners w (hw ▸ List.mem_cons_self) k hk
  obtain ⟨l, hl, rfl⟩ := List.mem_map.mp ht
  exact ⟨l, AdmissionUnit.find_record h.pool.keysOk hl⟩

theorem Device.inPlace.writeFailed (h : d.inPlace) {w : WriteEntry} {ws : List WriteEntry} (hw : d.port.writes = w :: ws) :
    (d.popWrite.writeFailed w.owner).inPlace := by
  rcases hk : w.owner with _ | k
  · exact inPlaceRule.runAndSweep (inPlaceRule.distribute (h.popped hw hk))
  · obtain ⟨l, hl⟩ := h.find_owner hw hk
    have hpopped : d.popWrite.admission.find k = .landing l := hl
    have hpool : d.admission.pooled (w :: ws) := hw ▸ h.pool
    have hqueue : (d.port.writes.drop 1).filter (fun v => decide (v.owner ≠ some k)) =
        (w :: ws).filter fun v => decide (v.owner ≠ some k) := by
      rw [hw, List.filter_cons_of_neg (by simp [hk])]
      rfl
    simp only [Device.writeFailed, hpopped]
    refine inPlaceRule.runAndSweep (Device.inPlace.post ?_ _)
    exact .of_parts (hpool.discard k) (h.fits.dropRecord k) (by simp [Device.popWrite, Device.freePort])
      (by simpa [Device.popWrite, Device.freePort] using hqueue) (by simp [Device.popWrite, Device.freePort])

theorem Device.inPlace.landTimeout (h : d.inPlace) (l : Landing) : (d.landTimeout l).inPlace :=
  inPlaceRule.runAndSweep (((h.reply _ _ _).removeRecord _).post _)

theorem Device.inPlace.expireWaiting (h : d.inPlace) (w : PendingEntry) : (d.expireWaiting w).inPlace :=
  ((h.dropWaiting _).reply _ _ _).post _

theorem Device.inPlace.refuseLeaving (h : d.inPlace) (o : Offer) (n : Nat) : (d.refuseLeaving o n).inPlace :=
  (((h.reply _ _ _).removeRecord _).dropWaiting _).post _

theorem Device.inPlace.leaveLandings (h : d.inPlace) : d.leaveLandings.inPlace := by
  have hrefused := foldl_induction (P := Device.inPlace) (fun d (e : PendingEntry) hd => hd.refuseLeaving e.offer 0)
    d.admission.waiting (foldl_induction (P := Device.inPlace) (fun d (l : Landing) hd => hd.refuseLeaving l.offer l.byteCount)
      (d.admission.landings ++ d.admission.suspended) h)
  exact hrefused.fewer (.refl _) (List.nil_sublist _)

theorem Device.inPlace.tearRecord (h : d.inPlace) (ending : Ending) (o : Offer) (n : Nat) : (d.tearRecord ending o n).inPlace :=
  ((h.removeRecord _).dropWaiting _).post _

theorem Device.inPlace.tearLandings (h : d.inPlace) (x : Station) (ending : Ending) : (d.tearLandings x ending).inPlace := by
  have htorn := foldl_induction (P := Device.inPlace) (fun d (e : PendingEntry) hd => hd.tearRecord ending e.offer 0)
    (d.admission.waiting.filter fun e => decide (e.offer.key.source = x))
    (foldl_induction (P := Device.inPlace) (fun d (l : Landing) hd => hd.tearRecord ending l.offer l.byteCount)
      ((d.admission.landings ++ d.admission.suspended).filter fun l => decide (l.offer.key.source = x)) h)
  exact htorn.fewer (.refl _) List.filter_sublist

theorem Device.inPlace.teardown (h : d.inPlace) (x : Station) (o : TransferOutcome) (ending : Ending) :
    (d.teardown x o ending).inPlace := by
  have hchannels : (d.tearChannels x o).inPlace := h.of_keeps (by simp) (by simp) (by simp)
  have htorn := hchannels.tearLandings x ending
  exact inPlaceRule.runIf _ (htorn.of_keeps (by simp) (by simp) (by simp))

theorem Device.inPlace.startLeaving (h : d.inPlace) : d.startLeaving.inPlace := by
  have hleft : (d.endJoining.updControl fun c => { c with state := .leaving }).inPlace :=
    h.of_keeps (by simp) (by simp) (by simp)
  have hchannels := foldl_induction (P := Device.inPlace) (f := Device.leaveChannel)
    (fun d c hd => hd.of_keeps (by simp) (by simp) (by simp)) eight hleft
  unfold Device.startLeaving
  exact hchannels.leaveLandings.of_keeps (by simp) (by simp) (by simp)

theorem Device.inPlace_atReset (ha : d.admission = AdmissionUnit.powerOn) (hw : d.port.writes = []) : d.inPlace := by
  have hpool : AdmissionUnit.powerOn.pooled [] :=
    (Device.poolOk_iff (d := Device.powerOn 0 false)).mp (by decide)
  have hfits : AdmissionUnit.powerOn.fits d :=
    ⟨fun _ _ => Nat.zero_le _, fun _ hl => absurd hl List.not_mem_nil, fun _ ho => absurd ho List.not_mem_nil⟩
  exact .of_parts hpool hfits ha hw rfl

theorem Device.inPlace.resetStation (h : d.inPlace) : d.resetStation.inPlace := by
  unfold Device.resetStation
  split
  next => exact Device.inPlace_atReset rfl rfl
  all_goals exact h.of_keeps (by simp) (by simp) (by simp)

theorem Device.inPlace.handleJoin (h : d.inPlace) (x : Station) : (d.handleJoin x).inPlace := by
  unfold Device.handleJoin
  split
  next => exact h.of_keeps (by simp) (by simp) (by simp)
  next => exact h.of_keeps (by simp) (by simp) (by simp)
  next => exact ((h.post (.peerChange x .restart)).teardown x .peerRestart .peerRestart).of_keeps rfl rfl rfl
  next => exact h

theorem Device.inPlace.handleLeave (h : d.inPlace) (x : Station) : (d.handleLeave x).inPlace := by
  unfold Device.handleLeave
  split
  next => exact ((h.post (.peerChange x .left)).teardown x .peerLeft .peerLeft).of_keeps rfl rfl rfl
  all_goals exact h

theorem Device.inPlace.countJoin (h : d.inPlace) : d.countJoin.inPlace := by
  refine h.of_keeps (by simp) ?_ (by simp)
  unfold Device.countJoin Device.becomeJoined
  dsimp only
  (repeat' split) <;> simp

theorem OfferFields.length_of_inRange {f : OfferFields} (h : f.inRange = true) : 1 ≤ f.length := by
  simp only [OfferFields.inRange, Bool.and_eq_true, decide_eq_true_eq] at h
  omega

theorem Device.Handles.inPlace {x : Station} (h : d.Handles x e) (hd : d.inPlace) : e.inPlace := by
  cases h with
  | offer c g h => exact hd.handleOffer (OfferFields.length_of_inRange h)
  | block c g h => exact hd.handleBlock _ _ _ _
  | withdraw c g reason => exact hd.handleWithdraw _ _ _
  | halt => exact hd.of_keeps (by simp) (by simp) (by simp)
  | resume => exact hd.of_keeps (by simp) (by simp) (by simp)
  | _ => exact hd.of_keeps (by simp) (by simp) (by simp)

theorem Device.Works.inPlace (h : d.Works e) (hd : d.inPlace) : e.inPlace := by
  cases h with
  | leave h => exact hd.startLeaving
  | reset => exact hd.resetStation
  | start h =>
    obtain ⟨-, hconfig, hadmission, -⟩ := Device.tryStart_keeps h
    exact hd.of_keeps hadmission (d.tryStart_writes h) hconfig
  | frame hr hx h => exact h.inPlace (hd.of_keeps (by simp) (by simp) (by simp))
  | joinFrame hr hx => exact hd.handleJoin _
  | leaveFrame hr hx => exact hd.handleLeave _
  | joinSent h =>
    have hfreed : d.freeLane.inPlace := hd.of_keeps rfl rfl rfl
    exact hfreed.countJoin
  | resetSent h ho => exact Device.inPlace_atReset rfl rfl
  | lifetime h => exact hd.expireWaiting _
  | landingTimer h => exact hd.landTimeout _
  | written ha hw => exact hd.writeDone hw
  | writeFailed ha hw => exact hd.writeFailed hw
  | _ => exact hd.of_keeps (by simp) (by simp [Device.freePort, Device.fillBuffer, Device.freeLane]) (by simp)

end

end Sys2Proof.Machine

/-! The Span Interface at a step (R12 to R16): the claims an event may make, the events of Station Control and the Halt Unit
that do more, and the frame the free lane takes. With them: LEAVE is due or on the lane in LEAVING alone (R18, R27). -/

namespace Sys2Proof.Machine

/-! ### Claims and turns -/

/-- The event claims replies and initiations, and drops some; the station state and the rest of the span are as they were. -/
structure Device.stays (d e : Device) : Prop where
  span : e.span = { d.span with replies := e.span.replies, initiation := e.span.initiation }
  control : e.control = { d.control with peers := e.control.peers }

theorem Device.Tells.stays {p : Notice → Bool} {d e : Device} (h : d.Tells p e)
    (hc : e.control = { d.control with peers := e.control.peers }) : d.stays e := ⟨h.moves.frame, hc⟩

theorem Device.Tells.stays_of_keeps {p : Notice → Bool} {d e : Device} (h : d.Tells p e) (hc : e.control = d.control) :
    d.stays e := h.stays (by rw [hc])

/-- The events that move the station state, the halt set or the lane. -/
inductive Device.Turns (d : Device) : Device → Prop
  | join (h : d.control.state = .config) :
    Turns d (d.updControl fun c => { c with state := .joining, joinCount := 0 }).makeJoinDue
  | leave (h : onSpan d.control.state = true) : Turns d d.startLeaving
  | reset : Turns d d.resetStation
  | request (r : Bool) (h : d.control.state = .joined) : Turns d (d.updHalt fun h => { h with request := r }).updateHold
  | line (level : Bool) : Turns d (d.updHalt fun h => { h with line := level }).updateHold
  | joinSent (h : d.onLane .join) : Turns d d.freeLane.countJoin
  | leaveSent (h : d.onLane .leave) (ho : d.control.owed = false) : Turns d d.freeLane.returnToConfig
  | resetSent (h : d.onLane .leave) (ho : d.control.owed = true) : Turns d d.softReset
  | sent (hj : ¬d.onLane .join) (hl : ¬d.onLane .leave) : Turns d d.freeLane
  | spacing (h : d.control.spacing.isSome = true) : Turns d (d.updControl fun c => { c with spacing := none }).makeJoinDue
  | repeatTimer (h : d.halt.repeatTimer.isSome = true) :
    Turns d (d.makeHaltDue.updHalt fun h => { h with repeatTimer := some Config.haltRepeat })

section
variable {d e : Device}

theorem Device.setPeer_control (d : Device) (x : Station) (p : Presence) (t : Timer) :
    (d.setPeer x p t).control = { d.control with peers := (d.setPeer x p t).control.peers } := rfl

theorem Device.notePeer_control (d : Device) (x : Station) :
    (d.notePeer x).control = { d.control with peers := (d.notePeer x).control.peers } := by
  unfold Device.notePeer
  split
  next => simp [Device.setPeer]
  all_goals rfl

theorem Device.Handles.control {x : Station} (h : d.Handles x e) : e.control = d.control := by
  cases h <;> simp

theorem Device.handleJoin_control (d : Device) (x : Station) :
    (d.handleJoin x).control = { d.control with peers := (d.handleJoin x).control.peers } := by
  unfold Device.handleJoin
  split
  next => exact d.notePeer_control x
  next => rfl
  next => simp [Device.setPeer]
  next => rfl

theorem Device.handleLeave_control (d : Device) (x : Station) :
    (d.handleLeave x).control = { d.control with peers := (d.handleLeave x).control.peers } := by
  unfold Device.handleLeave
  split
  next => simp [Device.setPeer]
  all_goals rfl

theorem Device.stays_of_span (hs : e.span = d.span) (hc : e.control = d.control) : d.stays e := ⟨by rw [hs], by rw [hc]⟩

theorem Device.claimInitiation_stays (f : List InitEntry → List InitEntry) : d.stays (d.claimInitiation f) := by
  refine ⟨?_, by simp⟩
  unfold Device.claimInitiation
  split
  next => rfl
  next => rfl

theorem Device.Works.stays_or_turns (h : d.Works e) : d.stays e ∨ d.Turns e := by
  cases h with
  | join h => exact .inr (.join h)
  | leave h => exact .inr (.leave h)
  | reset => exact .inr .reset
  | start h => exact .inl ((Device.tryStart_tells (p := Notice.ofAny) h).stays_of_keeps (Device.tryStart_keeps h).1)
  | stop hs h => exact .inl ((d.endTransfer_tells _ _ _).stays_of_keeps (by simp))
  | signal dest e a hs h => exact .inl (d.claimInitiation_stays _)
  | request r h => exact .inr (.request r h)
  | line level => exact .inr (.line level)
  | edge line => exact .inl ((d.lineStarts_tells _).stays_of_keeps (by simp))
  | @frame x _ hr hx h =>
    exact .inl (((d.notePeer_tells x).trans h.tells).stays (by rw [h.control]; exact d.notePeer_control x))
  | joinFrame hr hx => exact .inl ((d.handleJoin_tells _).stays (d.handleJoin_control _))
  | leaveFrame hr hx => exact .inl ((d.handleLeave_tells _).stays (d.handleLeave_control _))
  | joinSent h => exact .inr (.joinSent h)
  | leaveSent h ho => exact .inr (.leaveSent h ho)
  | resetSent h ho => exact .inr (.resetSent h ho)
  | sent hj hl => exact .inr (.sent hj hl)
  | spacing h => exact .inr (.spacing h)
  | offerTimer h => exact .inl ((d.resendOffer_tells _).stays_of_keeps (by simp))
  | streamTimer h => exact .inl ((d.streamExpiry_tells _).stays_of_keeps (by simp))
  | queueTimer h => exact .inl ((d.endTransfer_tells _ _ _).stays_of_keeps (by simp))
  | pauseTimer h => exact .inl ((d.endTransfer_tells _ _ _).stays_of_keeps (by simp))
  | lifetime h => exact .inl ((d.expireWaiting_tells _).stays_of_keeps (by simp))
  | landingTimer h => exact .inl ((d.landTimeout_tells _).stays_of_keeps (by simp))
  | repeatTimer h => exact .inr (.repeatTimer h)
  | lapseTimer h => exact .inl ((d.leaveHalt_tells _ _).stays_of_keeps (by simp))
  | readFilled data h => exact .inl (Device.stays_of_span rfl rfl)
  | readDropped h => exact .inl (Device.stays_of_span rfl rfl)
  | readFailed h =>
    have htells := d.freePort.endTransfer_tells
    exact .inl (Device.Tells.stays_of_keeps (d := d) (p := Notice.ofTransfer) ⟨(htells _ _ _).moves, (htells _ _ _).posts⟩ (by simp [Device.freePort]))
  | written ha hw =>
    have htells := d.popWrite.writeDone_tells
    exact .inl (Device.Tells.stays_of_keeps (d := d) (p := Notice.ofLanding) ⟨(htells _).moves, (htells _).posts⟩
      (by simp [Device.popWrite, Device.freePort]))
  | writeFailed ha hw =>
    have htells := d.popWrite.writeFailed_tells
    exact .inl (Device.Tells.stays_of_keeps (d := d) (p := Notice.ofLanding) ⟨(htells _).moves, (htells _).posts⟩
      (by simp [Device.popWrite, Device.freePort]))

end

/-! ### The frame the lane takes -/

/-- A frame that is no JOIN and no LEAVE. -/
def Frame.carries (f : Frame) : Prop := f.body ≠ .join ∧ f.body ≠ .leave

theorem Reply.frame_carries (own : Station) (r : Reply) : (r.frame own).carries := by
  unfold Frame.carries Reply.frame
  dsimp only
  split <;> exact ⟨nofun, nofun⟩

theorem InitEntry.next_carries {own : Station} {halted : Bool} {e : InitEntry} {f : Frame} {rest : Option InitEntry}
    (h : e.next own halted = some (f, rest)) : f.carries := by
  have hslot : ∀ (c : ChannelNo) (s : SlotFrame), (s.frame own c).carries := fun c s => by
    cases s <;> exact ⟨nofun, nofun⟩
  have hwithdraw : ∀ (c : ChannelNo) (w : Withdrawal), (w.frame own c).carries := fun _ _ => ⟨nofun, nofun⟩
  unfold InitEntry.next at h
  split at h
  · obtain ⟨rfl, -⟩ := Prod.mk.inj (Option.some.inj h)
    exact hwithdraw _ _
  · obtain ⟨rfl, -⟩ := Prod.mk.inj (Option.some.inj h)
    exact hwithdraw _ _
  · split at h
    · cases h
    · obtain ⟨rfl, -⟩ := Prod.mk.inj (Option.some.inj h)
      exact hslot _ _
  · cases h
  · obtain ⟨rfl, -⟩ := Prod.mk.inj (Option.some.inj h)
    exact ⟨nofun, nofun⟩

theorem pickInitiation_carries {own : Station} {halted : Bool} {q : List InitEntry} {f : Frame} {rest : List InitEntry}
    (h : pickInitiation own halted q = some (f, rest)) : f.carries := by
  induction q generalizing f rest with
  | nil => cases h
  | cons e es ih =>
    unfold pickInitiation at h
    split at h
    next heq =>
      obtain ⟨rfl, -⟩ := Prod.mk.inj (Option.some.inj h)
      exact InitEntry.next_carries heq
    next heq =>
      obtain ⟨rfl, -⟩ := Prod.mk.inj (Option.some.inj h)
      exact InitEntry.next_carries heq
    next =>
      obtain ⟨⟨g, tail⟩, hg, heq⟩ := Option.map_eq_some_iff.mp h
      obtain ⟨rfl, -⟩ := Prod.mk.inj heq
      exact ih hg

/-- R15: what the lane may do; `ready` says that a channel has a block to send. -/
inductive SpanInterface.Sends (ready : Prop) (s : SpanInterface) : SpanInterface → Prop
  | nothing : Sends ready s s
  | join (f : Frame) (hf : f.body = .join) (hl : s.lane = none) (hj : s.joinDue = true) :
    Sends ready s { s with joinDue := false, lane := some f }
  | halt (f : Frame) (hf : f.carries) (hl : s.lane = none) (hh : s.haltDue = true) :
    Sends ready s { s with haltDue := false, lane := some f }
  | resume (f : Frame) (hf : f.carries) (hl : s.lane = none) (hr : s.resumeDue = true) :
    Sends ready s { s with resumeDue := false, lane := some f }
  | leave (f : Frame) (hf : f.body = .leave) (hl : s.lane = none) (hr : s.resumeDue = false) (hd : s.leaveDue = true) :
    Sends ready s { s with leaveDue := false, lane := some f }
  | other (f : Frame) (r : List Reply) (q : List InitEntry) (hf : f.carries) (hl : s.lane = none) (hd : s.leaveDue = false)
    (hwork : s.replies ≠ [] ∨ s.initiation ≠ [] ∨ ready) : Sends ready s { s with replies := r, initiation := q, lane := some f }

section
variable {d : Device}

theorem SpanInterface.pickStation_sends {ready : Prop} {s t : SpanInterface} {b : FrameBody} (hl : s.lane = none)
    (h : s.pickStation = some (b, t)) {f : Frame} (hf : f.body = b) : s.Sends ready { t with lane := some f } := by
  unfold SpanInterface.pickStation at h
  split at h
  next hj =>
    obtain ⟨rfl, rfl⟩ := Prod.mk.inj (Option.some.inj h)
    exact .join f hf hl hj
  next =>
    split at h
    next hh =>
      obtain ⟨rfl, rfl⟩ := Prod.mk.inj (Option.some.inj h)
      exact .halt f (by simp [Frame.carries, hf]) hl hh
    next =>
      split at h
      next hr =>
        obtain ⟨rfl, rfl⟩ := Prod.mk.inj (Option.some.inj h)
        exact .resume f (by simp [Frame.carries, hf]) hl hr
      next hr =>
        split at h
        next hd =>
          obtain ⟨rfl, rfl⟩ := Prod.mk.inj (Option.some.inj h)
          exact .leave f hf hl (Bool.eq_false_iff.mpr hr) hd
        next => cases h

/-- R15 step 4: a channel has a block to send. -/
def Device.blockReady (d : Device) : Prop := ∃ c : ChannelNo, d.channels[c].readyBlock.isSome = true

theorem Device.chooseFrame_sends (d : Device) : d.span.Sends d.blockReady d.chooseFrame.span := by
  by_cases hlane : d.span.lane = none
  · rcases hpick : d.span.pickStation with _ | ⟨b, s⟩
    · obtain ⟨-, -, -, hleave⟩ := SpanInterface.pickStation_eq_none.mp hpick
      rcases hreplies : d.span.replies with _ | ⟨r, rs⟩
      · rcases hinit : pickInitiation d.control.number d.halted d.span.initiation with _ | ⟨f, q⟩
        · by_cases hidle : d.halted = true ∨ d.control.owed = true ∨ d.readyChannel = none
          · rw [Device.chooseFrame_held hlane hpick hreplies hinit hidle]
            exact .nothing
          · simp only [not_or, Bool.not_eq_true] at hidle
            obtain ⟨hrun, howed, hready⟩ := hidle
            obtain ⟨c, hc⟩ := Option.ne_none_iff_exists'.mp hready
            obtain ⟨⟨a, data⟩, hblock⟩ := Option.isSome_iff_exists.mp (firstMin_filter_spec hc).1
            rw [Device.chooseFrame_block hlane hpick hreplies hinit hrun howed hc, Device.sendBlock_sent hblock]
            simp only [Device.requestReads_keeps]
            exact .other _ _ _ ⟨nofun, nofun⟩ hlane hleave (.inr (.inr ⟨c, by rw [hblock]; rfl⟩))
        · rw [Device.chooseFrame_initiation hlane hpick hreplies hinit]
          refine .other f _ q (pickInitiation_carries hinit) hlane hleave (.inr (.inl fun hnil => ?_))
          rw [hnil] at hinit
          cases hinit
      · rw [Device.chooseFrame_reply hlane hpick hreplies]
        exact .other _ rs _ (r.frame_carries _) hlane hleave (.inl (by simp [hreplies]))
    · rw [Device.chooseFrame_station hlane hpick]
      exact SpanInterface.pickStation_sends hlane hpick rfl
  · rw [Device.chooseFrame_of_lane hlane]
    exact .nothing

/-- R27: the drained report. -/
theorem Device.reportDrained_span (d : Device) :
    d.reportDrained.span = d.span ∨
      (d.span.lane = none ∧ d.span.replies = [] ∧ d.span.initiation = []) ∧
        (d.control.state = .leaving ∧ d.control.owed = false) ∧ d.reportDrained.span = { d.span with leaveDue := true } := by
  unfold Device.reportDrained
  split
  next h =>
    obtain ⟨hlane, hreplies, hinit, hs, ho⟩ := h
    exact .inr ⟨⟨hlane, hreplies, hinit⟩, ⟨hs, ho⟩, rfl⟩
  next => exact .inl rfl

theorem Device.reportDrained_ready (d : Device) : d.reportDrained.blockReady ↔ d.blockReady := by
  have hsame : d.reportDrained.channels = d.channels := by unfold Device.reportDrained; split <;> rfl
  simp only [Device.blockReady, hsame]

end

end Sys2Proof.Machine

/-! LEAVE and a soft reset belong to LEAVING (R18, R27, R35), nothing lands in CONFIG and in a leaving that owes no reset (R20,
R26), and with both the records keep fitting their windows (R74, R93, R135, R136, R139). -/

namespace Sys2Proof.Machine

/-! ### LEAVE is due or on the lane in LEAVING alone -/

/-- R18, R27, R35 of a span in this station state. -/
def SpanInterface.leavesIn (s : SpanInterface) (state : StationState) (owed : Bool) : Prop :=
  (s.leaveDue = true ∨ s.leaveOnLane = true → state = .leaving) ∧ (s.leaveOnLane = true → s.leaveDue = false) ∧
    (owed = true → state = .leaving)

theorem Device.leaveOk_iff {d : Device} : d.leaveOk ↔ d.span.leavesIn d.control.state d.control.owed := .rfl

section
variable {s t : SpanInterface} {state : StationState} {owed : Bool}

theorem SpanInterface.leaveOnLane_of_lane (h : s.lane = none) : s.leaveOnLane = false := by
  simp [SpanInterface.leaveOnLane, h]

theorem SpanInterface.leaveOnLane_congr (h : t.lane = s.lane) : t.leaveOnLane = s.leaveOnLane := by
  simp only [SpanInterface.leaveOnLane, h]

theorem SpanInterface.leaveOnLane_carries {f : Frame} (h : s.lane = some f) (hf : f.carries) : s.leaveOnLane = false := by
  simp [SpanInterface.leaveOnLane, h, hf.2]

theorem SpanInterface.leavesIn.of_same (h : s.leavesIn state owed) (hl : t.lane = s.lane) (hd : t.leaveDue = s.leaveDue) :
    t.leavesIn state owed := by
  obtain ⟨hstate, hlane, howed⟩ := h
  rw [SpanInterface.leavesIn, SpanInterface.leaveOnLane_congr hl, hd]
  exact ⟨hstate, hlane, howed⟩

/-- Neither LEAVE nor a reset is pending, in any state. -/
theorem SpanInterface.leavesIn_of_none (hd : s.leaveDue = false) (hl : s.leaveOnLane = false) (ho : owed = false) :
    s.leavesIn state owed := by
  simp [SpanInterface.leavesIn, hd, hl, ho]

theorem SpanInterface.leavesIn.none_of_other (h : s.leavesIn state owed) (hs : state ≠ .leaving) :
    s.leaveDue = false ∧ s.leaveOnLane = false ∧ owed = false := by
  obtain ⟨hstate, -, howed⟩ := h
  exact ⟨Bool.eq_false_iff.mpr fun hd => hs (hstate (.inl hd)), Bool.eq_false_iff.mpr fun hl => hs (hstate (.inr hl)),
    Bool.eq_false_iff.mpr fun ho => hs (howed ho)⟩

theorem SpanInterface.leavesIn.freed (h : s.leavesIn state owed) : ({ s with lane := none } : SpanInterface).leavesIn state owed := by
  obtain ⟨hstate, -, howed⟩ := h
  exact ⟨fun hpending => hstate (hpending.imp_right fun hl => by simp [SpanInterface.leaveOnLane] at hl), by
    simp [SpanInterface.leaveOnLane], howed⟩

theorem SpanInterface.leavesIn.sends {ready : Prop} (h : s.leavesIn state owed) (ht : s.Sends ready t) : t.leavesIn state owed := by
  obtain ⟨hstate, hlane, howed⟩ := h
  have hcarries : ∀ {u : SpanInterface} {f : Frame}, u.lane = some f → f.carries → u.leaveDue = s.leaveDue →
      u.leavesIn state owed := fun hf hc hd =>
    ⟨fun hpending => hstate (.inl (by simpa [SpanInterface.leaveOnLane_carries hf hc, hd] using hpending)),
      fun hl => by simp [SpanInterface.leaveOnLane_carries hf hc] at hl, howed⟩
  cases ht with
  | nothing => exact ⟨hstate, hlane, howed⟩
  | join f hf hl hj =>
    have hother : ({ s with joinDue := false, lane := some f } : SpanInterface).leaveOnLane = false := by
      simp [SpanInterface.leaveOnLane, hf]
    exact ⟨fun hpending => hstate (.inl (by simpa [hother] using hpending)), fun hleave => by simp [hother] at hleave, howed⟩
  | halt f hf hl hh => exact hcarries rfl hf rfl
  | resume f hf hl hr => exact hcarries rfl hf rfl
  | leave f hf hl hr hd => exact ⟨fun _ => hstate (.inl hd), fun _ => rfl, howed⟩
  | other f r q hf hl hd hwork => exact hcarries rfl hf rfl

end

/-- The lane and the LEAVE flag are as they were. -/
def Device.laneKept (d e : Device) : Prop := e.span.lane = d.span.lane ∧ e.span.leaveDue = d.span.leaveDue

section
variable {d e g : Device}

theorem Device.laneKept_of_span (h : e.span = d.span) : d.laneKept e := by rw [Device.laneKept, h]; exact ⟨rfl, rfl⟩

theorem Device.laneKept.trans (h : d.laneKept e) (h' : e.laneKept g) : d.laneKept g :=
  ⟨h'.1.trans h.1, h'.2.trans h.2⟩

theorem Device.Tells.laneKept {p : Notice → Bool} (h : d.Tells p e) : d.laneKept e := by
  rw [Device.laneKept, h.moves.frame]
  exact ⟨rfl, rfl⟩

theorem Device.claimDue_laneKept {f : SpanInterface → SpanInterface} (hl : ∀ s, (f s).lane = s.lane)
    (hd : ∀ s, (f s).leaveDue = s.leaveDue) : d.laneKept (d.claimDue f) := by
  unfold Device.claimDue
  split
  next => exact ⟨rfl, rfl⟩
  next => exact ⟨hl _, hd _⟩

theorem Device.beginHold_laneKept (d : Device) : d.laneKept d.beginHold :=
  (d.enterHalt_tells _ _).laneKept.trans (Device.claimDue_laneKept (fun _ => rfl) fun _ => rfl)

theorem Device.endHold_laneKept (d : Device) (cause : HaltCause) : d.laneKept (d.endHold cause) :=
  (d.leaveHalt_tells _ _).laneKept.trans (Device.claimDue_laneKept (fun _ => rfl) fun _ => rfl)

theorem Device.updateHold_laneKept (d : Device) : d.laneKept d.updateHold := by
  unfold Device.updateHold
  split
  · split
    · exact ⟨rfl, rfl⟩
    · exact d.beginHold_laneKept
  · split
    · exact d.endHold_laneKept _
    · exact ⟨rfl, rfl⟩

theorem Device.leaveHold_laneKept (d : Device) : d.laneKept d.leaveHold := by
  unfold Device.leaveHold
  dsimp only
  split
  next => exact (Device.laneKept_of_span (d := d) rfl).trans (Device.endHold_laneKept _ _)
  next => exact ⟨rfl, rfl⟩

theorem Device.endJoining_laneKept (d : Device) : d.laneKept d.endJoining := by
  unfold Device.endJoining
  split
  next => exact ⟨rfl, rfl⟩
  next => exact ⟨rfl, rfl⟩

theorem Device.startLeaving_laneKept (d : Device) : d.laneKept d.startLeaving := by
  have hleft : d.laneKept (d.endJoining.updControl fun c => { c with state := .leaving }) := d.endJoining_laneKept
  have hchannels := Device.foldl_tells (f := Device.leaveChannel) Device.leaveChannel_tells eight
    (d.endJoining.updControl fun c => { c with state := .leaving })
  exact ((hleft.trans hchannels.laneKept).trans (Device.leaveLandings_tells _).laneKept).trans (Device.leaveHold_laneKept _)

theorem Device.becomeJoined_laneKept (d : Device) : d.laneKept d.becomeJoined :=
  (Device.releaseLatches_tells (d.updControl fun c => { c with state := .joined })).laneKept.trans
    (Device.updateHold_laneKept _)

theorem Device.countJoin_laneKept (d : Device) : d.laneKept d.countJoin := by
  unfold Device.countJoin
  split
  · dsimp only
    split
    · exact ⟨rfl, rfl⟩
    · exact Device.becomeJoined_laneKept (d.updControl fun c => { c with joinCount := c.joinCount + 1 })
  · exact ⟨rfl, rfl⟩

/-! ### The station state after each turn -/

theorem Device.startLeaving_state (d : Device) : d.startLeaving.control.state = .leaving := by
  have hkept := foldl_keeps Device.control Device.leaveChannel (fun b a => by simp) eight
    (d.endJoining.updControl fun c => { c with state := .leaving })
  simp [Device.startLeaving, hkept]

theorem Device.countJoin_control (d : Device) :
    d.countJoin.control.owed = d.control.owed ∧
      (d.countJoin.control.state = d.control.state ∨ d.control.state = .joining ∧ d.countJoin.control.state = .joined) := by
  unfold Device.countJoin
  split
  next hs =>
    dsimp only
    split
    next => exact ⟨rfl, .inl rfl⟩
    next => simp [Device.becomeJoined, hs]
  next => exact ⟨rfl, .inl rfl⟩

theorem Device.returnToConfig_control (d : Device) :
    d.returnToConfig.control.owed = d.control.owed ∧ d.returnToConfig.control.state = .config := by
  unfold Device.returnToConfig
  dsimp only
  split <;> simp

theorem Device.takeReset_control (d : Device) : d.takeReset.control.owed = true ∧ d.takeReset.control.state = .leaving := by
  simp [Device.takeReset]

theorem Device.Turns.leaveOk (h : d.Turns e) (hd : d.leaveOk) : e.leaveOk := by
  rw [Device.leaveOk_iff] at hd ⊢
  have hcleared : ∀ e : Device, e.span = SpanInterface.powerOn → e.control.owed = false →
      e.span.leavesIn e.control.state e.control.owed := fun e hs ho =>
    SpanInterface.leavesIn_of_none (by rw [hs]; rfl) (by rw [hs]; rfl) ho
  cases h with
  | join h =>
    obtain ⟨hdue, hlane, ho⟩ := hd.none_of_other (by rw [h]; decide)
    rw [Device.makeJoinDue_eq (d := d.updControl fun c => { c with state := .joining, joinCount := 0 }) ho]
    exact SpanInterface.leavesIn_of_none hdue hlane ho
  | leave h =>
    obtain ⟨hdue, hlane, -⟩ := hd.none_of_other (by rcases onSpan_iff.mp h with hs | hs <;> rw [hs] <;> decide)
    obtain ⟨hkept, -⟩ := d.startLeaving_laneKept
    rw [SpanInterface.leavesIn, d.startLeaving_state, SpanInterface.leaveOnLane_congr hkept, hlane]
    exact ⟨fun _ => rfl, nofun, fun _ => rfl⟩
  | reset =>
    rcases hs : d.control.state
    case config => simpa only [Device.resetStation, hs] using hcleared d.softReset rfl rfl
    case leaving =>
      simp only [Device.resetStation, hs, Device.takeResetLeaving]
      obtain ⟨-, hlane, -⟩ := hd
      split
      next => exact ⟨fun _ => hs, hlane, fun _ => hs⟩
      next =>
        split
        next => exact ⟨fun _ => hs, hlane, fun _ => hs⟩
        next hnone => exact ⟨fun _ => hs, fun hl => absurd hl hnone, fun _ => hs⟩
    all_goals
      obtain ⟨-, hlane, -⟩ := hd.none_of_other (by rw [hs]; decide)
      obtain ⟨-, hstate⟩ := d.takeReset_control
      have hkept : d.takeReset.span.lane = d.span.lane :=
        (Device.leaveHold_laneKept _).1.trans d.endJoining_laneKept.1
      simp only [Device.resetStation, hs]
      rw [SpanInterface.leavesIn, hstate, SpanInterface.leaveOnLane_congr hkept, hlane]
      exact ⟨fun _ => rfl, nofun, fun _ => rfl⟩
  | request r h =>
    obtain ⟨hl, hdue⟩ := (d.updHalt fun h => { h with request := r }).updateHold_laneKept
    simpa using hd.of_same hl hdue
  | line level =>
    obtain ⟨hl, hdue⟩ := (d.updHalt fun h => { h with line := level }).updateHold_laneKept
    simpa using hd.of_same hl hdue
  | joinSent h =>
    obtain ⟨hl, hdue⟩ := d.freeLane.countJoin_laneKept
    have hfreed := hd.freed.of_same hl hdue
    obtain ⟨ho, hs | ⟨hs, hjoined⟩⟩ := d.freeLane.countJoin_control
    · rw [ho, hs]
      exact hfreed
    · obtain ⟨hdue, hlane, howed⟩ := hfreed.none_of_other (by rw [show d.control.state = _ from hs]; decide)
      rw [ho, hjoined]
      exact SpanInterface.leavesIn_of_none hdue hlane howed
  | leaveSent h ho =>
    obtain ⟨-, hlane, -⟩ := hd
    obtain ⟨howed, hs⟩ := d.freeLane.returnToConfig_control
    have hspan : d.freeLane.returnToConfig.span = d.freeLane.span := by simp
    have hon : d.span.leaveOnLane = true := by
      obtain ⟨f, hf, hbody⟩ := Option.map_eq_some_iff.mp h
      simp [SpanInterface.leaveOnLane, hf, hbody]
    rw [howed, hspan]
    exact SpanInterface.leavesIn_of_none (hlane hon) rfl ho
  | resetSent h ho => exact hcleared _ rfl rfl
  | sent hj hl => exact hd.freed
  | spacing h =>
    obtain ⟨hl, hdue⟩ := Device.claimDue_laneKept (d := d.updControl fun c => { c with spacing := none })
      (f := fun s => { s with joinDue := true }) (fun _ => rfl) fun _ => rfl
    simpa [Device.makeJoinDue] using hd.of_same hl hdue
  | repeatTimer h =>
    obtain ⟨hl, hdue⟩ := Device.claimDue_laneKept (d := d)
      (f := fun s => { s with haltDue := true, resumeDue := false }) (fun _ => rfl) fun _ => rfl
    simpa [Device.makeHaltDue] using hd.of_same hl hdue

theorem Device.stays.leaveOk (h : d.stays e) (hd : d.leaveOk) : e.leaveOk := by
  rw [Device.leaveOk_iff] at hd ⊢
  rw [h.span, h.control]
  exact hd.of_same rfl rfl

theorem Device.Works.leaveOk (h : d.Works e) (hd : d.leaveOk) : e.leaveOk :=
  h.stays_or_turns.elim (fun h => h.leaveOk hd) fun h => h.leaveOk hd

theorem Device.leaveOk.settle (hd : d.leaveOk) : d.settle.leaveOk := by
  rw [Device.leaveOk_iff] at hd ⊢
  have hdrained : d.reportDrained.span.leavesIn d.control.state d.control.owed := by
    rcases d.reportDrained_span with heq | ⟨⟨hlane, -, -⟩, ⟨hs, -⟩, heq⟩
    · rw [heq]
      exact hd
    · rw [heq]
      exact ⟨fun _ => hs, fun hl => absurd hl (by simp [SpanInterface.leaveOnLane, hlane]), fun _ => hs⟩
  rw [Device.settle_span, show d.settle.control = d.control by simp]
  exact hdrained.sends d.reportDrained.chooseFrame_sends

theorem Device.Writes.leaveOk (h : d.Writes e) (hd : d.leaveOk) : e.leaveOk := by
  rw [Device.leaveOk_iff] at hd ⊢
  cases h with
  | clearFlags => exact hd.of_same rfl rfl
  | ownNumber x =>
    unfold Device.noteOwnNumber
    dsimp only
    split
    next => exact hd.of_same rfl rfl
    next => exact hd.of_same rfl rfl
  | mismatch => exact hd.of_same rfl rfl
  | _ => exact hd

end

end Sys2Proof.Machine

/-! Nothing lands in CONFIG and in a leaving that owes no reset (R20, R26, R28). With it the records keep to their windows while
the configuration record changes (R135, R136). -/

namespace Sys2Proof.Machine

/-! ### Records dropped key by key (R26, R33) -/

/-- The records and entries of these keys are gone. -/
def AdmissionUnit.dropAll (a : AdmissionUnit) (ks : List Key) : AdmissionUnit :=
  { a with
    landings := a.landings.filter fun l => decide (l.offer.key ∉ ks)
    suspended := a.suspended.filter fun l => decide (l.offer.key ∉ ks)
    waiting := a.waiting.filter fun e => decide (e.offer.key ∉ ks) }

theorem AdmissionUnit.dropAll_nil (a : AdmissionUnit) : a.dropAll [] = a := by simp [AdmissionUnit.dropAll]

theorem AdmissionUnit.dropAll_cons (a : AdmissionUnit) (k : Key) (ks : List Key) :
    a.dropAll (k :: ks) = ((a.dropRecord k).dropWaiting k).dropAll ks := by
  simp only [AdmissionUnit.dropAll, AdmissionUnit.dropRecord, AdmissionUnit.dropWaiting, List.filter_filter, List.mem_cons,
    not_or, Bool.decide_and, Bool.and_comm]

theorem foldl_dropAll {α : Type} {f : Device → α → Device} {key : α → Key}
    (h : ∀ d x, (f d x).admission = (d.admission.dropRecord (key x)).dropWaiting (key x)) (xs : List α) (d : Device) :
    (xs.foldl f d).admission = d.admission.dropAll (xs.map key) := by
  induction xs generalizing d with
  | nil => exact d.admission.dropAll_nil.symm
  | cons x xs ih => rw [List.foldl_cons, ih, h, List.map_cons, AdmissionUnit.dropAll_cons]

section
variable {d e : Device}

theorem Device.refuseLeaving_admission (d : Device) (o : Offer) (n : Nat) :
    (d.refuseLeaving o n).admission = (d.admission.dropRecord o.key).dropWaiting o.key := by
  simp [Device.refuseLeaving, Device.removeRecord]

/-- R26 step 2: the four collections are empty. -/
theorem Device.leaveLandings_isClear (d : Device) : d.leaveLandings.admission.isClear := by
  unfold Device.leaveLandings
  simp only [Device.updAdmission_admission,
    foldl_dropAll (fun d (e : PendingEntry) => d.refuseLeaving_admission e.offer 0),
    foldl_dropAll (fun d (l : Landing) => d.refuseLeaving_admission l.offer l.byteCount)]
  simp only [AdmissionUnit.isClear, AdmissionUnit.dropAll, List.filter_eq_nil_iff, List.mem_filter, decide_eq_true_eq,
    List.map_append, List.mem_append, not_or, not_not, and_true]
  refine ⟨fun l hl => ?_, fun l hl => ?_, fun e he => ?_⟩
  · exact absurd (List.mem_map_of_mem hl.1) hl.2.1
  · exact absurd (List.mem_map_of_mem hl.1) hl.2.2
  · exact List.mem_map_of_mem he.1

/-! ### Where nothing lands, nothing is admitted -/

theorem AdmissionUnit.updRecord_clear {a : AdmissionUnit} (h : a.isClear) (k : Key) (f : Landing → Landing) :
    a.updRecord k f = a := by
  obtain ⟨landings, suspended, waiting, recent⟩ := a
  obtain ⟨rfl, rfl, -⟩ := h
  rfl

section
variable (h : d.admission.isClear)
include h

theorem Device.bestTaker_clear : d.bestTaker = none := by
  obtain ⟨hl, -⟩ := h
  exact Device.bestTaker_none.mpr fun l hm => absurd (hl ▸ hm) List.not_mem_nil

theorem Device.bestCandidate_clear : d.bestCandidate = none := by
  obtain ⟨-, hs, hw, -⟩ := h
  exact Device.bestCandidate_none.mpr
    ⟨fun l hm => absurd (hs ▸ hm) List.not_mem_nil, fun e hm => absurd (hw ▸ hm) List.not_mem_nil⟩

theorem Device.distribute_clear : d.distribute = d := by
  simp only [Device.distribute, Device.bestTaker_clear h, Device.bestCandidate_clear h, ite_self]

theorem Device.runAndSweep_clear : d.runAndSweep = d := by
  have hrun : ∀ n, Device.admissionRun n d = d := fun n => by
    cases n with
    | zero => rfl
    | succ n => simp only [Device.admissionRun, Device.bestCandidate_clear h]
  have hsweep : ∀ n, Device.sweep n d = d := fun n => by
    cases n with
    | zero => rfl
    | succ n => simp only [Device.sweep, Device.bestTaker_clear h, ite_self]
  simp only [Device.runAndSweep, hrun, hsweep, ite_self]

theorem AdmissionUnit.landing_clear (k : Key) : d.admission.landing k = none := by
  obtain ⟨hl, -⟩ := h
  simp only [AdmissionUnit.landing, hl, List.find?_nil]

theorem AdmissionUnit.find_clear (k : Key) : d.admission.find k = .nothing := by
  obtain ⟨hl, hs, hw, hr⟩ := h
  simp only [AdmissionUnit.find, hl, hs, hw, hr, List.append_nil, List.find?_nil]

theorem Device.writeDone_clear (owner : Option Key) : d.writeDone owner = d := by
  cases owner with
  | none => simp only [Device.writeDone, Device.distribute_clear h, Device.runAndSweep_clear h]
  | some k =>
    have hkept : (d.updAdmission fun a => a.updRecord k Landing.stored) = d :=
      congrArg (fun a => { d with admission := a }) (AdmissionUnit.updRecord_clear h k _)
    have hplaced : d.placeFreed k = d := by
      simp only [Device.placeFreed, AdmissionUnit.landing_clear h, Device.distribute_clear h]
    have hreported : d.reportWrite k = d := by simp only [Device.reportWrite, AdmissionUnit.landing_clear h]
    calc d.writeDone (some k)
        = (((d.updAdmission fun a => a.updRecord k Landing.stored).placeFreed k).reportWrite k).runAndSweep := rfl
      _ = d := by rw [hkept, hplaced, hreported, Device.runAndSweep_clear h]

theorem Device.writeFailed_clear (owner : Option Key) : d.writeFailed owner = d := by
  cases owner with
  | none => simp only [Device.writeFailed, Device.distribute_clear h, Device.runAndSweep_clear h]
  | some k =>
    simp only [Device.writeFailed, AdmissionUnit.find_clear h, Device.distribute_clear h, Device.runAndSweep_clear h]

end

/-! ### The invariant -/

/-- R20, R26: the station is off the span, or leaves it and owes no reset. -/
def StationControl.offSpan (c : StationControl) : Prop := c.state = .config ∨ c.state = .leaving ∧ c.owed = false

/-- R20, R26: off the span nothing lands. -/
def Device.clearOffSpan (d : Device) : Prop := d.control.offSpan → d.admission.isClear

theorem StationControl.offSpan_not_receiving {c : StationControl} (h : c.offSpan) : c.receiving = false := by
  rcases h with hs | ⟨hs, -⟩ <;> simp [StationControl.receiving, hs]

theorem Device.clearOffSpan.of_keeps (hd : d.clearOffSpan) (ha : e.admission = d.admission)
    (hc : e.control.offSpan → d.control.offSpan) : e.clearOffSpan := fun h => by
  rw [ha]
  exact hd (hc h)

theorem Device.stays.offSpan (h : d.stays e) (hoff : e.control.offSpan) : d.control.offSpan := by
  rw [h.control] at hoff
  exact hoff

theorem Device.takeResetLeaving_control (d : Device) : d.takeResetLeaving.control = { d.control with owed := true } := by
  unfold Device.takeResetLeaving
  dsimp only
  split
  next ho =>
    rw [← ho]
  next =>
    split
    next => rfl
    next => rfl

theorem Device.leaveOnLane_of_onLane (h : d.onLane .leave) : d.span.leaveOnLane = true := by
  obtain ⟨f, hf, hbody⟩ := Option.map_eq_some_iff.mp h
  simp [SpanInterface.leaveOnLane, hf, hbody]

theorem Device.Turns.clearOffSpan (h : d.Turns e) (hleave : d.leaveOk) (hd : d.clearOffSpan) : e.clearOffSpan := by
  have hempty : AdmissionUnit.powerOn.isClear := ⟨rfl, rfl, rfl, rfl⟩
  cases h with
  | join h => exact fun hoff => absurd hoff (by simp [StationControl.offSpan])
  | leave h =>
    intro _
    have hsame : d.startLeaving.admission = (eight.foldl Device.leaveChannel
        (d.endJoining.updControl fun c => { c with state := .leaving })).leaveLandings.admission := by
      simp [Device.startLeaving]
    rw [hsame]
    exact Device.leaveLandings_isClear _
  | reset =>
    rcases hs : d.control.state
    case config =>
      simp only [Device.resetStation, hs]
      exact fun _ => hempty
    case leaving =>
      have hcontrol := d.takeResetLeaving_control
      exact hd.of_keeps (by simp [Device.resetStation, hs])
        (by simp [Device.resetStation, hs, StationControl.offSpan, hcontrol])
    all_goals
      obtain ⟨ho, hleaving⟩ := d.takeReset_control
      exact hd.of_keeps (by simp [Device.resetStation, hs])
        (by simp [Device.resetStation, hs, StationControl.offSpan, ho, hleaving])
  | joinSent h =>
    refine hd.of_keeps (by simp [Device.freeLane]) fun hoff => ?_
    obtain ⟨ho, hs | ⟨-, hjoined⟩⟩ := d.freeLane.countJoin_control
    · rw [StationControl.offSpan, ho, hs] at hoff
      exact hoff
    · simp [StationControl.offSpan, hjoined] at hoff
  | leaveSent h ho =>
    obtain ⟨hstate, -⟩ := hleave
    exact hd.of_keeps (by simp [Device.freeLane]) fun _ => .inr ⟨hstate (.inr (Device.leaveOnLane_of_onLane h)), ho⟩
  | resetSent h ho => exact fun _ => hempty
  | _ => exact hd.of_keeps (by simp) (by simp [StationControl.offSpan])

/-- Off the span an event admits nothing, unless it is one of Station Control's. -/
theorem Device.Works.isClear_or_turns (h : d.Works e) (hoff : d.control.offSpan) (hclear : d.admission.isClear) :
    e.admission.isClear ∨ d.Turns e := by
  have hdeaf := StationControl.offSpan_not_receiving hoff
  have hkept : e.admission = d.admission → e.admission.isClear ∨ d.Turns e := fun ha => .inl (ha ▸ hclear)
  cases h with
  | join h => exact .inr (.join h)
  | leave h => exact .inr (.leave h)
  | reset => exact .inr .reset
  | start h => exact hkept (Device.tryStart_keeps h).2.2.1
  | request r h => exact .inr (.request r h)
  | line level => exact .inr (.line level)
  | frame hr hx h => exact absurd hr (by simp [hdeaf])
  | joinFrame hr hx => exact absurd hr (by simp [hdeaf])
  | leaveFrame hr hx => exact absurd hr (by simp [hdeaf])
  | joinSent h => exact .inr (.joinSent h)
  | leaveSent h ho => exact .inr (.leaveSent h ho)
  | resetSent h ho => exact .inr (.resetSent h ho)
  | sent hj hl => exact .inr (.sent hj hl)
  | spacing h => exact .inr (.spacing h)
  | lifetime h => exact absurd (hclear.2.2.1 ▸ h) List.not_mem_nil
  | landingTimer h => exact absurd (hclear.1 ▸ h) List.not_mem_nil
  | repeatTimer h => exact .inr (.repeatTimer h)
  | written ha hw => exact hkept (by rw [Device.writeDone_clear (d := d.popWrite) hclear]; rfl)
  | writeFailed ha hw => exact hkept (by rw [Device.writeFailed_clear (d := d.popWrite) hclear]; rfl)
  | _ => exact hkept (by simp [Device.freePort, Device.fillBuffer])

theorem Device.Works.clearOffSpan (h : d.Works e) (hleave : d.leaveOk) (hd : d.clearOffSpan) : e.clearOffSpan := by
  rcases h.stays_or_turns with hstays | hturns
  · intro hoff
    have hoff := hstays.offSpan hoff
    rcases h.isClear_or_turns hoff (hd hoff) with hclear | hturns
    · exact hclear
    · exact hturns.clearOffSpan hleave hd (by rwa [StationControl.offSpan, hstays.control])
  · exact hturns.clearOffSpan hleave hd

theorem Device.Writes.control (h : d.Writes e) : e.control = { d.control with peers := e.control.peers } := by
  cases h with
  | closeWindow x => rfl
  | _ => simp

theorem Device.Writes.admission (h : d.Writes e) : e.admission = d.admission := by
  cases h <;> simp

theorem Device.Writes.port (h : d.Writes e) : e.port = d.port := by
  cases h <;> simp

theorem Device.Configures.kept (h : d.Configures e) :
    e.span = d.span ∧ e.control = d.control ∧ e.admission = d.admission ∧ e.port = d.port := by
  cases h <;> exact ⟨rfl, rfl, rfl, rfl⟩

end

/-! ### The records fit the configuration -/

/-- The pool, the windows, the credit and the configuration record, with what they rest on. -/
structure Device.landingsOk (d : Device) : Prop where
  leave : d.leaveOk
  clear : d.clearOffSpan
  place : d.inPlace
  legal : d.config.legal

theorem Device.landingsOk_iff {d : Device} : d.landingsOk ↔ d.poolOk ∧ d.withinConfig ∧ d.config.legal := by
  rw [Device.poolOk_iff]
  constructor
  · rintro ⟨hleave, hclear, ⟨hpool, hsingle, hcredit, hjudged⟩, hlegal⟩
    exact ⟨hpool, ⟨hleave, hclear, hsingle, hcredit, hjudged⟩, hlegal⟩
  · rintro ⟨hpool, ⟨hleave, hclear, hsingle, hcredit, hjudged⟩, hlegal⟩
    exact ⟨hleave, hclear, ⟨hpool, hsingle, hcredit, hjudged⟩, hlegal⟩

section
variable {d e : Device}

theorem AdmissionUnit.fits_of_isClear {a : AdmissionUnit} (h : a.isClear) (d : Device) : a.fits d := by
  obtain ⟨hl, hs, hw, -⟩ := h
  refine ⟨fun w _ => by simp [hl], fun l hm => absurd (hl ▸ hm) List.not_mem_nil, fun o ho => ?_⟩
  rw [AdmissionUnit.placed, hl, hs, hw] at ho
  exact absurd ho List.not_mem_nil

theorem ConfigRecord.powerOn_legal : ConfigRecord.powerOn.legal := by decide

theorem Device.powerOn_landingsOk (n : Station) (line : Bool) : (Device.powerOn n line).landingsOk where
  leave := ⟨by simp [Device.powerOn, SpanInterface.powerOn, SpanInterface.leaveOnLane], fun _ => rfl, nofun⟩
  clear := fun _ => ⟨rfl, rfl, rfl, rfl⟩
  place := Device.inPlace_atReset rfl rfl
  legal := ConfigRecord.powerOn_legal

theorem WindowEntry.legal_set {c : ConfigRecord} (h : ∀ w : WindowNo, c.windows[w].legal) (w : WindowNo) {e : WindowEntry}
    (he : e.legal) : ∀ v : WindowNo, (c.windows.set w e)[v].legal := fun v => by
  by_cases hv : w = v
  · subst hv
    simpa using he
  · have hne : (w : Nat) ≠ v := fun heq => hv (Fin.ext heq)
    simpa [hne] using h v

theorem Device.Configures.legal (h : d.Configures e) (hd : d.config.legal) : e.config.legal := by
  obtain ⟨hwindows, htimers⟩ := hd
  cases h with
  | window w h => exact ⟨WindowEntry.legal_set hwindows w h, htimers⟩
  | signal n e => exact ⟨hwindows, htimers⟩
  | line c b => exact ⟨hwindows, htimers⟩
  | timers hr hq hp hl hc => exact ⟨hwindows, hr, hq, hp, hl, hc⟩

theorem landingsRule : EventRule Device.landingsOk Device.landingsOk Device.landingsOk where
  registers h hd := by
    obtain ⟨f, -, rfl⟩ := h
    exact ⟨hd.leave, hd.clear, ⟨hd.place.pool, hd.place.fits.congr rfl⟩, hd.legal⟩
  answered h hd := by
    obtain ⟨f, -, rfl⟩ := h
    exact ⟨hd.leave, hd.clear, ⟨hd.place.pool, hd.place.fits.congr rfl⟩, hd.legal⟩
  works h hd := ⟨h.leaveOk hd.leave, h.clearOffSpan hd.leave hd.clear, h.inPlace hd.place, h.holds.2 ▸ hd.legal⟩
  settles {d} hd :=
    ⟨hd.leave.settle, hd.clear.of_keeps (by simp) (by simp), hd.place.of_keeps (by simp) (by simp) (by simp),
      by simpa using hd.legal⟩
  writes {d e} h hd :=
    ⟨h.leaveOk hd.leave, hd.clear.of_keeps h.admission (by rw [h.control]; exact id),
      hd.place.of_keeps h.admission (by rw [h.port]) h.holds.2, h.holds.2 ▸ hd.legal⟩
  configures {d e} hs h hd := by
    obtain ⟨hspan, hcontrol, hadmission, hport⟩ := h.kept
    have hclear := hd.clear (.inl hs)
    have hpool : e.admission.pooled e.port.writes := by rw [hadmission, hport]; exact hd.place.pool
    refine ⟨?_, ?_, ⟨hpool, AdmissionUnit.fits_of_isClear (by rwa [hadmission]) e⟩, h.legal hd.legal⟩
    · rw [Device.leaveOk_iff, hspan, hcontrol]
      exact hd.leave
    · exact hd.clear.of_keeps hadmission (by rw [hcontrol]; exact id)

end

/-- Settles O58: the ledger of the pool is kept by each change of a record, and the windows and the credit change in CONFIG
alone, where nothing lands. -/
theorem landingsStayInOrder : Obligations.LandingsStayInOrder := by
  intro s t hs h
  exact Device.landingsOk_iff.mp (landingsRule.step Device.powerOn_landingsOk h (Device.landingsOk_iff.mpr hs))

end Sys2Proof.Machine

/-! Transfers and latches by station state (R49, R51, R52, R56, R57): what every event keeps of the channels. -/

namespace Sys2Proof.Machine

/-! ### A channel in its station state -/

/-- R26, R49, R51: no transfer is under way in CONFIG, in JOINING and in a leaving that owes no reset. -/
def StationControl.still (c : StationControl) : Prop := c.offSpan ∨ c.state = .joining

/-- R49, R51, R57, R87: the latch and the transfer of a channel in this station state. -/
structure Channel.suits (c : StationControl) (ch : Channel) : Prop where
  off : c.offSpan → ch.latch = false
  still : c.still → ch.state.inTransfer = false
  ready : c.state = .joined → ch.state = .ready → ch.latch = false
  empty : ch.state = .empty → ch.latch = false

/-- R49: a channel goes on with its transfer, or stays as it is but for its counters, timer and buffers. -/
def Channel.goesOn (ch ch' : Channel) : Prop :=
  ch'.latch = ch.latch ∧ (ch'.state = ch.state ∨ ch.state.inTransfer = true ∧ ch'.state.inTransfer = true)

section
variable {c : StationControl} {ch ch' : Channel}

theorem Channel.goesOn_of_same (hl : ch'.latch = ch.latch) (hs : ch'.state = ch.state) : ch.goesOn ch' := ⟨hl, .inl hs⟩

theorem Channel.suits.goesOn (h : ch.suits c) (hgo : ch.goesOn ch') : ch'.suits c := by
  obtain ⟨hlatch, hstate | ⟨hold, hnew⟩⟩ := hgo
  · exact ⟨hlatch ▸ h.off, hstate ▸ h.still, hstate ▸ hlatch ▸ h.ready, hstate ▸ hlatch ▸ h.empty⟩
  · have hmoving : ¬c.still := fun hs => by simp [h.still hs] at hold
    refine ⟨hlatch ▸ h.off, fun hs => absurd hs hmoving, fun _ hr => ?_, fun he => ?_⟩
    · simp [hr, ChannelState.inTransfer] at hnew
    · simp [he, ChannelState.inTransfer] at hnew

/-- Without a transfer and without a latch a channel suits every station state. -/
theorem Channel.suits_of_idle (c : StationControl) (hl : ch.latch = false) (ht : ch.state.inTransfer = false) : ch.suits c :=
  ⟨fun _ => hl, fun _ => ht, fun _ _ => hl, fun _ => hl⟩

/-- In a transfer and without a latch it suits every state in which transfers go on. -/
theorem Channel.suits_of_moving (hc : ¬c.still) (hl : ch.latch = false) : ch.suits c :=
  ⟨fun _ => hl, fun hs => absurd hs hc, fun _ _ => hl, fun _ => hl⟩

theorem Channel.suits.latched (h : ch.suits c) (hc : ¬c.offSpan) (hs : ch.state = .ready → c.state ≠ .joined)
    (he : ch.state ≠ .empty) : ({ ch with latch := true } : Channel).suits c :=
  ⟨fun hoff => absurd hoff hc, h.still, fun hj hr => absurd hj (hs hr), fun h => absurd h he⟩

theorem StationControl.not_still_of_joined (h : c.state = .joined) : ¬c.still := by
  simp [StationControl.still, StationControl.offSpan, h]

theorem StationControl.not_offSpan_of_onSpan (h : c.state = .joining ∨ c.state = .joined) : ¬c.offSpan := by
  rcases h with h | h <;> simp [StationControl.offSpan, h]

end

/-! ### The channels of a block -/

/-- Every channel suits the station state. -/
def Device.channelsSuit (d : Device) : Prop := ∀ c : ChannelNo, (d.channels[c]).suits d.control

/-- Every channel goes on. -/
def Device.goesOn (d e : Device) : Prop := e.control = d.control ∧ ∀ c : ChannelNo, (d.channels[c]).goesOn e.channels[c]

section
variable {d e g : Device} {c : ChannelNo}

theorem Device.goesOn_of_keeps (hc : e.control = d.control) (hs : e.channels = d.channels) : d.goesOn e :=
  ⟨hc, fun c => by rw [hs]; exact Channel.goesOn_of_same rfl rfl⟩

theorem Device.goesOn.trans (h : d.goesOn e) (h' : e.goesOn g) : d.goesOn g := by
  refine ⟨h'.1.trans h.1, fun c => ?_⟩
  obtain ⟨hl, hs⟩ := h.2 c
  obtain ⟨hl', hs'⟩ := h'.2 c
  refine ⟨hl'.trans hl, ?_⟩
  rcases hs' with hs' | ⟨hold', hnew'⟩
  · rw [hs']
    exact hs
  · rcases hs with hs | ⟨hold, -⟩
    · exact .inr ⟨hs ▸ hold', hnew'⟩
    · exact .inr ⟨hold, hnew'⟩

theorem Device.goesOn.then (h : d.goesOn e) (hc : g.control = e.control) (hs : g.channels = e.channels) : d.goesOn g :=
  h.trans (Device.goesOn_of_keeps hc hs)

theorem Device.goesOn_updChannel {f : Channel → Channel} (h : (d.channels[c]).goesOn (f d.channels[c])) :
    d.goesOn (d.updChannel c f) := by
  refine ⟨rfl, fun b => ?_⟩
  by_cases hb : c = b
  · subst hb
    rw [Device.updChannel_same d c f]
    exact h
  · rw [Device.updChannel_other d c f hb]
    exact Channel.goesOn_of_same rfl rfl

theorem Device.channelsSuit.goesOn (hd : d.channelsSuit) (h : d.goesOn e) : e.channelsSuit := fun c => by
  rw [h.1]
  exact (hd c).goesOn (h.2 c)

/-- One channel changes. -/
theorem Device.channelsSuit.one (hd : d.channelsSuit) (hc : e.control = d.control)
    (hother : ∀ b : ChannelNo, b ≠ c → e.channels[b] = d.channels[b]) (hsame : (e.channels[c]).suits d.control) :
    e.channelsSuit := fun b => by
  rw [hc]
  by_cases hb : b = c
  · subst hb
    exact hsame
  · rw [hother b hb]
    exact hd b

theorem Device.emptyBuffers_goesOn (d : Device) (c : ChannelNo) (keep : FetchBuffer → Bool) : d.goesOn (d.emptyBuffers c keep) := by
  refine ⟨by simp, fun b => ?_⟩
  rw [Device.emptyBuffers_eq]
  by_cases hb : b = c
  · subst hb
    rw [Device.rebuffer_same]
    exact Channel.goesOn_of_same rfl rfl
  · rw [Device.rebuffer_other _ _ _ _ hb]
    exact Channel.goesOn_of_same rfl rfl

theorem Device.requestReads_goesOn (d : Device) (c : ChannelNo) : d.goesOn (d.requestReads c) := by
  obtain ⟨⟨hsame, -⟩, hother, -⟩ := d.requestReads_asks (c := c)
  refine ⟨by simp, fun b => ?_⟩
  by_cases hb : b = c
  · subst hb
    rw [hsame]
    exact Channel.goesOn_of_same rfl rfl
  · rw [hother b hb]
    exact Channel.goesOn_of_same rfl rfl

/-! ### Starts (R49 to R53) -/

theorem Device.beginTransfer_other {b : ChannelNo} (h : b ≠ c) : (d.beginTransfer c).channels[b] = d.channels[b] := by
  rcases ha : d.channels[c].active with _ | a
  · simp only [Device.beginTransfer, ha]
  · rw [(Device.beginTransfer_parts ha).1]
    have hne : (c : Nat) ≠ b := fun heq => h (Fin.ext heq.symm)
    simp [hne]

theorem Device.beginTransfer_same {a : Descriptor} (ha : d.channels[c].active = some a) :
    ((d.beginTransfer c).channels[c]).state = .offering ∧ ((d.beginTransfer c).channels[c]).latch = false := by
  have hsame : (d.beginTransfer c).channels[c] = d.channels[c].begun d.config.tReply := by
    rw [(Device.beginTransfer_parts ha).1]
    exact Vector.getElem_set_self _
  rw [hsame]
  exact ⟨rfl, rfl⟩

theorem Device.channelsSuit.beginTransfer (hd : d.channelsSuit) (hc : ¬d.control.still) : (d.beginTransfer c).channelsSuit := by
  rcases ha : d.channels[c].active with _ | a
  · simpa only [Device.beginTransfer, ha] using hd
  · exact hd.one (by simp) (fun b hb => Device.beginTransfer_other hb) (Channel.suits_of_moving hc (Device.beginTransfer_same ha).2)

theorem Device.channelsSuit.setLatch (hd : d.channelsSuit) (hc : d.control.state = .joining ∨ d.control.state = .joined)
    (hs : d.channels[c].state = .ready → d.control.state ≠ .joined) (he : d.channels[c].state ≠ .empty) :
    (d.setLatch c).channelsSuit := by
  refine hd.one (by simp) (fun b hb => Device.updChannel_other d c _ (Ne.symm hb)) ?_
  have hsame : (d.setLatch c).channels[c] = { d.channels[c] with latch := true } :=
    Device.updChannel_same d c fun ch => { ch with latch := true }
  rw [hsame]
  exact (hd c).latched (StationControl.not_offSpan_of_onSpan hc) hs he

theorem Device.channelsSuit.tryStart (hd : d.channelsSuit) (h : d.tryStart c = some e) : e.channelsSuit := by
  unfold Device.tryStart at h
  split at h
  next hj =>
    split at h
    next => cases h
    next =>
      obtain rfl := Option.some.inj h
      exact hd.beginTransfer (StationControl.not_still_of_joined hj)
    all_goals
      next hs =>
        obtain rfl := Option.some.inj h
        exact hd.setLatch (.inr hj) (by rw [hs]; nofun) (by rw [hs]; nofun)
  next hj =>
    split at h
    next => cases h
    all_goals
      next hs =>
        obtain rfl := Option.some.inj h
        exact hd.setLatch (.inl hj) (by rw [hj]; nofun) (by rw [hs]; nofun)
  next => cases h
  next => cases h

theorem Device.channelsSuit.post (hd : d.channelsSuit) (n : Notice) : (d.post n).channelsSuit := hd

theorem Device.channelsSuit.startOrMiss (hd : d.channelsSuit) (c : ChannelNo) (m : MissedCause) :
    (d.startOrMiss c m).channelsSuit := by
  unfold Device.startOrMiss
  split
  next h => exact hd.tryStart h
  next => exact hd

theorem Device.channelsSuit.applySignal (hd : d.channelsSuit) (x : Station) (cause : SignalCause) (n : EventNo) (a : BitVec 16) :
    (d.applySignal x cause n a).channelsSuit := by
  have hposted : (if d.config.signals[n].action.notices then d.post (.signal x cause n a) else d).channelsSuit := by
    split
    next => exact hd
    next => exact hd
  unfold Device.applySignal
  dsimp only
  split
  next => exact hposted.startOrMiss _ _
  next => exact hposted

theorem Device.channelsSuit.lineStarts (hd : d.channelsSuit) (line : LineNo) : (d.lineStarts line).channelsSuit := by
  unfold Device.lineStarts
  refine foldl_induction (P := Device.channelsSuit) (fun d c hd => ?_) eight hd
  split
  next => exact hd.startOrMiss _ _
  next => exact hd

/-! ### The end of a transfer (R54 to R57) -/

theorem Channel.promote_cases (ch : Channel) : ch.promote.latch = ch.latch ∧ ch.promote.state.inTransfer = false ∧
    (ch.promote.state = .ready ∧ (∃ a, ch.promote.active = some a) ∨ ch.promote.state = .empty) := by
  unfold Channel.promote
  split
  next a _ => exact ⟨rfl, rfl, .inl ⟨rfl, a, rfl⟩⟩
  next => exact ⟨rfl, rfl, .inr rfl⟩

theorem Device.closeTransfer_goesOn (d : Device) (c : ChannelNo) (a : Descriptor) (o : TransferOutcome) :
    d.goesOn (d.closeTransfer c a o) := by
  have hstopped : d.goesOn (d.stopMachinery c) :=
    (d.emptyBuffers_goesOn c _).trans (Device.goesOn_updChannel (Channel.goesOn_of_same rfl rfl))
  unfold Device.closeTransfer
  dsimp only
  split
  next => exact hstopped.then (by simp) (by simp)
  next => exact hstopped.then (by simp) (by simp)

theorem Device.recordOutcome_goesOn (d : Device) (c : ChannelNo) (a : Descriptor) (o : TransferOutcome) (r : Option Reason) :
    d.goesOn (d.recordOutcome c a o r) := by
  have hlast : d.goesOn (d.updChannel c fun ch =>
      { ch with last := { outcome := some o, reason := r, generation := ch.generation,
                          bytes := confirmedBytes d.channels[c].accepted a.length } }) :=
    Device.goesOn_updChannel (Channel.goesOn_of_same rfl rfl)
  exact hlast.then rfl rfl

/-- What follows promotion leaves the other channels as they were. -/
theorem Device.afterPromotion_other (o : TransferOutcome) (chain : Bool) {b : ChannelNo} (h : b ≠ c) :
    (d.afterPromotion c o chain).channels[b] = d.channels[b] := by
  have hcleared : (d.updChannel c fun ch => { ch with latch := false }).channels[b] = d.channels[b] :=
    Device.updChannel_other d c _ (Ne.symm h)
  unfold Device.afterPromotion
  split
  · split
    · split
      · exact Device.beginTransfer_other h
      · rfl
    all_goals
      split
      · exact hcleared
      · rfl
  · exact hcleared

theorem Device.afterPromotion_suits (o : TransferOutcome) (chain : Bool) (hc : ¬d.control.still)
    (hs : d.channels[c].state = .ready ∧ (∃ a, d.channels[c].active = some a) ∨ d.channels[c].state = .empty) :
    ((d.afterPromotion c o chain).channels[c]).suits d.control := by
  have hcleared : ((d.updChannel c fun ch => { ch with latch := false }).channels[c]).suits d.control := by
    rw [Device.updChannel_same d c fun ch => { ch with latch := false }]
    exact Channel.suits_of_moving hc rfl
  unfold Device.afterPromotion
  split
  · rcases hs with ⟨hready, a, ha⟩ | hempty
    · simp only [hready]
      split
      next => exact Channel.suits_of_moving hc (Device.beginTransfer_same ha).2
      next hnone =>
        simp only [Bool.or_eq_true, not_or, Bool.not_eq_true] at hnone
        exact Channel.suits_of_moving hc hnone.2
    · simp only [hempty]
      split
      next => exact hcleared
      next hnone => exact Channel.suits_of_moving hc (Bool.eq_false_iff.mpr hnone)
  · exact hcleared

theorem Device.channelsSuit.endTransfer (hd : d.channelsSuit) (ht : d.channels[c].state.inTransfer = true)
    (o : TransferOutcome) (r : Option RefuseReason) : (d.endTransfer c o r).channelsSuit := by
  have hc : ¬d.control.still := fun hs => absurd ht (by rw [(hd c).still hs]; decide)
  unfold Device.endTransfer
  split
  next => exact hd
  next a _ =>
    have hrecorded : ((d.closeTransfer c a o).recordOutcome c a o (outcomeReason o r)).channelsSuit :=
      hd.goesOn ((d.closeTransfer_goesOn c a o).trans (Device.recordOutcome_goesOn _ c a o _))
    obtain ⟨e, he⟩ : ∃ e, ((d.closeTransfer c a o).recordOutcome c a o (outcomeReason o r)).applyDone c a o = e := ⟨_, rfl⟩
    have hdone : e.channelsSuit := by
      rw [← he]
      unfold Device.applyDone
      split
      next => exact hrecorded.applySignal _ _ _ _
      next => exact hrecorded
    have hcontrol : e.control = d.control := by rw [← he]; simp
    simp only [he]
    have hpromoted : (e.updChannel c Channel.promote).channels[c] = e.channels[c].promote := Device.updChannel_same e c _
    obtain ⟨-, -, hstate⟩ := e.channels[c].promote_cases
    refine hdone.one (c := c) (by simp) (fun b hb => ?_) ?_
    · rw [Device.afterPromotion_other o a.chain hb]
      exact Device.updChannel_other e c _ (Ne.symm hb)
    · exact Device.afterPromotion_suits (d := e.updChannel c Channel.promote) o a.chain (hcontrol ▸ hc) (hpromoted ▸ hstate)

end

end Sys2Proof.Machine

/-! Every event of the channels keeps them in their station state (R49, R51, R57), and so does the lane's choice (R91). -/

namespace Sys2Proof.Machine

section
variable {d e : Device} {c : ChannelNo}

theorem Device.goesOn_move {f : Channel → Channel} (ht : d.channels[c].state.inTransfer = true)
    (hl : (f d.channels[c]).latch = d.channels[c].latch) (hs : (f d.channels[c]).state.inTransfer = true) :
    d.goesOn (d.updChannel c f) := Device.goesOn_updChannel ⟨hl, .inr ⟨ht, hs⟩⟩

/-! ### Replies at the source (R60 to R66, R103 to R105, R124) -/

theorem Device.handleWait_goesOn (d : Device) (x : Station) (c : ChannelNo) (g : Generation) :
    d.goesOn (d.handleWait x c g) := by
  unfold Device.handleWait
  split
  next h =>
    obtain ⟨a, -, ht, -⟩ := (d.channels[c].matchesReply_iff x g).mp h.1
    exact (Device.goesOn_move (f := fun ch => { ch with state := .queued, timer := some d.config.tQueue }) ht rfl rfl).then
      (by simp) (by simp)
  next => exact Device.goesOn_of_keeps rfl rfl

theorem Device.answerStale_goesOn (d : Device) (c : ChannelNo) (x : Station) (g : Generation) : d.goesOn (d.answerStale c x g) := by
  unfold Device.answerStale
  split
  next => exact Device.goesOn_of_keeps rfl rfl
  next => exact Device.goesOn_of_keeps (by simp) (by simp)

theorem Device.takeGrant_goesOn (ht : d.channels[c].state.inTransfer = true) (start limit : Nat) :
    d.goesOn (d.takeGrant c start limit) := by
  have hgranted : d.goesOn (d.updChannel c fun ch => ch.granted d.config.tReply start limit) := Device.goesOn_move ht rfl rfl
  have hremoved : d.goesOn ((d.updChannel c fun ch => ch.granted d.config.tReply start limit).removeOffer c) :=
    hgranted.then (by simp) (by simp)
  exact hremoved.trans (Device.requestReads_goesOn _ c)

theorem Device.handleGrant_goesOn (d : Device) (x : Station) (c : ChannelNo) (g : Generation) (start limit : Nat) :
    d.goesOn (d.handleGrant x c g start limit) := by
  have hstale := d.answerStale_goesOn c x g
  have hself : d.goesOn d := Device.goesOn_of_keeps rfl rfl
  unfold Device.handleGrant
  dsimp only
  split
  next => exact hstale
  next =>
    split
    next => exact hstale
    next => exact hstale
    next =>
      split
      next => exact hstale
      next => exact hself
    next =>
      split
      next => exact hstale
      next => exact hself
    all_goals
      next hs =>
        split
        next =>
          split
          next => exact Device.takeGrant_goesOn (by rw [hs]; rfl) start limit
          next => exact hstale
        next => exact hself

theorem Device.channelsSuit.handleRefuse (hd : d.channelsSuit) (x : Station) (c : ChannelNo) (g : Generation)
    (r : RefuseReason) : (d.handleRefuse x c g r).channelsSuit := by
  unfold Device.handleRefuse
  split
  next h =>
    obtain ⟨a, -, ht, -⟩ := (d.channels[c].matchesReply_iff x g).mp h
    exact hd.endTransfer ht _ _
  next => exact hd

theorem Device.liftNext_goesOn (ht : d.channels[c].state.inTransfer = true) : d.goesOn (d.liftNext c) := by
  unfold Device.liftNext
  dsimp only
  split
  next =>
    have hemptied := d.emptyBuffers_goesOn c (FetchBuffer.notBelow d.channels[c].accepted)
    obtain ⟨e, he⟩ : ∃ e, d.emptyBuffers c (FetchBuffer.notBelow d.channels[c].accepted) = e := ⟨_, rfl⟩
    rw [he] at hemptied ⊢
    have ht' : e.channels[c].state.inTransfer = true := by
      rcases (hemptied.2 c).2 with hs | ⟨-, hs⟩
      · rw [hs]
        exact ht
      · exact hs
    refine hemptied.trans (Device.goesOn_move ht' rfl ?_)
    dsimp only
    split
    next => rfl
    next => exact ht'
  next => exact Device.goesOn_of_keeps rfl rfl

theorem Device.channelsSuit.takeReceipt (hd : d.channelsSuit) (ht : d.channels[c].state.inTransfer = true)
    (accepted limit : Nat) (final : Bool) : (d.takeReceipt c accepted limit final).channelsSuit := by
  have hnoted : d.goesOn (d.updChannel c fun ch => ch.noteReceipt d.config.tReply accepted limit) :=
    Device.goesOn_updChannel (Channel.goesOn_of_same rfl rfl)
  have ht' : (d.updChannel c fun ch => ch.noteReceipt d.config.tReply accepted limit).channels[c].state.inTransfer = true := by
    rw [Device.updChannel_same d c fun ch => ch.noteReceipt d.config.tReply accepted limit]
    exact ht
  obtain ⟨e, he⟩ : ∃ e, (d.updChannel c fun ch => ch.noteReceipt d.config.tReply accepted limit).liftNext c = e := ⟨_, rfl⟩
  have hlifted : d.goesOn e := he ▸ hnoted.trans (Device.liftNext_goesOn ht')
  have ht'' : e.channels[c].state.inTransfer = true := by
    rcases (hlifted.2 c).2 with hs | ⟨-, hs⟩
    · rw [hs]
      exact ht
    · exact hs
  simp only [Device.takeReceipt, he]
  split
  next => exact (hd.goesOn hlifted).endTransfer ht'' _ _
  next => exact (hd.goesOn hlifted).goesOn (e.requestReads_goesOn c)

theorem Device.channelsSuit.handleReceipt (hd : d.channelsSuit) (x : Station) (c : ChannelNo) (g : Generation)
    (accepted limit : Nat) (final : Bool) : (d.handleReceipt x c g accepted limit final).channelsSuit := by
  unfold Device.handleReceipt
  split
  · split
    next hs => exact hd.takeReceipt (by rw [hs]; rfl) _ _ _
    next hs => exact hd.takeReceipt (by rw [hs]; rfl) _ _ _
    next => exact hd.goesOn (Device.goesOn_updChannel (Channel.goesOn_of_same rfl rfl))
    all_goals exact hd
  · exact hd

theorem Device.takePause_goesOn (ht : d.channels[c].state.inTransfer = true) (block : Nat) : d.goesOn (d.takePause c block) := by
  rw [Device.takePause_eq]
  have hmoved : d.goesOn (d.updChannel c fun ch =>
      { ch with state := .paused, accepted := block, next := block, timer := some d.config.tPause, buffers := #v[.empty, .empty] }) :=
    Device.goesOn_move ht rfl rfl
  exact hmoved.then rfl rfl

theorem Device.handlePause_goesOn (d : Device) (x : Station) (c : ChannelNo) (g : Generation) (block : Nat) :
    d.goesOn (d.handlePause x c g block) := by
  have hself : d.goesOn d := Device.goesOn_of_keeps rfl rfl
  unfold Device.handlePause
  split
  · split
    next hs => exact Device.takePause_goesOn (by rw [hs]; rfl) block
    next hs => exact Device.takePause_goesOn (by rw [hs]; rfl) block
    all_goals exact hself
  · exact hself

theorem Device.channelsSuit.handleSignal (hd : d.channelsSuit) (x : Station) (n : EventNo) (a : BitVec 16) :
    (d.handleSignal x n a).channelsSuit := by
  unfold Device.handleSignal
  split
  next => exact hd.applySignal _ _ _ _
  next => exact hd

/-! ### Timers (R61, R107 to R109) -/

theorem Device.channelsSuit.resendOffer (hd : d.channelsSuit) (hs : d.channels[c].state = .offering) :
    (d.resendOffer c).channelsSuit := by
  unfold Device.resendOffer
  split
  next a _ =>
    split
    next =>
      have hclaimed : (d.claimOffer c a).channelsSuit := hd.goesOn (Device.goesOn_of_keeps (by simp) (by simp))
      exact hclaimed.goesOn (Device.goesOn_updChannel (Channel.goesOn_of_same rfl rfl))
    next => exact hd.endTransfer (by rw [hs]; rfl) _ _
  next => exact hd

theorem Device.fallBack_goesOn (ht : d.channels[c].state.inTransfer = true) (block : Nat) : d.goesOn (d.fallBack c block) := by
  have hemptied := d.emptyBuffers_goesOn c (FetchBuffer.holdsWanted block)
  obtain ⟨e, he⟩ : ∃ e, d.emptyBuffers c (FetchBuffer.holdsWanted block) = e := ⟨_, rfl⟩
  rw [he] at hemptied
  have ht' : e.channels[c].state.inTransfer = true := by
    rcases (hemptied.2 c).2 with hs | ⟨-, hs⟩
    · rw [hs]
      exact ht
    · exact hs
  have hmoved : e.goesOn (e.updChannel c fun ch => { ch with next := block, state := .streaming }) := Device.goesOn_move ht' rfl rfl
  simp only [Device.fallBack, he]
  exact (hemptied.trans hmoved).trans (Device.requestReads_goesOn _ c)

theorem Device.channelsSuit.streamExpiry (hd : d.channelsSuit) (ht : d.channels[c].state.inTransfer = true) :
    (d.streamExpiry c).channelsSuit := by
  unfold Device.streamExpiry
  split
  next => exact hd.endTransfer ht _ _
  next =>
    obtain ⟨e, he⟩ : ∃ e, (d.updChannel c fun ch =>
        { ch with retry := ch.retry + 1, timer := some d.config.tReply }) = e := ⟨_, rfl⟩
    have hretried : d.goesOn e := he ▸ Device.goesOn_updChannel (Channel.goesOn_of_same rfl rfl)
    have ht' : e.channels[c].state.inTransfer = true := by
      rcases (hretried.2 c).2 with hs | ⟨-, hs⟩
      · rw [hs]
        exact ht
      · exact hs
    rw [he]
    have he := hd.goesOn hretried
    unfold Device.goBackOrProbe
    dsimp only
    split
    next => exact he.goesOn (Device.fallBack_goesOn ht' _)
    next =>
      split
      next => exact he.goesOn (Device.fallBack_goesOn ht' _)
      next => exact he

/-! ### Landings, teardown and the memory port -/

theorem Device.channelsSuit.completeLanding (hd : d.channelsSuit) (l : Landing) : (d.completeLanding l).channelsSuit := by
  have hlanded : (((d.removeRecord l.offer.key).updAdmission
      (·.addRecent { key := l.offer.key, generation := l.offer.generation, blocks := l.blocks })).post
      (l.offer.ended .landed l.offer.fields.length)).channelsSuit :=
    hd.goesOn (Device.goesOn_of_keeps (by simp) (by simp))
  unfold Device.completeLanding
  dsimp only
  split
  next => exact hlanded.applySignal _ _ _ _
  next => exact hlanded

theorem Device.channelsSuit.reportWrite (hd : d.channelsSuit) (k : Key) : (d.reportWrite k).channelsSuit := by
  unfold Device.reportWrite
  split
  next l _ =>
    have hclaimed : (d.claimReceipt l (decide (l.written = l.blocks))).channelsSuit :=
      hd.goesOn (Device.goesOn_of_keeps (by simp) (by simp))
    dsimp only
    split
    next => exact hclaimed.completeLanding l
    next => exact hclaimed
  next => exact hd

theorem Device.channelsSuit.writeDone (hd : d.channelsSuit) (owner : Option Key) : (d.writeDone owner).channelsSuit := by
  cases owner with
  | none => exact hd.goesOn (Device.goesOn_of_keeps (by simp [Device.writeDone]) (by simp [Device.writeDone]))
  | some k =>
    obtain ⟨e, he⟩ : ∃ e, (d.updAdmission fun a => a.updRecord k fun l => { l with written := l.written + 1 }).placeFreed k = e :=
      ⟨_, rfl⟩
    have hplaced : e.channelsSuit := he ▸ hd.goesOn (Device.goesOn_of_keeps (by simp) (by simp))
    simp only [Device.writeDone, he]
    exact (hplaced.reportWrite k).goesOn (Device.goesOn_of_keeps (by simp) (by simp))

theorem Device.channelsSuit.tearChannels (hd : d.channelsSuit) (x : Station) (o : TransferOutcome) :
    (d.tearChannels x o).channelsSuit := by
  unfold Device.tearChannels
  refine foldl_induction (P := Device.channelsSuit) (fun d c hd => ?_) eight hd
  split
  next a _ =>
    split
    next h =>
      rw [Bool.and_eq_true] at h
      exact hd.endTransfer h.1 _ _
    next => exact hd
  next => exact hd

theorem Device.channelsSuit.teardown (hd : d.channelsSuit) (x : Station) (o : TransferOutcome) (ending : Ending) :
    (d.teardown x o ending).channelsSuit := by
  have htorn := hd.tearChannels x o
  exact htorn.goesOn (Device.goesOn_of_keeps (by simp [Device.teardown]) (by simp [Device.teardown]))

/-! ### The lane's choice (R91) -/

theorem Device.chooseFrame_goesOn (d : Device) : d.goesOn d.chooseFrame := by
  rcases d.chooseFrame_cases with ⟨s, heq⟩ | ⟨c, a, data, -, -, -, -, -, -, hblock, heq⟩
  · rw [heq]
    exact Device.goesOn_of_keeps rfl rfl
  · have hstate : d.channels[c].state = .streaming := by
      have hsome : (d.channels[c].readyBlock).isSome = true := by rw [hblock]; rfl
      unfold Channel.readyBlock at hsome
      split at hsome
      · split at hsome
        next h => exact h.1
        next => simp at hsome
      · simp at hsome
    have hsent : d.goesOn (d.sentBlock c a data) := by
      refine ⟨rfl, fun b => ?_⟩
      by_cases hb : b = c
      · subst hb
        have hsame := Vector.getElem_set_self (xs := d.channels) (i := b.val) (hi := b.isLt)
          (x := { d.channels[b] with
            next := d.channels[b].next + 1
            buffers := d.channels[b].buffers.map (FetchBuffer.keptBy fun b' => !b'.has d.channels[b].next)
            state := if d.channels[b].next + 1 = blockCount a.length then .draining else d.channels[b].state })
        have hsent : (d.sentBlock b a data).channels[b] = _ := hsame
        rw [hsent]
        refine ⟨rfl, .inr ⟨by rw [hstate]; rfl, ?_⟩⟩
        dsimp only
        split
        next => rfl
        next => rw [hstate]; rfl
      · have hne : (c : Nat) ≠ b := fun heq => hb (Fin.ext heq.symm)
        have hkept : (d.sentBlock c a data).channels[b] = d.channels[b] := Vector.getElem_set_ne c.isLt b.isLt hne
        rw [hkept]
        exact Channel.goesOn_of_same rfl rfl
    rw [heq]
    exact hsent.trans (Device.requestReads_goesOn _ c)

theorem Device.settle_goesOn (d : Device) : d.goesOn d.settle := by
  obtain ⟨hcontrol, -, hchannels, -⟩ := d.reportDrained_keeps
  exact ((Device.goesOn_of_keeps hcontrol hchannels).trans d.reportDrained.chooseFrame_goesOn).then rfl rfl

end

end Sys2Proof.Machine

/-! The channels as the station joins and leaves (R26, R49, R52): latches are released at JOINED, and transfers and latches end at
the start of leaving. -/

namespace Sys2Proof.Machine

/-! ### A walk over the channels -/

/-- A walk whose step at a channel leaves the other channels as they were. -/
theorem foldl_eight_channel {f : Device → ChannelNo → Device}
    (hother : ∀ (d : Device) (c b : ChannelNo), b ≠ c → (f d c).channels[b] = d.channels[b]) (P : Device → Prop)
    (hP : ∀ d c, P d → P (f d c)) {d : Device} (hd : P d) (c : ChannelNo) :
    ∃ e, P e ∧ e.channels[c] = d.channels[c] ∧ (eight.foldl f d).channels[c] = (f e c).channels[c] := by
  obtain ⟨before, after, hsplit, hbefore, hafter⟩ := eight_split c
  have hkept : ∀ (l : List ChannelNo) (e : Device), (∀ m ∈ l, m ≠ c) → (l.foldl f e).channels[c] = e.channels[c] := by
    intro l
    induction l with
    | nil => exact fun _ _ => rfl
    | cons m l ih =>
      intro e hl
      rw [List.foldl_cons, ih _ fun n hn => hl n (List.mem_cons_of_mem _ hn)]
      exact hother e m c (hl m List.mem_cons_self).symm
  refine ⟨before.foldl f d, foldl_induction hP before hd, hkept before d fun m hm => (hbefore m hm).ne, ?_⟩
  rw [hsplit, List.foldl_append, List.foldl_cons]
  exact hkept after _ fun m hm => (hafter m hm).ne'

section
variable {d e : Device} {c : ChannelNo}

/-! ### The end of a transfer that is not DONE touches its own channel alone -/

theorem Device.closeTransfer_other (a : Descriptor) (o : TransferOutcome) {b : ChannelNo} (h : b ≠ c) :
    (d.closeTransfer c a o).channels[b] = d.channels[b] := by
  have hstopped : (d.stopMachinery c).channels[b] = d.channels[b] := by
    have hemptied : (d.emptyBuffers c fun _ => false).channels[b] = d.channels[b] := by
      rw [Device.emptyBuffers_eq, Device.rebuffer_other _ _ _ _ h]
    exact (Device.updChannel_other _ c _ (Ne.symm h)).trans hemptied
  unfold Device.closeTransfer
  dsimp only
  split
  next => simpa using hstopped
  next => simpa using hstopped

theorem Device.recordOutcome_other (a : Descriptor) (o : TransferOutcome) (r : Option Reason) {b : ChannelNo} (h : b ≠ c) :
    (d.recordOutcome c a o r).channels[b] = d.channels[b] := by
  have hlast : (d.updChannel c fun ch =>
      { ch with last := { outcome := some o, reason := r, generation := ch.generation,
                          bytes := confirmedBytes d.channels[c].accepted a.length } }).channels[b] = d.channels[b] :=
    Device.updChannel_other d c _ (Ne.symm h)
  exact hlast

/-- R57: after an outcome other than DONE the latch is cleared, and nothing begins. -/
theorem Device.endTransfer_undone {o : TransferOutcome} (ho : o ≠ .done) (r : Option RefuseReason) {a : Descriptor}
    (ha : d.channels[c].active = some a) :
    d.endTransfer c o r =
      (((d.closeTransfer c a o).recordOutcome c a o (outcomeReason o r)).updChannel c Channel.promote).updChannel c
        fun ch => { ch with latch := false } := by
  have hdone : ∀ e : Device, e.applyDone c a o = e := fun e => by
    unfold Device.applyDone
    split
    next => exact absurd rfl ho
    next => rfl
  simp only [Device.endTransfer, ha, hdone, Device.afterPromotion, ho, if_false]

theorem Device.endTransfer_idle {o : TransferOutcome} (ho : o ≠ .done) (r : Option RefuseReason) {a : Descriptor}
    (ha : d.channels[c].active = some a) :
    (((d.endTransfer c o r).channels[c]).latch = false ∧ ((d.endTransfer c o r).channels[c]).state.inTransfer = false) ∧
      ∀ b : ChannelNo, b ≠ c → (d.endTransfer c o r).channels[b] = d.channels[b] := by
  rw [Device.endTransfer_undone ho r ha]
  obtain ⟨e, he⟩ : ∃ e, (d.closeTransfer c a o).recordOutcome c a o (outcomeReason o r) = e := ⟨_, rfl⟩
  have hother : ∀ b : ChannelNo, b ≠ c → e.channels[b] = d.channels[b] := fun b hb => by
    rw [← he, Device.recordOutcome_other a o _ hb, Device.closeTransfer_other a o hb]
  rw [he]
  have hsame : ((e.updChannel c Channel.promote).updChannel c fun ch => { ch with latch := false }).channels[c] =
      { e.channels[c].promote with latch := false } := by
    rw [Device.updChannel_same _ c fun ch => { ch with latch := false }, Device.updChannel_same e c Channel.promote]
  obtain ⟨-, hidle, -⟩ := e.channels[c].promote_cases
  refine ⟨by rw [hsame]; exact ⟨rfl, hidle⟩, fun b hb => ?_⟩
  rw [Device.updChannel_other _ c _ (Ne.symm hb), Device.updChannel_other e c _ (Ne.symm hb)]
  exact hother b hb

/-! ### The start of leaving (R26 step 1) -/

theorem Device.leaveChannel_other (d : Device) (c b : ChannelNo) (h : b ≠ c) : (d.leaveChannel c).channels[b] = d.channels[b] := by
  unfold Device.leaveChannel
  split
  next =>
    rcases hactive : d.channels[c].active with _ | a
    · simp only [Device.endTransfer, hactive]
    · exact (Device.endTransfer_idle (o := .left) (by decide) none hactive).2 b h
  next =>
    have hcleared : (d.updChannel c fun ch => { ch with latch := false }).channels[b] = d.channels[b] :=
      Device.updChannel_other d c _ (Ne.symm h)
    split
    next => exact hcleared
    next => rfl

theorem Device.leaveChannel_idle (hshape : d.channels[c].active = none ↔ d.channels[c].state = .empty)
    (hempty : d.channels[c].state = .empty → d.channels[c].latch = false) :
    ((d.leaveChannel c).channels[c]).latch = false ∧ ((d.leaveChannel c).channels[c]).state.inTransfer = false := by
  unfold Device.leaveChannel
  split
  next ht =>
    obtain ⟨a, ha⟩ := Option.ne_none_iff_exists'.mp fun hnone => absurd ht (by rw [hshape.mp hnone]; decide)
    exact (Device.endTransfer_idle (o := .left) (by decide) none ha).1
  next ht =>
    have hidle := Bool.eq_false_iff.mpr ht
    split
    next hs =>
      rw [show ((d.updChannel c fun ch => { ch with latch := false }).post (.startMissed c .latch)).channels[c] =
        { d.channels[c] with latch := false } from Device.updChannel_same d c fun ch => { ch with latch := false }]
      exact ⟨rfl, hidle⟩
    next hs =>
      refine ⟨?_, hidle⟩
      rcases ChannelState.not_inTransfer.mp hidle with hstate | hstate
      · exact hempty hstate
      · exact Bool.eq_false_iff.mpr fun hl => hs ⟨hstate, hl⟩

/-- R26 step 1: after it no channel has a transfer or a latch. -/
theorem Device.leaveChannels_idle (hshape : ∀ c : ChannelNo, d.channels[c].active = none ↔ d.channels[c].state = .empty)
    (hempty : ∀ c : ChannelNo, d.channels[c].state = .empty → d.channels[c].latch = false) (c : ChannelNo) :
    ((eight.foldl Device.leaveChannel d).channels[c]).latch = false ∧
      ((eight.foldl Device.leaveChannel d).channels[c]).state.inTransfer = false := by
  obtain ⟨e, -, hsame, hfold⟩ :=
    foldl_eight_channel Device.leaveChannel_other (fun _ => True) (fun _ _ _ => trivial) (d := d) trivial c
  rw [hfold]
  exact Device.leaveChannel_idle (hsame ▸ hshape c) (hsame ▸ hempty c)

theorem Device.startLeaving_idle (hshape : ∀ c : ChannelNo, d.channels[c].active = none ↔ d.channels[c].state = .empty)
    (hempty : ∀ c : ChannelNo, d.channels[c].state = .empty → d.channels[c].latch = false) (c : ChannelNo) :
    (d.startLeaving.channels[c]).latch = false ∧ (d.startLeaving.channels[c]).state.inTransfer = false := by
  have hchannels : d.startLeaving.channels = (eight.foldl Device.leaveChannel
      (d.endJoining.updControl fun c => { c with state := .leaving })).channels := by simp [Device.startLeaving]
  have hkept : (d.endJoining.updControl fun c => { c with state := .leaving }).channels = d.channels := by simp
  rw [hchannels]
  exact Device.leaveChannels_idle (fun c => by rw [hkept]; exact hshape c) (fun c => by rw [hkept]; exact hempty c) c

/-! ### JOINED (R52) -/

/-- R52, at one channel. -/
def Device.releaseLatch (d : Device) (c : ChannelNo) : Device :=
  if d.channels[c].state = .ready ∧ d.channels[c].latch = true then d.beginTransfer c else d

theorem Device.releaseLatches_eq (d : Device) : d.releaseLatches = eight.foldl Device.releaseLatch d := rfl

theorem Device.releaseLatch_other (d : Device) (c b : ChannelNo) (h : b ≠ c) : (d.releaseLatch c).channels[b] = d.channels[b] := by
  unfold Device.releaseLatch
  split
  next => exact Device.beginTransfer_other h
  next => rfl

theorem Device.releaseLatches_suits (hs : d.control.state = .joined)
    (hshape : ∀ c : ChannelNo, d.channels[c].active = none ↔ d.channels[c].state = .empty)
    (hempty : ∀ c : ChannelNo, d.channels[c].state = .empty → d.channels[c].latch = false) : d.releaseLatches.channelsSuit := by
  intro c
  have hmoving := StationControl.not_still_of_joined hs
  obtain ⟨e, -, hsame, hfold⟩ :=
    foldl_eight_channel Device.releaseLatch_other (fun _ => True) (fun _ _ _ => trivial) (d := d) trivial c
  rw [show d.releaseLatches.control = d.control by simp, Device.releaseLatches_eq, hfold]
  unfold Device.releaseLatch
  split
  next h =>
    obtain ⟨a, ha⟩ := Option.ne_none_iff_exists'.mp fun hnone => absurd h.1 (by
      rw [hsame, (hshape c).mp (hsame ▸ hnone)]
      decide)
    exact Channel.suits_of_moving hmoving (Device.beginTransfer_same ha).2
  next h =>
    rw [hsame] at h ⊢
    exact ⟨fun hoff => absurd (Or.inl hoff) hmoving, fun hs => absurd hs hmoving,
      fun _ hr => Bool.eq_false_iff.mpr fun hl => h ⟨hr, hl⟩, hempty c⟩

theorem Channel.suits.of_control {c c' : StationControl} {ch : Channel} (h : ch.suits c) (hs : c'.state = c.state)
    (ho : c'.owed = c.owed) : ch.suits c' := by
  have hoff : c'.offSpan ↔ c.offSpan := by rw [StationControl.offSpan, StationControl.offSpan, hs, ho]
  have hstill : c'.still ↔ c.still := by rw [StationControl.still, StationControl.still, hoff, hs]
  exact ⟨fun h' => h.off (hoff.mp h'), fun h' => h.still (hstill.mp h'), fun h' => h.ready (hs ▸ h'), h.empty⟩

theorem Device.channelsSuit.of_keeps (hd : d.channelsSuit) (hs : e.control.state = d.control.state)
    (ho : e.control.owed = d.control.owed) (hc : e.channels = d.channels) : e.channelsSuit := fun c => by
  rw [hc]
  exact (hd c).of_control hs ho

theorem Device.becomeJoined_suits (hshape : ∀ c : ChannelNo, d.channels[c].active = none ↔ d.channels[c].state = .empty)
    (hempty : ∀ c : ChannelNo, d.channels[c].state = .empty → d.channels[c].latch = false) : d.becomeJoined.channelsSuit := by
  obtain ⟨e, he⟩ : ∃ e, (d.updControl fun c => { c with state := .joined }).releaseLatches = e := ⟨_, rfl⟩
  have hreleased : e.channelsSuit :=
    he ▸ Device.releaseLatches_suits (d := d.updControl fun c => { c with state := .joined }) rfl hshape hempty
  simp only [Device.becomeJoined, he]
  exact hreleased.of_keeps (by simp) (by simp) (by simp)

/-! ### Every event -/

/-- Off the span every channel is idle, so it suits any station state. -/
theorem Device.channelsSuit.moved (hd : d.channelsSuit) (hoff : d.control.offSpan) (hc : e.channels = d.channels) :
    e.channelsSuit := fun c => by
  rw [hc]
  exact Channel.suits_of_idle _ ((hd c).off hoff) ((hd c).still (.inl hoff))

/-- In a leaving that owes a reset nothing but the latch of an EMPTY channel is bound. -/
theorem Device.channelsSuit.owing (hd : d.channelsSuit) (hs : e.control.state = .leaving) (ho : e.control.owed = true)
    (hc : e.channels = d.channels) : e.channelsSuit := fun c => by
  have hmoving : ¬e.control.still := by simp [StationControl.still, StationControl.offSpan, hs, ho]
  rw [hc]
  exact ⟨fun hoff => absurd (Or.inl hoff) hmoving, fun hs => absurd hs hmoving, fun hj => by simp [hs] at hj, (hd c).empty⟩

theorem Device.softReset_suits (d : Device) : d.softReset.channelsSuit := fun c => by
  rw [Device.softReset_channel]
  exact Channel.suits_of_idle _ rfl rfl

theorem Device.Turns.channelsSuit (h : d.Turns e) (hleave : d.leaveOk)
    (hshape : ∀ c : ChannelNo, d.channels[c].active = none ↔ d.channels[c].state = .empty) (hd : d.channelsSuit) :
    e.channelsSuit := by
  cases h with
  | join h => exact hd.moved (.inl h) (by simp)
  | leave h =>
    intro c
    obtain ⟨hlatch, hidle⟩ := Device.startLeaving_idle hshape (fun c => (hd c).empty) c
    exact Channel.suits_of_idle _ hlatch hidle
  | reset =>
    rcases hs : d.control.state
    case config =>
      simp only [Device.resetStation, hs]
      exact d.softReset_suits
    case leaving =>
      have hcontrol := d.takeResetLeaving_control
      simp only [Device.resetStation, hs]
      exact hd.owing (by rw [hcontrol]; exact hs) (by rw [hcontrol]) (by simp)
    all_goals
      obtain ⟨ho, hleaving⟩ := d.takeReset_control
      simp only [Device.resetStation, hs]
      exact hd.owing hleaving ho (by simp)
  | request r h => exact hd.of_keeps (by simp) (by simp) (by simp)
  | line level => exact hd.of_keeps (by simp) (by simp) (by simp)
  | joinSent h =>
    have hfreed : d.freeLane.channelsSuit := hd
    unfold Device.countJoin
    split
    · dsimp only
      split
      · exact hfreed.of_keeps rfl rfl rfl
      · exact Device.becomeJoined_suits (d := d.freeLane.updControl fun c => { c with joinCount := c.joinCount + 1 })
          hshape fun c => (hd c).empty
    · exact hfreed
  | leaveSent h ho =>
    obtain ⟨hstate, -⟩ := hleave
    exact hd.moved (.inr ⟨hstate (.inr (Device.leaveOnLane_of_onLane h)), ho⟩) (by simp [Device.freeLane])
  | resetSent h ho => exact d.softReset_suits
  | sent hj hl => exact hd
  | spacing h => exact hd.of_keeps (by simp) (by simp) (by simp)
  | repeatTimer h => exact hd.of_keeps (by simp) (by simp) (by simp)

theorem Device.channelsSuit.peers (hd : d.channelsSuit) (x : Station) (p : Presence) (t : Timer) :
    (d.setPeer x p t).channelsSuit := hd.of_keeps rfl rfl rfl

theorem Device.channelsSuit.notePeer (hd : d.channelsSuit) (x : Station) : (d.notePeer x).channelsSuit := by
  have hcontrol := d.notePeer_control x
  exact hd.of_keeps (by rw [hcontrol]) (by rw [hcontrol]) (by simp)

theorem Device.Handles.channelsSuit {x : Station} (h : d.Handles x e) (hd : d.channelsSuit) : e.channelsSuit := by
  cases h with
  | wait c g => exact hd.goesOn (d.handleWait_goesOn x c g)
  | grant c g h => exact hd.goesOn (d.handleGrant_goesOn x c g _ _)
  | refuse c g reason => exact hd.handleRefuse x c g reason
  | receipt c g final h => exact hd.handleReceipt x c g _ _ final
  | pause c g h => exact hd.goesOn (d.handlePause_goesOn x c g _)
  | signal n a => exact hd.handleSignal x n a
  | _ => exact hd.of_keeps (by simp) (by simp) (by simp)

theorem Device.channelsSuit.handleJoin (hd : d.channelsSuit) (x : Station) : (d.handleJoin x).channelsSuit := by
  unfold Device.handleJoin
  split
  next => exact hd.notePeer x
  next => exact hd.peers x _ _
  next => exact ((hd.post _).teardown x _ _).peers x _ _
  next => exact hd

theorem Device.channelsSuit.handleLeave (hd : d.channelsSuit) (x : Station) : (d.handleLeave x).channelsSuit := by
  unfold Device.handleLeave
  split
  next => exact ((hd.post _).teardown x _ _).peers x _ _
  all_goals exact hd

theorem Device.fillBuffer_goesOn (d : Device) (r : ReadRequest) (data : List Byte) : d.goesOn (d.fillBuffer r data) :=
  Device.goesOn_updChannel (f := fun ch => { ch with buffers := ch.buffers.set r.buffer (.holding r.block data) })
    (Channel.goesOn_of_same rfl rfl)

/-- R140: the read in flight is for a channel in a transfer. -/
theorem Device.fetchOk.inTransfer (h : d.fetchOk) {r : ReadRequest} (hr : d.port.access = some (.read r false)) :
    d.channels[r.channel].state.inTransfer = true := by
  obtain ⟨hempty, -, -, hfetching, -⟩ := h
  have hlive : r ∈ d.port.reads ++ d.port.liveRead := List.mem_append_right _ (by simp [MemoryPort.liveRead, hr])
  have hbuffer := hfetching r hlive
  by_cases hs : d.channels[r.channel].state = .streaming
  · rw [hs]
    rfl
  · by_cases hd : d.channels[r.channel].state = .draining
    · rw [hd]
      rfl
    · exact absurd (hbuffer.symm.trans (hempty r.channel r.buffer hs hd)) nofun

theorem Device.Works.channelsSuit (h : d.Works e) (hleave : d.leaveOk)
    (hshape : ∀ c : ChannelNo, d.channels[c].active = none ↔ d.channels[c].state = .empty) (hfetch : d.fetchOk)
    (hd : d.channelsSuit) : e.channelsSuit := by
  have hturn : d.Turns e → e.channelsSuit := fun h => h.channelsSuit hleave hshape hd
  cases h with
  | join h => exact hturn (.join h)
  | leave h => exact hturn (.leave h)
  | reset => exact hturn .reset
  | start h => exact hd.tryStart h
  | stop hs h => exact hd.endTransfer h _ _
  | signal dest e a hs h => exact hd.of_keeps (by simp) (by simp) (by simp)
  | request r h => exact hturn (.request r h)
  | line level => exact hturn (.line level)
  | edge line => exact hd.lineStarts line
  | frame hr hx h => exact h.channelsSuit (hd.notePeer _)
  | joinFrame hr hx => exact hd.handleJoin _
  | leaveFrame hr hx => exact hd.handleLeave _
  | joinSent h => exact hturn (.joinSent h)
  | leaveSent h ho => exact hturn (.leaveSent h ho)
  | resetSent h ho => exact hturn (.resetSent h ho)
  | sent hj hl => exact hturn (.sent hj hl)
  | spacing h => exact hturn (.spacing h)
  | offerTimer h => exact hd.resendOffer h
  | streamTimer h => exact hd.streamExpiry (by rcases h with h | h <;> rw [h] <;> rfl)
  | queueTimer h => exact hd.endTransfer (by rw [h]; rfl) _ _
  | pauseTimer h => exact hd.endTransfer (by rw [h]; rfl) _ _
  | repeatTimer h => exact hturn (.repeatTimer h)
  | readFilled data h =>
    exact Device.channelsSuit.goesOn (d := d.freePort) hd (Device.fillBuffer_goesOn _ _ data)
  | readDropped h => exact hd
  | readFailed h => exact Device.channelsSuit.endTransfer (d := d.freePort) hd (hfetch.inTransfer h) _ _
  | written ha hw => exact Device.channelsSuit.writeDone (d := d.popWrite) hd _
  | writeFailed ha hw => exact hd.of_keeps (by simp [Device.popWrite, Device.freePort]) (by simp [Device.popWrite, Device.freePort]) (by simp [Device.popWrite, Device.freePort])
  | _ => exact hd.of_keeps (by simp) (by simp) (by simp)

theorem Channel.suits.load {c : StationControl} {ch : Channel} (h : ch.suits c) (a : Descriptor) : (ch.load a).suits c := by
  unfold Channel.load
  split
  next hs => exact Channel.suits_of_idle c (h.empty hs) rfl
  next hs => exact ⟨h.off, fun _ => rfl, fun hj _ => h.ready hj hs, nofun⟩
  all_goals exact h.goesOn (Channel.goesOn_of_same rfl rfl)

theorem Channel.suits.stopIdle {c : StationControl} {ch : Channel} (h : ch.suits c) :
    ch.stopIdle.suits c := by
  unfold Channel.stopIdle
  split
  next => exact Channel.suits_of_idle c rfl ch.promote_cases.2.1
  all_goals exact h

theorem Device.Writes.channelsSuit (h : d.Writes e) (hd : d.channelsSuit) : e.channelsSuit := by
  cases h with
  | nothing => exact hd
  | load c h => exact hd.one rfl (fun b hb => Device.updChannel_other d c _ (Ne.symm hb)) (by
      rw [Device.updChannel_same d c]
      exact (hd c).load _)
  | stopIdle c h => exact hd.one rfl (fun b hb => Device.updChannel_other d c _ (Ne.symm hb)) (by
      rw [Device.updChannel_same d c]
      exact (hd c).stopIdle)
  | clear c h => exact hd.one rfl (fun b hb => Device.updChannel_other d c _ (Ne.symm hb)) (by
      rw [Device.updChannel_same d c]
      exact Channel.suits_of_idle _ rfl rfl)
  | closeWindow x => exact hd.peers x _ _
  | _ => exact hd.of_keeps (by simp) (by simp) (by simp)

end

end Sys2Proof.Machine

/-! The halt set, own holding and their timers agree with the station state (R160 to R163, R169). -/

namespace Sys2Proof.Machine

/-- R160 to R163: own membership, the repeat timer and the lapse timers. -/
structure HaltUnit.steady (h : HaltUnit) (own : Station) : Prop where
  member : h.members[own] = h.holding
  repeats : h.repeatTimer.isSome = h.holding
  ownLapse : h.lapse[own] = none
  lapses : ∀ x : Station, x ≠ own → h.lapse[x].isSome = h.members[x]

/-- R161 to R163: holding follows the requests in JOINED, and no command request stands in another state. -/
structure HaltUnit.agrees (h : HaltUnit) (own : Station) (state : StationState) : Prop where
  steady : h.steady own
  holds : h.holding = (decide (state = .joined) && (h.line || h.request))
  request : h.request = true → state = .joined

/-- R160 to R163 of a block, with the HALT that is due. -/
structure Device.haltAgrees (d : Device) : Prop where
  halt : d.halt.agrees d.control.number d.control.state
  due : d.span.haltDue = true → d.halt.holding = true

theorem Device.haltOk_iff {d : Device} : d.haltOk ↔ d.leaveOk ∧ d.haltAgrees := by
  constructor
  · rintro ⟨hleave, hholds, hown, hrepeats, hlapse, hlapses, hrequest, hdue⟩
    exact ⟨hleave, ⟨⟨⟨hown, hrepeats, hlapse, hlapses⟩, hholds, hrequest⟩, hdue⟩⟩
  · rintro ⟨hleave, ⟨⟨⟨hown, hrepeats, hlapse, hlapses⟩, hholds, hrequest⟩, hdue⟩⟩
    exact ⟨hleave, hholds, hown, hrepeats, hlapse, hlapses, hrequest, hdue⟩

section
variable {h : HaltUnit} {own x : Station} {state state' : StationState}

theorem Vector.set_of_ne {α : Type} {n : Nat} {v : Vector α n} {i j : Fin n} (hne : i ≠ j) (a : α) : (v.set i a)[j] = v[j] :=
  Vector.getElem_set_ne i.isLt j.isLt fun heq => hne (Fin.ext heq)

theorem Vector.set_of_eq {α : Type} {n : Nat} {v : Vector α n} (i : Fin n) (a : α) : (v.set i a)[i] = a :=
  Vector.getElem_set_self i.isLt

/-! ### The Halt Unit's changes -/

/-- R160: a peer enters or leaves the halt set with its lapse timer. -/
theorem HaltUnit.steady.peer (hs : h.steady own) (hx : x ≠ own) (m : Bool) (t : Timer) (ht : t.isSome = m) :
    ({ h with members := h.members.set x m, lapse := h.lapse.set x t } : HaltUnit).steady own where
  member := (Vector.set_of_ne hx m).trans hs.member
  repeats := hs.repeats
  ownLapse := (Vector.set_of_ne hx t).trans hs.ownLapse
  lapses y hy := by
    by_cases hxy : x = y
    · subst hxy
      rw [Vector.set_of_eq, Vector.set_of_eq]
      exact ht
    · rw [Vector.set_of_ne hxy, Vector.set_of_ne hxy]
      exact hs.lapses y hy

theorem HaltUnit.agrees.peer (ha : h.agrees own state) (hx : x ≠ own) (m : Bool) (t : Timer) (ht : t.isSome = m) :
    ({ h with members := h.members.set x m, lapse := h.lapse.set x t } : HaltUnit).agrees own state :=
  ⟨ha.steady.peer hx m t ht, ha.holds, ha.request⟩

/-- R162: own holding begins. -/
theorem HaltUnit.steady.begun (hs : h.steady own) :
    ({ h with members := h.members.set own true, holding := true, repeatTimer := some Config.haltRepeat } : HaltUnit).steady own where
  member := Vector.set_of_eq own true
  repeats := rfl
  ownLapse := hs.ownLapse
  lapses y hy := by
    rw [Vector.set_of_ne (Ne.symm hy)]
    exact hs.lapses y hy

/-- R163: own holding ends. -/
theorem HaltUnit.steady.ended (hs : h.steady own) :
    ({ h with members := h.members.set own false, lapse := h.lapse.set own none, holding := false, repeatTimer := none }
      : HaltUnit).steady own where
  member := Vector.set_of_eq own false
  repeats := rfl
  ownLapse := Vector.set_of_eq own none
  lapses y hy := by
    rw [Vector.set_of_ne (Ne.symm hy), Vector.set_of_ne (Ne.symm hy)]
    exact hs.lapses y hy

theorem HaltUnit.agrees.elsewhere (ha : h.agrees own state) (hs : state ≠ .joined) :
    h.holding = false ∧ h.request = false := by
  refine ⟨by simpa [hs] using ha.holds, Bool.eq_false_iff.mpr fun hr => hs (ha.request hr)⟩

/-- Outside JOINED the station state does not matter. -/
theorem HaltUnit.agrees.moved (ha : h.agrees own state) (hs : state ≠ .joined) (hs' : state' ≠ .joined) :
    h.agrees own state' := by
  obtain ⟨hholding, hrequest⟩ := ha.elsewhere hs
  exact ⟨ha.steady, by simp [hholding, hs'], by simp [hrequest]⟩

theorem HaltUnit.steady.agrees_idle (hs : h.steady own) (hh : h.holding = false) (hr : h.request = false)
    (hstate : state ≠ .joined) : h.agrees own state := ⟨hs, by simp [hh, hstate], by simp [hr]⟩

theorem HaltUnit.powerOn_agrees (own : Station) (line : Bool) (hs : state ≠ .joined) :
    (HaltUnit.powerOn line).agrees own state := by
  refine HaltUnit.steady.agrees_idle ⟨?_, rfl, ?_, fun x _ => ?_⟩ rfl rfl hs
  all_goals simp [HaltUnit.powerOn]

end

section
variable {d e : Device} {x : Station}

/-! ### The operations -/

theorem Device.leaveHalt_halt (h : d.halt.agrees d.control.number d.control.state) (hx : x ≠ d.control.number) (cause : HaltCause) :
    (d.leaveHalt x cause).halt.agrees d.control.number d.control.state ∧ (d.leaveHalt x cause).halt.holding = d.halt.holding := by
  rcases hm : d.halt.members[x]
  · rw [Device.leaveHalt_of_not_member hm]
    exact ⟨h, rfl⟩
  · rw [Device.leaveHalt_of_member hm]
    exact ⟨h.peer hx false none rfl, rfl⟩

theorem Device.haltFrom_halt (h : d.halt.agrees d.control.number d.control.state) (hx : x ≠ d.control.number) :
    (d.haltFrom x).halt.agrees d.control.number d.control.state ∧ (d.haltFrom x).halt.holding = d.halt.holding := by
  have hpeer := h.peer hx true (some Config.haltLapse) rfl
  unfold Device.haltFrom
  dsimp only
  split
  next hm =>
    have hsame : d.halt.members.set x true = d.halt.members := by
      refine Vector.ext fun i hi => ?_
      by_cases hix : x.val = i
      · subst hix
        rw [Vector.getElem_set_self]
        exact hm.symm
      · rw [Vector.getElem_set_ne x.isLt hi hix]
    rw [hsame] at hpeer
    exact ⟨hpeer, rfl⟩
  next =>
    rw [Device.enterHalt_eq]
    exact ⟨hpeer, rfl⟩

theorem Device.beginHold_halt (d : Device) :
    d.beginHold.halt =
      { d.halt with members := d.halt.members.set d.control.number true, holding := true, repeatTimer := some Config.haltRepeat } := by
  simp [Device.beginHold, Device.enterHalt_eq]

theorem Device.endHold_halt (hm : d.halt.members[d.control.number] = true) (cause : HaltCause) :
    (d.endHold cause).halt =
      { d.halt with members := d.halt.members.set d.control.number false, lapse := d.halt.lapse.set d.control.number none,
                    holding := false, repeatTimer := none } := by
  simp only [Device.endHold, Device.leaveHalt_of_member hm, Device.updHalt_halt, Device.makeResumeDue_keeps]

theorem Device.endHold_due (ho : d.control.owed = false) (cause : HaltCause) : (d.endHold cause).span.haltDue = false := by
  simp [Device.endHold, Device.makeResumeDue_eq, ho]

/-- R161: after the requests have been followed. -/
theorem Device.updateHold_agrees (hs : d.halt.steady d.control.number) (hr : d.halt.request = true → d.control.state = .joined)
    (hdue : d.span.haltDue = true → d.halt.holding = true) (ho : d.halt.holding = true → d.control.owed = false) :
    d.updateHold.haltAgrees := by
  have hwants : ∀ {h : HaltUnit}, h.line = d.halt.line → h.request = d.halt.request → h.holding = d.wantsHold →
      h.steady d.control.number → h.agrees d.control.number d.control.state := fun hl hq hh hs =>
    ⟨hs, by rw [hh, hl, hq]; rfl, hq ▸ hr⟩
  rcases hw : d.wantsHold <;> rcases hh : d.halt.holding
  · rw [Device.updateHold_same (hw.trans hh.symm)]
    exact ⟨hwants rfl rfl (hh.trans hw.symm) hs, hdue⟩
  · have hm : d.halt.members[d.control.number] = true := hs.member.trans hh
    have heq : d.updateHold = d.endHold .release := by simp [Device.updateHold, hw, hh]
    refine ⟨?_, fun h => ?_⟩
    · rw [heq, Device.endHold_halt hm, show (d.endHold .release).control = d.control by simp]
      exact hwants rfl rfl hw.symm hs.ended
    · rw [heq, Device.endHold_due (ho hh)] at h
      cases h
  · have heq : d.updateHold = d.beginHold := by simp [Device.updateHold, hw, hh]
    refine ⟨?_, fun _ => ?_⟩
    · rw [heq, Device.beginHold_halt, show d.beginHold.control = d.control by simp]
      exact hwants rfl rfl hw.symm hs.begun
    · rw [heq, Device.beginHold_halt]
  · rw [Device.updateHold_same (hw.trans hh.symm)]
    exact ⟨hwants rfl rfl (hh.trans hw.symm) hs, hdue⟩

/-- R26 step 3, R169: after own holding and the command request are gone. -/
theorem Device.leaveHold_agrees (hs : d.halt.steady d.control.number) (hstate : d.control.state ≠ .joined)
    (hdue : d.span.haltDue = true → d.halt.holding = true) (ho : d.control.owed = true → d.span.haltDue = false) :
    d.leaveHold.haltAgrees := by
  have hcontrol : d.leaveHold.control = d.control := by simp
  have hdropped : ({ d.halt with request := false } : HaltUnit).steady d.control.number :=
    ⟨hs.member, hs.repeats, hs.ownLapse, hs.lapses⟩
  unfold Device.leaveHold at hcontrol ⊢
  dsimp only at hcontrol ⊢
  split at hcontrol
  next hh =>
    have hm : (d.updHalt fun h => { h with request := false }).halt.members[
        (d.updHalt fun h => { h with request := false }).control.number] = true := hs.member.trans hh
    rw [if_pos hh]
    refine ⟨?_, fun h => ?_⟩
    · rw [Device.endHold_halt hm, hcontrol]
      exact HaltUnit.steady.agrees_idle hdropped.ended rfl rfl hstate
    · rcases howed : d.control.owed
      · rw [Device.endHold_due (d := d.updHalt fun h => { h with request := false }) howed] at h
        cases h
      · have hfalse := ho howed
        simp [Device.endHold, Device.makeResumeDue_eq, howed, hfalse] at h
  next hh =>
    rw [if_neg hh]
    exact ⟨HaltUnit.steady.agrees_idle hdropped (Bool.eq_false_iff.mpr hh) rfl hstate, hdue⟩

/-! ### Every event -/

theorem Device.teardown_halt (h : d.halt.agrees d.control.number d.control.state) (hx : x ≠ d.control.number) (o : TransferOutcome)
    (ending : Ending) :
    (d.teardown x o ending).halt.agrees d.control.number d.control.state ∧
      (d.teardown x o ending).halt.holding = d.halt.holding := by
  obtain ⟨e, he⟩ : ∃ e, (d.tearChannels x o).tearLandings x ending = e := ⟨_, rfl⟩
  have hhalt : e.halt = d.halt := by rw [← he]; simp
  have hcontrol : e.control = d.control := by rw [← he]; simp
  have hkept : (d.teardown x o ending).halt = (e.leaveHalt x .teardown).halt := by simp [Device.teardown, he]
  have hleft := Device.leaveHalt_halt (d := e) (x := x) (by rw [hhalt, hcontrol]; exact h) (by rwa [hcontrol]) .teardown
  rwa [← hkept, hcontrol, hhalt] at hleft

theorem Device.Handles.halt_agrees (h : d.Handles x e) (hx : x ≠ d.control.number)
    (hd : d.halt.agrees d.control.number d.control.state) :
    e.halt.agrees d.control.number d.control.state ∧ e.halt.holding = d.halt.holding := by
  have hkept : e.halt = d.halt → e.halt.agrees d.control.number d.control.state ∧ e.halt.holding = d.halt.holding :=
    fun heq => by rw [heq]; exact ⟨hd, rfl⟩
  cases h with
  | halt => exact Device.haltFrom_halt hd hx
  | resume => exact Device.leaveHalt_halt hd hx _
  | _ => exact hkept (by simp)

theorem Device.handleJoin_halt (hx : x ≠ d.control.number) (hd : d.halt.agrees d.control.number d.control.state) :
    (d.handleJoin x).halt.agrees d.control.number d.control.state ∧ (d.handleJoin x).halt.holding = d.halt.holding := by
  unfold Device.handleJoin
  split
  next => simpa using hd
  next => exact ⟨hd, rfl⟩
  next => exact Device.teardown_halt (d := d.post (.peerChange x .restart)) hd hx .peerRestart .peerRestart
  next => exact ⟨hd, rfl⟩

theorem Device.handleLeave_halt (hx : x ≠ d.control.number) (hd : d.halt.agrees d.control.number d.control.state) :
    (d.handleLeave x).halt.agrees d.control.number d.control.state ∧ (d.handleLeave x).halt.holding = d.halt.holding := by
  unfold Device.handleLeave
  split
  next => exact Device.teardown_halt (d := d.post (.peerChange x .left)) hd hx .peerLeft .peerLeft
  all_goals exact ⟨hd, rfl⟩

end

end Sys2Proof.Machine

/-! The halt set (R160 to R163) and the JOIN transmissions (R23) stay in agreement through every event. -/

namespace Sys2Proof.Machine

section
variable {d e : Device} {x : Station}

/-! ### The halt set -/

theorem Device.haltAgrees.of_stays (h : d.stays e) (hd : d.haltAgrees)
    (hhalt : e.halt.agrees d.control.number d.control.state ∧ e.halt.holding = d.halt.holding) : e.haltAgrees := by
  obtain ⟨hagrees, hholding⟩ := hhalt
  refine ⟨by rw [h.control]; exact hagrees, fun hdue => ?_⟩
  rw [h.span] at hdue
  exact hholding ▸ hd.due hdue

theorem Device.haltAgrees.holding_joined (hd : d.haltAgrees) (h : d.halt.holding = true) : d.control.state = .joined := by
  by_contra hs
  rw [(hd.halt.elsewhere hs).1] at h
  cases h

theorem Device.softReset_haltAgrees (d : Device) : d.softReset.haltAgrees :=
  ⟨HaltUnit.powerOn_agrees _ _ nofun, nofun⟩

/-- R52: JOINED makes own holding follow the HALT line. -/
theorem Device.becomeJoined_haltAgrees (hd : d.haltAgrees) (ho : d.control.owed = false) :
    d.becomeJoined.haltAgrees := by
  obtain ⟨e, he⟩ : ∃ e, (d.updControl fun c => { c with state := .joined }).releaseLatches = e := ⟨_, rfl⟩
  have hhalt : e.halt = d.halt := by rw [← he]; simp
  have hcontrol : e.control = { d.control with state := .joined } := by rw [← he]; simp
  have hspan := (Device.releaseLatches_tells (d.updControl fun c => { c with state := .joined })).moves.frame
  rw [he] at hspan
  simp only [Device.becomeJoined, he]
  refine Device.updateHold_agrees ?_ (fun _ => by rw [hcontrol]) (fun hdue => ?_) (fun _ => by rw [hcontrol]; exact ho)
  · rw [hhalt, hcontrol]
    exact hd.halt.steady
  · rw [hspan] at hdue
    rw [hhalt]
    exact hd.due hdue

/-! ### The start of leaving (R26) -/

/-- R26 steps 1 and 2: every transfer and every landing has ended. -/
def Device.workEnded (d : Device) : Device :=
  (eight.foldl Device.leaveChannel (d.endJoining.updControl fun c => { c with state := .leaving })).leaveLandings

theorem Device.startLeaving_eq (d : Device) : d.startLeaving = d.workEnded.leaveHold := rfl

theorem Device.workEnded_control (hj : d.joinOk) :
    d.workEnded.control = { d.control with state := .leaving, spacing := none } := by
  obtain ⟨hcontrol, -⟩ := Device.leaveLandings_keeps (eight.foldl Device.leaveChannel
    (d.endJoining.updControl fun c => { c with state := .leaving }))
  refine hcontrol.trans ((foldl_keeps Device.control _ (by simp) _ _).trans ?_)
  rw [Device.endJoining_eq hj]
  rfl

theorem Device.workEnded_halt (d : Device) : d.workEnded.halt = d.halt := by
  obtain ⟨-, -, -, hhalt⟩ := Device.leaveLandings_keeps (eight.foldl Device.leaveChannel
    (d.endJoining.updControl fun c => { c with state := .leaving }))
  exact hhalt.trans ((foldl_keeps Device.halt _ (by simp) _ _).trans (by simp))

theorem Device.workEnded_span (hj : d.joinOk) :
    d.workEnded.span =
      { d.span with joinDue := false, replies := d.workEnded.span.replies, initiation := d.workEnded.span.initiation } := by
  obtain ⟨f, hf⟩ : ∃ f, (d.endJoining.updControl fun c => { c with state := .leaving }) = f := ⟨_, rfl⟩
  obtain ⟨g, hg⟩ : ∃ g, eight.foldl Device.leaveChannel f = g := ⟨_, rfl⟩
  have hended : d.workEnded = g.leaveLandings := by rw [← hg, ← hf]; rfl
  have hleft : f.span = { d.span with joinDue := false } := by rw [← hf, Device.endJoining_eq hj]; rfl
  have hchannels := (Device.foldl_tells (f := Device.leaveChannel) Device.leaveChannel_tells eight f).moves.frame
  rw [hg, hleft] at hchannels
  have hlandings := g.leaveLandings_tells.moves.frame
  rw [← hended] at hlandings
  rw [hlandings, hchannels]

theorem Device.startLeaving_haltAgrees (hj : d.joinOk) (ho : d.control.owed = false) (hd : d.haltAgrees) :
    d.startLeaving.haltAgrees := by
  have hcontrol := Device.workEnded_control hj
  have hhalt := d.workEnded_halt
  rw [Device.startLeaving_eq]
  refine Device.leaveHold_agrees ?_ (by rw [hcontrol]; nofun) (fun hdue => ?_) (fun howed => ?_)
  · rw [hcontrol, hhalt]
    exact hd.halt.steady
  · rw [Device.workEnded_span hj] at hdue
    rw [hhalt]
    exact hd.due hdue
  · rw [hcontrol] at howed
    exact absurd howed (by simp [ho])

theorem Device.takeReset_haltAgrees (hd : d.haltAgrees) : d.takeReset.haltAgrees := by
  obtain ⟨e, he⟩ : ∃ e, ((d.endJoining.updControl fun c => { c with state := .leaving, owed := true }).updSpan
      SpanInterface.clearForLeave) = e := ⟨_, rfl⟩
  have hhalt : e.halt = d.halt := by rw [← he]; simp
  have hnumber : e.control.number = d.control.number := by
    rw [← he]
    exact d.endJoining_holds.1
  have hdue : e.span.haltDue = false := by rw [← he]; rfl
  simp only [Device.takeReset, he]
  refine Device.leaveHold_agrees ?_ (by rw [← he]; nofun) (fun h => ?_) fun _ => hdue
  · rw [hhalt, hnumber]
    exact hd.halt.steady
  · rw [hdue] at h
    cases h

theorem Device.returnToConfig_halt (d : Device) :
    d.returnToConfig.halt = { d.halt with members := Vector.replicate 8 false, lapse := Vector.replicate 8 none } := by
  unfold Device.returnToConfig
  dsimp only
  split
  next => simp
  next => simp

theorem Device.returnToConfig_haltAgrees (hs : d.control.state = .leaving) (hd : d.haltAgrees) : d.returnToConfig.haltAgrees := by
  obtain ⟨hholding, hrequest⟩ := hd.halt.elsewhere (by rw [hs]; nofun)
  obtain ⟨-, hconfig⟩ := d.returnToConfig_control
  have hsteady := hd.halt.steady
  refine ⟨?_, fun hdue => ?_⟩
  · rw [d.returnToConfig_halt, hconfig]
    refine HaltUnit.steady.agrees_idle ⟨?_, hsteady.repeats, ?_, fun x _ => ?_⟩ hholding hrequest nofun
    · simpa using hholding.symm
    · simp
    · simp
  · have hspan : d.returnToConfig.span = d.span := by simp
    rw [hspan] at hdue
    rw [d.returnToConfig_halt]
    exact hd.due hdue

theorem Device.Turns.haltAgrees (h : d.Turns e) (hleave : d.leaveOk) (hj : d.joinOk) (hd : d.haltAgrees) : e.haltAgrees := by
  cases h with
  | join h =>
    refine ⟨?_, fun hdue => ?_⟩
    · simpa using hd.halt.moved (state' := .joining) (by rw [h]; nofun) nofun
    · rw [Device.makeJoinDue_eq (d := d.updControl fun c => { c with state := .joining, joinCount := 0 })
        (hleave.notOwed (by rw [h]; nofun))] at hdue
      simpa using hd.due hdue
  | leave h =>
    have hs := onSpan_iff.mp h
    exact Device.startLeaving_haltAgrees hj (hleave.notOwed (by rcases hs with hs | hs <;> rw [hs] <;> nofun)) hd
  | reset =>
    rcases hs : d.control.state
    case config =>
      simp only [Device.resetStation, hs]
      exact d.softReset_haltAgrees
    case leaving =>
      have hcontrol := d.takeResetLeaving_control
      have hhalt : d.takeResetLeaving.halt = d.halt := by simp
      simp only [Device.resetStation, hs]
      refine ⟨?_, ?_⟩
      · rw [hcontrol, hhalt]
        exact hd.halt
      · rw [hhalt]
        unfold Device.takeResetLeaving
        dsimp only
        split
        next => exact hd.due
        next =>
          split
          next => exact hd.due
          next => nofun
    all_goals
      simp only [Device.resetStation, hs]
      exact Device.takeReset_haltAgrees hd
  | request r h =>
    have hsteady := hd.halt.steady
    exact Device.updateHold_agrees (d := d.updHalt fun h => { h with request := r })
      ⟨hsteady.member, hsteady.repeats, hsteady.ownLapse, hsteady.lapses⟩ (fun _ => h) hd.due
      fun _ => hleave.notOwed (by rw [h]; nofun)
  | line level =>
    have hsteady := hd.halt.steady
    exact Device.updateHold_agrees (d := d.updHalt fun h => { h with line := level })
      ⟨hsteady.member, hsteady.repeats, hsteady.ownLapse, hsteady.lapses⟩ hd.halt.request hd.due
      fun hh => hleave.notOwed (by rw [hd.holding_joined hh]; nofun)
  | joinSent h =>
    have hfreed : d.freeLane.haltAgrees := ⟨hd.halt, hd.due⟩
    unfold Device.countJoin
    split
    next hs =>
      have ho : d.control.owed = false := hleave.notOwed (by rw [show d.control.state = _ from hs]; nofun)
      dsimp only
      split
      next => exact ⟨hd.halt, hd.due⟩
      next =>
        exact Device.becomeJoined_haltAgrees (d := d.freeLane.updControl fun c => { c with joinCount := c.joinCount + 1 })
          ⟨hd.halt, hd.due⟩ ho
    next => exact hfreed
  | leaveSent h ho =>
    obtain ⟨hstate, -⟩ := hleave
    exact Device.returnToConfig_haltAgrees (d := d.freeLane) (hstate (.inr (Device.leaveOnLane_of_onLane h))) ⟨hd.halt, hd.due⟩
  | resetSent h ho => exact d.softReset_haltAgrees
  | sent hj hl => exact ⟨hd.halt, hd.due⟩
  | spacing h =>
    obtain ⟨-, hjoining⟩ := hj
    have hs := hjoining (.inr h)
    refine ⟨by simpa using hd.halt, fun hdue => ?_⟩
    rw [Device.makeJoinDue_eq (d := d.updControl fun c => { c with spacing := none })
      (hleave.notOwed (by rw [hs]; nofun))] at hdue
    simpa using hd.due hdue
  | repeatTimer h =>
    have hsteady := hd.halt.steady
    have hholding : d.halt.holding = true := hsteady.repeats.symm.trans h
    refine ⟨⟨⟨?_, ?_, ?_, ?_⟩, ?_, ?_⟩, fun _ => ?_⟩
    · simpa using hsteady.member
    · simpa using hholding.symm
    · simpa using hsteady.ownLapse
    · simpa using hsteady.lapses
    · simpa using hd.halt.holds
    · simpa using hd.halt.request
    · simpa using hholding

theorem Device.Works.haltAgrees (h : d.Works e) (hleave : d.leaveOk) (hj : d.joinOk) (hd : d.haltAgrees) : e.haltAgrees := by
  rcases h.stays_or_turns with hstays | hturns
  · have hself : d.halt.agrees d.control.number d.control.state ∧ d.halt.holding = d.halt.holding := ⟨hd.halt, rfl⟩
    have hkept : e.halt = d.halt → e.haltAgrees := fun heq => hd.of_stays hstays (heq ▸ hself)
    have hturn : d.Turns e → e.haltAgrees := fun h => h.haltAgrees hleave hj hd
    cases h with
    | join h => exact hturn (.join h)
    | leave h => exact hturn (.leave h)
    | reset => exact hturn .reset
    | start h => exact hkept (Device.tryStart_keeps h).2.2.2.1
    | request r h => exact hturn (.request r h)
    | line level => exact hturn (.line level)
    | @frame x _ hr hx h =>
      have hcontrol := d.notePeer_control x
      have hnoted : (d.notePeer x).halt = d.halt := by simp
      refine hd.of_stays hstays ?_
      have hhandled := h.halt_agrees (by rw [hcontrol]; exact hx) (by rw [hnoted, hcontrol]; exact hd.halt)
      rwa [hcontrol, hnoted] at hhandled
    | joinFrame hr hx => exact hd.of_stays hstays (Device.handleJoin_halt hx hd.halt)
    | leaveFrame hr hx => exact hd.of_stays hstays (Device.handleLeave_halt hx hd.halt)
    | joinSent h => exact hturn (.joinSent h)
    | leaveSent h ho => exact hturn (.leaveSent h ho)
    | resetSent h ho => exact hturn (.resetSent h ho)
    | sent hj hl => exact hturn (.sent hj hl)
    | spacing h => exact hturn (.spacing h)
    | repeatTimer h => exact hturn (.repeatTimer h)
    | @lapseTimer x h =>
      have hx : x ≠ d.control.number := fun heq => by
        rw [heq, hd.halt.steady.ownLapse] at h
        cases h
      exact hd.of_stays hstays (Device.leaveHalt_halt hd.halt hx _)
    | _ => exact hkept (by simp [Device.popWrite, Device.freePort, Device.fillBuffer])
  · exact hturns.haltAgrees hleave hj hd

/-! ### The JOIN transmissions (R23) -/

/-- R23 of a span in this station state with this spacing timer. -/
def SpanInterface.joinsIn (s : SpanInterface) (state : StationState) (spacing : Timer) : Prop :=
  s.joinDue.toNat + s.joinOnLane.toNat + spacing.isSome.toNat ≤ 1 ∧
    (s.joinDue = true ∨ spacing.isSome = true → state = .joining)

theorem Device.joinOk_iff {d : Device} : d.joinOk ↔ d.span.joinsIn d.control.state d.control.spacing := .rfl

section
variable {s t : SpanInterface} {state : StationState} {spacing : Timer}

theorem SpanInterface.joinOnLane_congr (h : t.lane = s.lane) : t.joinOnLane = s.joinOnLane := by
  simp only [SpanInterface.joinOnLane, h]

theorem SpanInterface.joinOnLane_of_lane (h : s.lane = none) : s.joinOnLane = false := by simp [SpanInterface.joinOnLane, h]

theorem SpanInterface.joinsIn.of_same (h : s.joinsIn state spacing) (hl : t.lane = s.lane) (hj : t.joinDue = s.joinDue) :
    t.joinsIn state spacing := by
  rw [SpanInterface.joinsIn, SpanInterface.joinOnLane_congr hl, hj]
  exact h

theorem SpanInterface.joinsIn.none_of_other (h : s.joinsIn state spacing) (hs : state ≠ .joining) :
    s.joinDue = false ∧ spacing = none := by
  obtain ⟨-, hjoining⟩ := h
  exact ⟨Bool.eq_false_iff.mpr fun hj => hs (hjoining (.inl hj)), Option.not_isSome_iff_eq_none.mp fun hp => hs (hjoining (.inr hp))⟩

theorem SpanInterface.joinsIn_of_none (hj : s.joinDue = false) (hp : spacing = none) : s.joinsIn state spacing := by
  subst hp
  refine ⟨?_, by simp [hj]⟩
  rw [hj]
  cases s.joinOnLane <;> decide

theorem SpanInterface.joinsIn.freed (h : s.joinsIn state spacing) : ({ s with lane := none } : SpanInterface).joinsIn state spacing := by
  obtain ⟨hcount, hjoining⟩ := h
  refine ⟨?_, hjoining⟩
  rw [SpanInterface.joinOnLane_of_lane (s := { s with lane := none }) rfl]
  simp only [Bool.toNat_false]
  omega

theorem SpanInterface.joinsIn.sends {ready : Prop} (h : s.joinsIn state spacing) (ht : s.Sends ready t) :
    t.joinsIn state spacing := by
  obtain ⟨hcount, hjoining⟩ := h
  have hcarries : ∀ {u : SpanInterface} {f : Frame}, u.lane = some f → f.carries → u.joinDue = s.joinDue →
      u.joinsIn state spacing := fun {u f} hf hc hd => by
    have hlane : u.joinOnLane = false := by simp [SpanInterface.joinOnLane, hf, hc.1]
    refine ⟨?_, hd ▸ hjoining⟩
    rw [hlane, hd]
    simp only [Bool.toNat_false]
    omega
  cases ht with
  | nothing => exact ⟨hcount, hjoining⟩
  | join f hf hl hj =>
    have hlane : ({ s with joinDue := false, lane := some f } : SpanInterface).joinOnLane = true := by
      simp [SpanInterface.joinOnLane, hf]
    refine ⟨?_, fun hpending => hjoining (hpending.imp_left fun h => by cases h)⟩
    rw [hlane]
    rw [hj] at hcount
    simp only [Bool.toNat_true, Bool.toNat_false] at hcount ⊢
    omega
  | halt f hf hl hh => exact hcarries rfl hf rfl
  | resume f hf hl hr => exact hcarries rfl hf rfl
  | leave f hf hl hr hd =>
    have hlane : ({ s with leaveDue := false, lane := some f } : SpanInterface).joinOnLane = false := by
      simp [SpanInterface.joinOnLane, hf]
    refine ⟨?_, hjoining⟩
    rw [hlane]
    simp only [Bool.toNat_false]
    omega
  | other f r q hf hl hd hwork => exact hcarries rfl hf rfl

end

/-- The lane and the JOIN flag are as they were. -/
def Device.joinKept (d e : Device) : Prop := e.span.lane = d.span.lane ∧ e.span.joinDue = d.span.joinDue

theorem Device.joinKept.trans {g : Device} (h : d.joinKept e) (h' : e.joinKept g) : d.joinKept g :=
  ⟨h'.1.trans h.1, h'.2.trans h.2⟩

theorem Device.Tells.joinKept {p : Notice → Bool} (h : d.Tells p e) : d.joinKept e := by
  rw [Device.joinKept, h.moves.frame]
  exact ⟨rfl, rfl⟩

theorem Device.claimDue_joinKept {f : SpanInterface → SpanInterface} (hl : ∀ s, (f s).lane = s.lane)
    (hd : ∀ s, (f s).joinDue = s.joinDue) : d.joinKept (d.claimDue f) := by
  unfold Device.claimDue
  split
  next => exact ⟨rfl, rfl⟩
  next => exact ⟨hl _, hd _⟩

theorem Device.beginHold_joinKept (d : Device) : d.joinKept d.beginHold :=
  (d.enterHalt_tells _ _).joinKept.trans (Device.claimDue_joinKept (fun _ => rfl) fun _ => rfl)

theorem Device.endHold_joinKept (d : Device) (cause : HaltCause) : d.joinKept (d.endHold cause) :=
  (d.leaveHalt_tells _ _).joinKept.trans (Device.claimDue_joinKept (fun _ => rfl) fun _ => rfl)

theorem Device.updateHold_joinKept (d : Device) : d.joinKept d.updateHold := by
  unfold Device.updateHold
  split
  · split
    · exact ⟨rfl, rfl⟩
    · exact d.beginHold_joinKept
  · split
    · exact d.endHold_joinKept _
    · exact ⟨rfl, rfl⟩

theorem Device.leaveHold_joinKept (d : Device) : d.joinKept d.leaveHold := by
  unfold Device.leaveHold
  dsimp only
  split
  next => exact (show d.joinKept (d.updHalt fun h => { h with request := false }) from ⟨rfl, rfl⟩).trans (Device.endHold_joinKept _ _)
  next => exact ⟨rfl, rfl⟩

theorem Device.becomeJoined_joinKept (d : Device) : d.joinKept d.becomeJoined :=
  (Device.releaseLatches_tells (d.updControl fun c => { c with state := .joined })).joinKept.trans
    (Device.updateHold_joinKept _)

theorem Device.becomeJoined_control (d : Device) : d.becomeJoined.control = { d.control with state := .joined } := by
  simp [Device.becomeJoined]

theorem Device.returnToConfig_spacing (d : Device) : d.returnToConfig.control.spacing = d.control.spacing := by
  unfold Device.returnToConfig
  dsimp only
  split <;> simp

theorem Device.Turns.joinOk (h : d.Turns e) (hleave : d.leaveOk) (hidle : d.control.state = .config → d.span.lane = none)
    (hd : d.joinOk) : e.joinOk := by
  rw [Device.joinOk_iff] at hd ⊢
  have hnone : ∀ e : Device, e.span = SpanInterface.powerOn → e.control.spacing = none →
      e.span.joinsIn e.control.state e.control.spacing := fun e hs hp =>
    SpanInterface.joinsIn_of_none (by rw [hs]; rfl) hp
  cases h with
  | join h =>
    obtain ⟨hj, hp⟩ := hd.none_of_other (by rw [h]; nofun)
    rw [Device.makeJoinDue_eq (d := d.updControl fun c => { c with state := .joining, joinCount := 0 })
      (hleave.notOwed (by rw [h]; nofun))]
    have hlane : d.span.joinOnLane = false := SpanInterface.joinOnLane_of_lane (hidle h)
    refine ⟨?_, fun _ => rfl⟩
    simp only [SpanInterface.joinOnLane_congr (s := d.span) (t := { d.span with joinDue := true }) rfl,
      Device.updControl_span, Device.updControl_control, hlane, hp]
    decide
  | leave h =>
    have hspan := Device.workEnded_span hd
    have hcontrol := Device.workEnded_control hd
    obtain ⟨hl, hj⟩ := d.workEnded.leaveHold_joinKept
    rw [Device.startLeaving_eq]
    refine SpanInterface.joinsIn_of_none (hj.trans (by rw [hspan])) ?_
    rw [show d.workEnded.leaveHold.control = d.workEnded.control by simp, hcontrol]
  | reset =>
    rcases hs : d.control.state
    case config =>
      simp only [Device.resetStation, hs]
      exact hnone _ rfl rfl
    case leaving =>
      obtain ⟨hj, hp⟩ := hd.none_of_other (by rw [hs]; nofun)
      have hcontrol := d.takeResetLeaving_control
      simp only [Device.resetStation, hs]
      refine SpanInterface.joinsIn_of_none ?_ (by rw [hcontrol]; exact hp)
      unfold Device.takeResetLeaving
      dsimp only
      split
      next => exact hj
      next =>
        split
        next => exact hj
        next => rfl
    all_goals
      obtain ⟨e, he⟩ : ∃ e, ((d.endJoining.updControl fun c => { c with state := .leaving, owed := true }).updSpan
          SpanInterface.clearForLeave) = e := ⟨_, rfl⟩
      obtain ⟨-, hj⟩ := e.leaveHold_joinKept
      simp only [Device.resetStation, hs, Device.takeReset, he]
      refine SpanInterface.joinsIn_of_none (hj.trans (by rw [← he]; rfl)) ?_
      rw [show e.leaveHold.control = e.control by simp, ← he, Device.endJoining_eq hd]
      rfl
  | request r h =>
    obtain ⟨hl, hj⟩ := (d.updHalt fun h => { h with request := r }).updateHold_joinKept
    simpa using hd.of_same hl hj
  | line level =>
    obtain ⟨hl, hj⟩ := (d.updHalt fun h => { h with line := level }).updateHold_joinKept
    simpa using hd.of_same hl hj
  | joinSent h =>
    have hon : d.span.joinOnLane = true := by
      obtain ⟨f, hf, hbody⟩ := Option.map_eq_some_iff.mp h
      simp [SpanInterface.joinOnLane, hf, hbody]
    obtain ⟨hcount, hjoining⟩ := hd
    rw [hon] at hcount
    simp only [Bool.toNat_true] at hcount
    have hj : d.span.joinDue = false := by
      by_contra hj
      rw [Bool.not_eq_false] at hj
      rw [hj, Bool.toNat_true] at hcount
      omega
    have hp : d.control.spacing = none := by
      by_contra hp
      rw [Option.isSome_iff_ne_none.mpr hp, Bool.toNat_true] at hcount
      omega
    unfold Device.countJoin
    split
    next hs =>
      dsimp only
      split
      next =>
        refine ⟨?_, fun _ => hs⟩
        have hfree : d.freeLane.span.joinOnLane = false := SpanInterface.joinOnLane_of_lane rfl
        have hdue : d.freeLane.span.joinDue = false := hj
        show d.freeLane.span.joinDue.toNat + d.freeLane.span.joinOnLane.toNat + (some Config.joinSpacing : Timer).isSome.toNat ≤ 1
        rw [hfree, hdue]
        decide
      next =>
        obtain ⟨e, he⟩ : ∃ e, (d.freeLane.updControl fun c => { c with joinCount := c.joinCount + 1 }) = e := ⟨_, rfl⟩
        obtain ⟨-, hkept⟩ := e.becomeJoined_joinKept
        rw [he]
        refine SpanInterface.joinsIn_of_none (hkept.trans ?_) ?_
        · rw [← he]
          exact hj
        · rw [e.becomeJoined_control, ← he]
          exact hp
    next => exact SpanInterface.joinsIn_of_none hj hp
  | leaveSent h ho =>
    obtain ⟨hstate, -⟩ := hleave
    obtain ⟨hj, hp⟩ := hd.none_of_other (by rw [hstate (.inr (Device.leaveOnLane_of_onLane h))]; nofun)
    have hspan : d.freeLane.returnToConfig.span = d.freeLane.span := by simp
    exact SpanInterface.joinsIn_of_none (by rw [hspan]; exact hj) (d.freeLane.returnToConfig_spacing.trans hp)
  | resetSent h ho => exact hnone _ rfl rfl
  | sent hj hl => exact hd.freed
  | spacing h =>
    obtain ⟨hcount, hjoining⟩ := hd
    have hs := hjoining (.inr h)
    rw [h, Bool.toNat_true] at hcount
    rw [Device.makeJoinDue_eq (d := d.updControl fun c => { c with spacing := none }) (hleave.notOwed (by rw [hs]; nofun))]
    refine ⟨?_, fun _ => hs⟩
    show true.toNat + (SpanInterface.joinOnLane { d.span with joinDue := true }).toNat + (none : Timer).isSome.toNat ≤ 1
    rw [SpanInterface.joinOnLane_congr (s := d.span) (t := { d.span with joinDue := true }) rfl]
    simp only [Bool.toNat_true, Option.isSome_none, Bool.toNat_false]
    omega
  | repeatTimer h =>
    obtain ⟨hl, hj⟩ := Device.claimDue_joinKept (d := d)
      (f := fun s => { s with haltDue := true, resumeDue := false }) (fun _ => rfl) fun _ => rfl
    simpa [Device.makeHaltDue] using hd.of_same hl hj

end

end Sys2Proof.Machine

/-! In CONFIG and in LEAVING no event claims a frame: off the span there is nothing to claim one for, and while a soft reset is
owed claims are dropped (R18, R20, R26). -/

namespace Sys2Proof.Machine

section
variable {d e : Device} {c : ChannelNo}

/-- R13, R14: no reply and no initiation waits. -/
def SpanInterface.quiet (s : SpanInterface) : Prop := s.replies = [] ∧ s.initiation = []

/-- The event fills no queue that is empty. -/
def Device.quietKept (d e : Device) : Prop := d.span.quiet → e.span.quiet

theorem Device.quietKept_of_span (h : e.span = d.span) : d.quietKept e := by
  intro hq
  rw [h]
  exact hq

theorem Device.removeOffer_quietKept (d : Device) (c : ChannelNo) : d.quietKept (d.removeOffer c) := by
  rintro ⟨hr, hi⟩
  refine ⟨hr, ?_⟩
  show changeSlot c dropOffer d.span.initiation = []
  rw [hi]
  rfl

/-! ### Claims while a soft reset is owed (R18) -/

section
variable (ho : d.control.owed = true)
include ho

theorem Device.claimReply_owed (k : Key) (g : Generation) (r : ReplyKind) : d.claimReply k g r = d := if_pos ho

theorem Device.claimReceipt_owed (l : Landing) (final : Bool) : d.claimReceipt l final = d := by
  unfold Device.claimReceipt
  split <;> exact Device.claimReply_owed ho _ _ _

theorem Device.claimInitiation_owed (f : List InitEntry → List InitEntry) : d.claimInitiation f = d := if_pos ho

theorem Device.claimWithdraw_owed (c : ChannelNo) (w : Withdrawal) : d.claimWithdraw c w = d := by
  unfold Device.claimWithdraw
  split <;> exact Device.claimInitiation_owed ho _

theorem Device.closeTransfer_owed (a : Descriptor) (o : TransferOutcome) : d.quietKept (d.closeTransfer c a o) := by
  obtain ⟨e, he⟩ : ∃ e, d.stopMachinery c = e := ⟨_, rfl⟩
  have howed : e.control.owed = true := by rw [← he]; simpa [Device.stopMachinery] using ho
  have hspan : e.span = d.span := by rw [← he]; simp [Device.stopMachinery]
  have hremoved : d.quietKept (e.removeOffer c) := fun hq => e.removeOffer_quietKept c (Device.quietKept_of_span hspan hq)
  unfold Device.closeTransfer
  simp only [he]
  split
  next => rwa [Device.claimWithdraw_owed howed]
  next => exact hremoved

theorem Device.endTransfer_owed {o : TransferOutcome} (hne : o ≠ .done) (r : Option RefuseReason) :
    d.quietKept (d.endTransfer c o r) := by
  rcases ha : d.channels[c].active with _ | a
  · simp only [Device.endTransfer, ha]
    exact id
  · rw [Device.endTransfer_undone hne r ha]
    exact Device.closeTransfer_owed ho a o

theorem Device.resendOffer_owed : d.quietKept (d.resendOffer c) := by
  unfold Device.resendOffer
  split
  next a _ =>
    have hclaimed : d.claimOffer c a = d := Device.claimInitiation_owed ho _
    split
    next => rw [hclaimed]; exact id
    next => exact Device.endTransfer_owed ho (by decide) none
  next => exact id

theorem Device.streamExpiry_owed : d.quietKept (d.streamExpiry c) := by
  unfold Device.streamExpiry
  split
  next => exact Device.endTransfer_owed ho (by decide) none
  next =>
    refine Device.quietKept_of_span ?_
    unfold Device.goBackOrProbe Device.fallBack
    dsimp only
    (repeat' split) <;> simp

end

/-- The span and the station control are as they were, and a soft reset is owed. -/
def Device.mute (c : StationControl) (s : SpanInterface) (d : Device) : Prop :=
  d.control = c ∧ d.control.owed = true ∧ d.span = s

section
variable {ctl : StationControl} {s : SpanInterface}

theorem Device.mute.of_keeps (h : Device.mute ctl s d) (hc : e.control = d.control) (hs : e.span = d.span) : Device.mute ctl s e := by
  obtain ⟨hcontrol, howed, hspan⟩ := h
  exact ⟨hc.trans hcontrol, hc ▸ howed, hs.trans hspan⟩

theorem Device.mute.reply (h : Device.mute ctl s d) (k : Key) (g : Generation) (r : ReplyKind) :
    Device.mute ctl s (d.claimReply k g r) := by
  rw [Device.claimReply_owed h.2.1]
  exact h

theorem Device.mute.receipt (h : Device.mute ctl s d) (l : Landing) (final : Bool) : Device.mute ctl s (d.claimReceipt l final) := by
  rw [Device.claimReceipt_owed h.2.1]
  exact h

theorem muteRule (ctl : StationControl) (s : SpanInterface) : RunRule (Device.mute ctl s) where
  takes {d c} _ h := by
    cases c with
    | resume l => exact Device.mute.of_keeps (Device.mute.reply (d := d.updAdmission _) h _ _ _) rfl rfl
    | enter e => exact Device.mute.reply (d := (d.updAdmission _).updAdmission _) h _ _ _
  raises {d l} _ _ h := Device.mute.receipt (d := d.updAdmission _) h _ _

theorem Device.mute.expireWaiting (h : Device.mute ctl s d) (w : PendingEntry) : Device.mute ctl s (d.expireWaiting w) :=
  (Device.mute.reply (d := d.updAdmission _) h _ _ _).of_keeps rfl rfl

theorem Device.mute.landTimeout (h : Device.mute ctl s d) (l : Landing) : Device.mute ctl s (d.landTimeout l) :=
  (muteRule ctl s).runAndSweep ((h.reply _ _ _).of_keeps rfl rfl)

/-- R49: off the span a start is missed. -/
theorem Device.startOrMiss_away (hs : d.control.state = .config ∨ d.control.state = .leaving) (c : ChannelNo) (m : MissedCause) :
    d.startOrMiss c m = d.post (.startMissed c m) := by
  unfold Device.startOrMiss
  rw [Device.tryStart_offSpan hs]

theorem Device.applySignal_away (hs : d.control.state = .config ∨ d.control.state = .leaving) (x : Station) (cause : SignalCause)
    (n : EventNo) (a : BitVec 16) : (d.applySignal x cause n a).span = d.span ∧ (d.applySignal x cause n a).control = d.control := by
  refine ⟨?_, by simp⟩
  unfold Device.applySignal
  dsimp only
  split
  next => rw [Device.startOrMiss_away (by split <;> exact hs)]; split <;> rfl
  next => split <;> rfl

theorem Device.lineStarts_away (hs : d.control.state = .config ∨ d.control.state = .leaving) (line : LineNo) :
    (d.lineStarts line).span = d.span := by
  have hwalk := foldl_induction (P := fun e : Device => e.control = d.control ∧ e.span = d.span)
    (f := fun d c => if d.config.lines[c] = some line then d.startOrMiss c .line else d) (fun e c he => by
      split
      next =>
        rw [Device.startOrMiss_away (by rw [he.1]; exact hs)]
        exact he
      next => exact he) eight (b := d) ⟨rfl, rfl⟩
  exact hwalk.2

theorem Device.mute.completeLanding (h : Device.mute ctl s d) (hs : d.control.state = .leaving) (l : Landing) :
    Device.mute ctl s (d.completeLanding l) := by
  obtain ⟨e, he⟩ : ∃ e, ((d.removeRecord l.offer.key).updAdmission
      (·.addRecent { key := l.offer.key, generation := l.offer.generation, blocks := l.blocks })).post
      (l.offer.ended .landed l.offer.fields.length) = e := ⟨_, rfl⟩
  have hlanded : Device.mute ctl s e := he ▸ h
  have hstate : e.control.state = .leaving := by rw [← he]; simpa using hs
  simp only [Device.completeLanding, he]
  split
  next =>
    obtain ⟨hspan, hcontrol⟩ := Device.applySignal_away (d := e) (.inr hstate) _ _ _ _
    exact hlanded.of_keeps hcontrol hspan
  next => exact hlanded

theorem Device.mute.writeDone (h : Device.mute ctl s d) (hs : d.control.state = .leaving) (owner : Option Key) :
    Device.mute ctl s (d.writeDone owner) := by
  cases owner with
  | none => exact (muteRule ctl s).runAndSweep ((muteRule ctl s).distribute h)
  | some k =>
    refine (muteRule ctl s).runAndSweep ?_
    obtain ⟨e, he⟩ : ∃ e, (d.updAdmission fun a => a.updRecord k fun l => { l with written := l.written + 1 }) = e := ⟨_, rfl⟩
    have hstored : Device.mute ctl s e := he ▸ h
    have hplaced : Device.mute ctl s (e.placeFreed k) := by
      unfold Device.placeFreed
      split
      next =>
        split
        next => exact hstored
        next => exact (muteRule ctl s).distribute hstored
      next => exact (muteRule ctl s).distribute hstored
    have hstate : (e.placeFreed k).control.state = .leaving := by rw [← he]; simpa using hs
    simp only [he]
    unfold Device.reportWrite
    split
    next l _ =>
      dsimp only
      split
      next => exact (hplaced.receipt l _).completeLanding (by simpa using hstate) l
      next => exact hplaced.receipt l _
    next => exact hplaced

theorem Device.mute.writeFailed (h : Device.mute ctl s d) (owner : Option Key) : Device.mute ctl s (d.writeFailed owner) := by
  have hspread := (muteRule ctl s).runAndSweep ((muteRule ctl s).distribute h)
  cases owner with
  | none => exact hspread
  | some k =>
    unfold Device.writeFailed
    dsimp only
    split
    next l _ =>
      exact (muteRule ctl s).runAndSweep (Device.mute.of_keeps
        (Device.mute.reply (d := d.updPort fun p => { p with writes := p.writes.filter fun w => decide (w.owner ≠ some k) })
          h k l.offer.generation (.refuse .fault)) rfl rfl)
    all_goals exact hspread

end

/-! ### Away from the span -/

theorem StationControl.away_cases {ctl : StationControl} (h : ctl.state = .config ∨ ctl.state = .leaving) :
    ctl.offSpan ∨ ctl.state = .leaving ∧ ctl.owed = true := by
  rcases h with h | h
  · exact .inl (.inl h)
  · rcases ho : ctl.owed
    · exact .inl (.inr ⟨h, ho⟩)
    · exact .inr ⟨h, rfl⟩

theorem Device.Works.quiet_away (h : d.Works e) (hs : d.control.state = .config ∨ d.control.state = .leaving)
    (hclear : d.clearOffSpan) (hsuit : d.channelsSuit) (hfetch : d.fetchOk) : d.quietKept e ∨ d.Turns e := by
  have hdeaf : d.control.receiving = false := by rcases hs with hs | hs <;> simp [StationControl.receiving, hs]
  have hjoined : d.control.state ≠ .joined := by rcases hs with hs | hs <;> rw [hs] <;> nofun
  have hmoving : ∀ {c : ChannelNo}, d.channels[c].state.inTransfer = true → d.control.owed = true := fun {c} ht => by
    rcases StationControl.away_cases hs with hoff | ⟨-, ho⟩
    · exact absurd ht (by rw [(hsuit c).still (.inl hoff)]; decide)
    · exact ho
  have hkept : e.span = d.span → d.quietKept e ∨ d.Turns e := fun hspan => .inl (Device.quietKept_of_span hspan)
  have hmute : d.control.owed = true → Device.mute d.control d.span d := fun ho => ⟨rfl, ho, rfl⟩
  cases h with
  | join h => exact .inr (.join h)
  | leave h => exact .inr (.leave h)
  | reset => exact .inr .reset
  | start h => exact absurd h (by rw [Device.tryStart_offSpan hs]; nofun)
  | stop hn h => exact .inl (Device.endTransfer_owed (hmoving h) (by decide) none)
  | signal dest e a hs h => exact absurd hs hjoined
  | request r h => exact .inr (.request r h)
  | line level => exact .inr (.line level)
  | edge line => exact hkept (Device.lineStarts_away hs line)
  | frame hr hx h => exact absurd hr (by simp [hdeaf])
  | joinFrame hr hx => exact absurd hr (by simp [hdeaf])
  | leaveFrame hr hx => exact absurd hr (by simp [hdeaf])
  | joinSent h => exact .inr (.joinSent h)
  | leaveSent h ho => exact .inr (.leaveSent h ho)
  | resetSent h ho => exact .inr (.resetSent h ho)
  | sent hj hl => exact .inr (.sent hj hl)
  | spacing h => exact .inr (.spacing h)
  | offerTimer h => exact .inl (Device.resendOffer_owed (hmoving (by rw [h]; rfl)))
  | streamTimer h => exact .inl (Device.streamExpiry_owed (hmoving (by rcases h with h | h <;> rw [h] <;> rfl)))
  | queueTimer h => exact .inl (Device.endTransfer_owed (hmoving (by rw [h]; rfl)) (by decide) none)
  | pauseTimer h => exact .inl (Device.endTransfer_owed (hmoving (by rw [h]; rfl)) (by decide) none)
  | @lifetime w h =>
    rcases StationControl.away_cases hs with hoff | ⟨-, ho⟩
    · exact absurd ((hclear hoff).2.2.1 ▸ h) List.not_mem_nil
    · exact hkept ((hmute ho).expireWaiting w).2.2
  | @landingTimer l h =>
    rcases StationControl.away_cases hs with hoff | ⟨-, ho⟩
    · exact absurd ((hclear hoff).1 ▸ h) List.not_mem_nil
    · exact hkept ((hmute ho).landTimeout l).2.2
  | repeatTimer h => exact .inr (.repeatTimer h)
  | lapseTimer h => exact hkept (by simp)
  | readFilled data h => exact hkept rfl
  | readDropped h => exact hkept rfl
  | readFailed h =>
    exact .inl (Device.endTransfer_owed (d := d.freePort) (hmoving (hfetch.inTransfer h)) (by decide) none)
  | @written w ws ha hw =>
    rcases StationControl.away_cases hs with hoff | ⟨hl, ho⟩
    · exact hkept (by rw [Device.writeDone_clear (d := d.popWrite) (hclear hoff)]; rfl)
    · exact hkept (Device.mute.writeDone (d := d.popWrite) (hmute ho) hl w.owner).2.2
  | @writeFailed w ws ha hw =>
    rcases StationControl.away_cases hs with hoff | ⟨hl, ho⟩
    · exact hkept (by rw [Device.writeFailed_clear (d := d.popWrite) (hclear hoff)]; rfl)
    · exact hkept (Device.mute.writeFailed (d := d.popWrite) (hmute ho) w.owner).2.2

/-- Off the span the halt set stays empty. -/
theorem Device.Works.halted_away (h : d.Works e) (hs : d.control.state = .config) (hh : d.halted = false) :
    e.halted = false ∨ d.Turns e := by
  have hdeaf : d.control.receiving = false := by simp [StationControl.receiving, hs]
  have hkept : e.halt = d.halt → e.halted = false ∨ d.Turns e := fun heq => .inl (by rw [Device.halted, heq]; exact hh)
  cases h with
  | join h => exact .inr (.join h)
  | leave h => exact .inr (.leave h)
  | reset => exact .inr .reset
  | start h => exact hkept (Device.tryStart_keeps h).2.2.2.1
  | request r h => exact .inr (.request r h)
  | line level => exact .inr (.line level)
  | frame hr hx h => exact absurd hr (by simp [hdeaf])
  | joinFrame hr hx => exact absurd hr (by simp [hdeaf])
  | leaveFrame hr hx => exact absurd hr (by simp [hdeaf])
  | joinSent h => exact .inr (.joinSent h)
  | leaveSent h ho => exact .inr (.leaveSent h ho)
  | resetSent h ho => exact .inr (.resetSent h ho)
  | sent hj hl => exact .inr (.sent hj hl)
  | spacing h => exact .inr (.spacing h)
  | repeatTimer h => exact .inr (.repeatTimer h)
  | @lapseTimer x h =>
    have hm : d.halt.members[x] = false := by
      rw [Device.halted, HaltUnit.halted, List.any_eq_false] at hh
      exact Bool.eq_false_iff.mpr (hh _ (by simp))
    exact hkept (by rw [Device.leaveHalt_of_not_member hm])
  | _ => exact hkept (by simp [Device.popWrite, Device.freePort, Device.fillBuffer])

end

end Sys2Proof.Machine

/-! The own entry of the peer table alone reads SELF, after every event (R29). -/

namespace Sys2Proof.Machine

section
variable {d e : Device} {x : Station}

theorem StationControl.peersOk_of_same {c c' : StationControl} (h : c.peersOk) (hp : c'.peers = c.peers)
    (hn : c'.number = c.number) : c'.peersOk := by
  unfold StationControl.peersOk
  rw [hp, hn]
  exact h

theorem Device.peersOk_setPeer (h : d.control.peersOk) {p : Presence} (hp : p = .self ↔ x = d.control.number) (t : Timer) :
    (d.setPeer x p t).control.peersOk := by
  intro y
  show ((d.control.peers.set x { presence := p, window := t })[y]).presence = .self ↔ y = d.control.number
  by_cases hy : x = y
  · rw [← hy, Vector.set_of_eq]
    exact hp
  · rw [Vector.set_of_ne hy]
    exact h y

theorem Device.peersOk_setPeer_other (h : d.control.peersOk) (hx : x ≠ d.control.number) {p : Presence} (hp : p ≠ .self)
    (t : Timer) : (d.setPeer x p t).control.peersOk :=
  Device.peersOk_setPeer h ⟨fun heq => absurd heq hp, fun hn => absurd hn hx⟩ t

theorem Device.peersOk_notePeer (h : d.control.peersOk) (hx : x ≠ d.control.number) : (d.notePeer x).control.peersOk := by
  unfold Device.notePeer
  split
  next => exact Device.peersOk_setPeer_other (p := .present) h hx (by decide) _
  all_goals exact h

theorem Device.peersOk_handleJoin (h : d.control.peersOk) (hx : x ≠ d.control.number) : (d.handleJoin x).control.peersOk := by
  unfold Device.handleJoin
  split
  next => exact Device.peersOk_notePeer h hx
  next => exact Device.peersOk_setPeer_other (p := .present) h hx (by decide) _
  next =>
    have hkept : ((d.post (.peerChange x .restart)).teardown x .peerRestart .peerRestart).control = d.control := by simp
    exact Device.peersOk_setPeer_other (p := .present) (hkept ▸ h) (hkept ▸ hx) (by decide) _
  next => exact h

theorem Device.peersOk_handleLeave (h : d.control.peersOk) (hx : x ≠ d.control.number) : (d.handleLeave x).control.peersOk := by
  unfold Device.handleLeave
  split
  next =>
    have hkept : ((d.post (.peerChange x .left)).teardown x .peerLeft .peerLeft).control = d.control := by simp
    exact Device.peersOk_setPeer_other (p := .absent) (hkept ▸ h) (hkept ▸ hx) (by decide) _
  all_goals exact h

theorem PeerEntry.forget_self (p : PeerEntry) : p.forget.presence = .self ↔ p.presence = .self := by
  unfold PeerEntry.forget
  split
  next hp => simp [hp]
  next hp => simp [hp]
  next hp => simp [hp]

theorem Device.peersOk_returnToConfig (h : d.control.peersOk) : d.returnToConfig.control.peersOk := by
  have hforgot : ({ d.control with state := .config, joinCount := 0, peers := d.control.peers.map PeerEntry.forget } :
      StationControl).peersOk := fun y => by
    show ((d.control.peers.map PeerEntry.forget)[y]).presence = .self ↔ y = d.control.number
    rw [Fin.getElem_fin, Vector.getElem_map, PeerEntry.forget_self]
    exact h y
  unfold Device.returnToConfig
  dsimp only
  split <;> exact hforgot

theorem StationControl.powerOn_peersOk (n : Station) : (StationControl.powerOn n).peersOk := by
  unfold StationControl.peersOk
  decide +revert

theorem Device.endJoining_peers (d : Device) :
    d.endJoining.control.peers = d.control.peers ∧ d.endJoining.control.number = d.control.number := by
  unfold Device.endJoining
  split <;> exact ⟨rfl, rfl⟩

theorem Device.workEnded_peers (d : Device) :
    d.workEnded.control.peers = d.control.peers ∧ d.workEnded.control.number = d.control.number := by
  obtain ⟨hcontrol, -⟩ := Device.leaveLandings_keeps (eight.foldl Device.leaveChannel
    (d.endJoining.updControl fun c => { c with state := .leaving }))
  have hsame := hcontrol.trans (foldl_keeps Device.control _ (by simp) _ _)
  exact ⟨(congrArg (·.peers) hsame).trans d.endJoining_peers.1, (congrArg (·.number) hsame).trans d.endJoining_peers.2⟩

theorem Device.countJoin_peers (d : Device) :
    d.countJoin.control.peers = d.control.peers ∧ d.countJoin.control.number = d.control.number := by
  unfold Device.countJoin
  split
  next =>
    dsimp only
    split
    next => exact ⟨rfl, rfl⟩
    next =>
      rw [Device.becomeJoined_control]
      exact ⟨rfl, rfl⟩
  next => exact ⟨rfl, rfl⟩

theorem Device.Turns.peersOk (h : d.Turns e) (hd : d.control.peersOk) : e.control.peersOk := by
  cases h with
  | join h => exact StationControl.peersOk_of_same hd (by simp) (by simp)
  | leave h =>
    obtain ⟨hp, hn⟩ := d.workEnded_peers
    rw [Device.startLeaving_eq]
    exact StationControl.peersOk_of_same hd (by simpa using hp) (by simpa using hn)
  | reset =>
    have hpower : d.softReset.control.peersOk := StationControl.powerOn_peersOk _
    have htaken : d.takeReset.control.peersOk :=
      StationControl.peersOk_of_same hd (by simpa [Device.takeReset] using d.endJoining_peers.1)
        (by simpa [Device.takeReset] using d.endJoining_peers.2)
    unfold Device.resetStation
    split
    next => exact hpower
    next => exact htaken
    next => exact htaken
    next =>
      rw [d.takeResetLeaving_control]
      exact hd
  | request r h => simpa using hd
  | line level => simpa using hd
  | joinSent h =>
    obtain ⟨hp, hn⟩ := d.freeLane.countJoin_peers
    exact StationControl.peersOk_of_same hd hp hn
  | leaveSent h ho => exact Device.peersOk_returnToConfig (d := d.freeLane) hd
  | resetSent h ho => exact StationControl.powerOn_peersOk _
  | sent hj hl => exact hd
  | spacing h => exact StationControl.peersOk_of_same hd (by simp) (by simp)
  | repeatTimer h => simpa using hd

/-- But for the frames' sources, an event that is no turn leaves the peer table. -/
theorem Device.Works.peersOk (h : d.Works e) (hd : d.control.peersOk) : e.control.peersOk := by
  have hsame : e.control = d.control → e.control.peersOk := fun hc => hc ▸ hd
  cases h with
  | join h => exact (Device.Turns.join h).peersOk hd
  | leave h => exact (Device.Turns.leave h).peersOk hd
  | reset => exact Device.Turns.reset.peersOk hd
  | start h => exact hsame (Device.tryStart_keeps h).1
  | request r h => exact (Device.Turns.request r h).peersOk hd
  | line level => exact (Device.Turns.line level).peersOk hd
  | frame hr hx h => exact h.control ▸ Device.peersOk_notePeer hd hx
  | joinFrame hr hx => exact Device.peersOk_handleJoin hd hx
  | leaveFrame hr hx => exact Device.peersOk_handleLeave hd hx
  | joinSent h => exact (Device.Turns.joinSent h).peersOk hd
  | leaveSent h ho => exact (Device.Turns.leaveSent h ho).peersOk hd
  | resetSent h ho => exact (Device.Turns.resetSent h ho).peersOk hd
  | sent hj hl => exact hd
  | spacing h => exact (Device.Turns.spacing h).peersOk hd
  | repeatTimer h => exact (Device.Turns.repeatTimer h).peersOk hd
  | _ => exact hsame (by simp [Device.popWrite, Device.freePort, Device.fillBuffer])

theorem Device.Writes.peersOk (h : d.Writes e) (hd : d.control.peersOk) : e.control.peersOk := by
  have hsame : e.control = d.control → e.control.peersOk := fun hc => hc ▸ hd
  cases h with
  | closeWindow x => exact Device.peersOk_setPeer hd (hd x) none
  | _ => exact hsame (by simp)

end

end Sys2Proof.Machine

/-! Station Control, the Halt Unit and the lane stay in order (O59): what is due and on the lane in each station state. -/

namespace Sys2Proof.Machine

/-- R15, R20, R26, R28, R29: the station state, the lane, the halt set and the channels agree. -/
structure Device.stationed (d : Device) : Prop where
  peers : d.control.peersOk
  leave : d.leaveOk
  halt : d.haltAgrees
  join : d.joinOk
  clear : d.clearOffSpan
  suits : d.channelsSuit
  idle : d.control.state = .config → d.span.isIdle ∧ d.halted = false
  drained : d.span.leaveDue = true ∨ d.span.leaveOnLane = true → d.span.quiet
  resumed : d.span.leaveOnLane = true → d.span.resumeDue = false

section
variable {d e : Device}

theorem Device.stationed_iff : d.stationed ↔ d.control.peersOk ∧ d.stationOk := by
  constructor
  · intro h
    refine ⟨h.peers, Device.haltOk_iff.mpr ⟨h.leave, h.halt⟩, h.join, h.idle, fun hoff => ⟨h.clear hoff, fun c => (h.suits c).off hoff⟩,
      fun hstill c => (h.suits c).still ?_, fun hj c => (h.suits c).ready hj, fun c => (h.suits c).empty, h.drained, h.resumed⟩
    rcases hstill with hs | hs | hs
    · exact .inl (.inl hs)
    · exact .inr hs
    · exact .inl (.inr hs)
  · rintro ⟨hpeers, hhalt, hjoin, hidle, hoff, hstill, hready, hempty, hdrained, hresumed⟩
    obtain ⟨hleave, hagrees⟩ := Device.haltOk_iff.mp hhalt
    refine ⟨hpeers, hleave, hagrees, hjoin, fun hs => (hoff hs).1, fun c => ⟨fun hs => (hoff hs).2 c, fun hs => hstill ?_ c,
      fun hj => hready hj c, hempty c⟩, hidle, hdrained, hresumed⟩
    rcases hs with (hs | hs) | hs
    · exact .inl hs
    · exact .inr (.inr hs)
    · exact .inr (.inl hs)

/-! ### Turns -/

/-- Outside LEAVING no LEAVE is due or on the lane, nor after an event that keeps the lane. -/
theorem Device.laneKept.noLeave (h : d.laneKept e) (hd : d.leaveOk) (hs : d.control.state ≠ .leaving) :
    e.span.leaveDue = false ∧ e.span.leaveOnLane = false := by
  obtain ⟨hlane, hdue⟩ := h
  obtain ⟨hnodue, hnolane, -⟩ := SpanInterface.leavesIn.none_of_other (Device.leaveOk_iff.mp hd) hs
  exact ⟨hdue.trans hnodue, (SpanInterface.leaveOnLane_congr hlane).trans hnolane⟩

/-- What the invariant says of LEAVE on the span. -/
def SpanInterface.leavesDrained (s : SpanInterface) : Prop :=
  (s.leaveDue = true ∨ s.leaveOnLane = true → s.quiet) ∧ (s.leaveOnLane = true → s.resumeDue = false)

theorem SpanInterface.leavesDrained_of_none {s : SpanInterface} (h : s.leaveDue = false ∧ s.leaveOnLane = false) :
    s.leavesDrained := by
  simp [SpanInterface.leavesDrained, h.1, h.2]

theorem SpanInterface.leavesDrained_of_lane {s : SpanInterface} (h : s.lane = none) (hq : s.leaveDue = true → s.quiet) :
    s.leavesDrained := by
  simp only [SpanInterface.leavesDrained, SpanInterface.leaveOnLane_of_lane h]
  exact ⟨fun hor => hq (hor.resolve_right nofun), nofun⟩

/-- R161: outside JOINED no request is one to hold for, and the HALT input does nothing. -/
theorem Device.updateHold_elsewhere (h : d.haltAgrees) (hs : d.control.state ≠ .joined) (level : Bool) :
    (d.updHalt fun h => { h with line := level }).updateHold = d.updHalt fun h => { h with line := level } := by
  obtain ⟨hholding, -⟩ := h.halt.elsewhere hs
  exact Device.updateHold_same ((Device.wantsHold_elsewhere (d := d.updHalt _) hs).trans hholding.symm)

theorem Device.Turns.leavesDrained (h : d.Turns e) (hd : d.stationed) : e.span.leavesDrained := by
  have hnever : d.laneKept e → d.control.state ≠ .leaving → e.span.leavesDrained := fun hlane hs =>
    SpanInterface.leavesDrained_of_none (hlane.noLeave hd.leave hs)
  have hpower : SpanInterface.powerOn.leavesDrained := SpanInterface.leavesDrained_of_none ⟨rfl, rfl⟩
  cases h with
  | join h =>
    exact hnever (Device.claimDue_laneKept (d := d.updControl _) (fun _ => rfl) fun _ => rfl) (by rw [h]; nofun)
  | leave h =>
    exact hnever d.startLeaving_laneKept fun hs => by rw [hs] at h; cases h
  | reset =>
    rcases hs : d.control.state
    case config =>
      simp only [Device.resetStation, hs]
      exact hpower
    case leaving =>
      simp only [Device.resetStation, hs, Device.takeResetLeaving]
      split
      next => exact ⟨hd.drained, hd.resumed⟩
      next =>
        split
        next => exact ⟨hd.drained, hd.resumed⟩
        next => exact ⟨fun _ => ⟨rfl, rfl⟩, fun _ => rfl⟩
    all_goals
      obtain ⟨e, he⟩ : ∃ e, ((d.endJoining.updControl fun c => { c with state := .leaving, owed := true }).updSpan
          SpanInterface.clearForLeave) = e := ⟨_, rfl⟩
      have howed : e.control.owed = true := by rw [← he]; rfl
      have hclear : e.span.quiet ∧ e.span.resumeDue = false := by rw [← he]; exact ⟨⟨rfl, rfl⟩, rfl⟩
      have hkept : e.leaveHold.span = e.span := by
        simp [Device.leaveHold, Device.endHold, Device.makeResumeDue, Device.claimDue, howed, apply_ite Device.span]
      simp only [Device.resetStation, hs, Device.takeReset, he]
      rw [hkept]
      exact ⟨fun _ => hclear.1, fun _ => hclear.2⟩
  | request r h => exact hnever (Device.updateHold_laneKept (d.updHalt _)) (by rw [h]; nofun)
  | line level =>
    by_cases hs : d.control.state = .joined
    · exact hnever (Device.updateHold_laneKept (d.updHalt _)) (by rw [hs]; nofun)
    · rw [Device.updateHold_elsewhere hd.halt hs]
      exact ⟨hd.drained, hd.resumed⟩
  | joinSent h =>
    obtain ⟨hlane, hdue⟩ := d.freeLane.countJoin_laneKept
    refine SpanInterface.leavesDrained_of_lane hlane fun hl => ?_
    have hstate : d.freeLane.control.state = .leaving := hd.leave.1 (.inl (hdue ▸ hl))
    have hsame : d.freeLane.countJoin = d.freeLane := if_neg (by rw [hstate]; nofun)
    rw [hsame] at hl ⊢
    exact hd.drained (.inl hl)
  | leaveSent h ho =>
    have hspan : d.freeLane.returnToConfig.span = d.freeLane.span := by simp
    rw [hspan]
    exact SpanInterface.leavesDrained_of_lane rfl fun hl => hd.drained (.inl hl)
  | resetSent h ho => exact hpower
  | sent hj hl => exact SpanInterface.leavesDrained_of_lane rfl fun hdue => hd.drained (.inl hdue)
  | spacing h =>
    exact hnever (Device.claimDue_laneKept (d := d.updControl _) (fun _ => rfl) fun _ => rfl)
      (by rw [hd.join.2 (.inr h)]; nofun)
  | repeatTimer h =>
    exact hnever (Device.claimDue_laneKept (d := d) (fun _ => rfl) fun _ => rfl)
      (by rw [hd.halt.holding_joined (hd.halt.halt.steady.repeats ▸ h)]; nofun)

theorem HaltUnit.halted_none (h : HaltUnit) : ({ h with members := Vector.replicate 8 false } : HaltUnit).halted = false := by
  simp [HaltUnit.halted]

theorem Device.returnToConfig_halted (d : Device) : d.returnToConfig.halted = false := by
  rw [Device.halted, Device.returnToConfig_halt]
  exact HaltUnit.halted_none { d.halt with lapse := Vector.replicate 8 none }

theorem Device.Turns.idle (h : d.Turns e) (hd : d.stationed) (hs : e.control.state = .config) :
    e.span.isIdle ∧ e.halted = false := by
  have hpower : d.softReset.span.isIdle ∧ d.softReset.halted = false :=
    ⟨⟨rfl, rfl, rfl, rfl, rfl, rfl, rfl⟩, HaltUnit.halted_none (HaltUnit.powerOn d.halt.line)⟩
  cases h with
  | join h => simp at hs
  | leave h => simp [Device.startLeaving_state] at hs
  | reset =>
    rcases hstate : d.control.state
    case config =>
      simp only [Device.resetStation, hstate]
      exact hpower
    case leaving =>
      simp only [Device.resetStation, hstate, Device.takeResetLeaving_control] at hs
      cases hs
    all_goals
      simp only [Device.resetStation, hstate, d.takeReset_control.2] at hs
      cases hs
  | request r h => simp [h] at hs
  | line level =>
    have hconfig : d.control.state = .config := by simpa using hs
    rw [Device.updateHold_elsewhere hd.halt (by rw [hconfig]; nofun)]
    exact hd.idle hconfig
  | joinSent h =>
    obtain ⟨-, hsame | ⟨-, hj⟩⟩ := d.freeLane.countJoin_control
    · obtain ⟨⟨hlane, -⟩, -⟩ := hd.idle (hsame.symm.trans hs)
      rw [Device.onLane, hlane] at h
      cases h
    · rw [hj] at hs
      cases hs
  | leaveSent h ho =>
    have honlane := Device.leaveOnLane_of_onLane h
    have hleaving := hd.leave.1 (.inr honlane)
    obtain ⟨hreplies, hinitiation⟩ := hd.drained (.inr honlane)
    obtain ⟨hj, -⟩ := SpanInterface.joinsIn.none_of_other (Device.joinOk_iff.mp hd.join) (by rw [hleaving]; nofun)
    have hdue : d.span.haltDue = false := by
      rw [← Bool.not_eq_true]
      intro hdue
      have hjoined := hd.halt.holding_joined (hd.halt.due hdue)
      rw [hleaving] at hjoined
      cases hjoined
    have hspan : d.freeLane.returnToConfig.span = d.freeLane.span := by simp
    rw [hspan]
    exact ⟨⟨rfl, hreplies, hinitiation, hj, hdue, hd.resumed honlane, hd.leave.2.1 honlane⟩, d.freeLane.returnToConfig_halted⟩
  | resetSent h ho => exact hpower
  | sent hj hl =>
    obtain ⟨⟨-, hrest⟩, hhalted⟩ := hd.idle hs
    exact ⟨⟨rfl, hrest⟩, hhalted⟩
  | spacing h =>
    have hjoining : d.control.state = .config := by simpa using hs
    rw [hd.join.2 (.inr h)] at hjoining
    cases hjoining
  | repeatTimer h =>
    have hconfig : d.control.state = .config := by simpa using hs
    rw [hd.halt.holding_joined (hd.halt.halt.steady.repeats ▸ h)] at hconfig
    cases hconfig

end

end Sys2Proof.Machine

/-! O59: every event keeps the station in order, and so does every step. -/

namespace Sys2Proof.Machine

section
variable {d e : Device}

theorem Device.stationed.of_same (h : d.stationed) (hspan : e.span = d.span) (hcontrol : e.control = d.control)
    (hhalt : e.halt = d.halt) (hadmission : e.admission = d.admission) (hchannels : e.channels = d.channels) : e.stationed where
  peers := hcontrol ▸ h.peers
  leave := by
    have hleave := h.leave
    rw [Device.leaveOk_iff] at hleave ⊢
    rwa [hspan, hcontrol]
  halt := ⟨by rw [hhalt, hcontrol]; exact h.halt.halt, by rw [hspan, hhalt]; exact h.halt.due⟩
  join := by
    have hjoin := h.join
    rw [Device.joinOk_iff] at hjoin ⊢
    rwa [hspan, hcontrol]
  clear := by
    unfold Device.clearOffSpan
    rw [hcontrol, hadmission]
    exact h.clear
  suits := by
    unfold Device.channelsSuit
    rw [hcontrol, hchannels]
    exact h.suits
  idle := by
    rw [hcontrol, hspan, Device.halted, hhalt]
    exact h.idle
  drained := hspan ▸ h.drained
  resumed := hspan ▸ h.resumed

theorem Device.stays.state (h : d.stays e) : e.control.state = d.control.state := by rw [h.control]

theorem Device.stays.due (h : d.stays e) : e.span.leaveDue = d.span.leaveDue := by rw [h.span]

theorem Device.stays.onLane (h : d.stays e) : e.span.leaveOnLane = d.span.leaveOnLane :=
  SpanInterface.leaveOnLane_congr (by rw [h.span])

theorem Device.stays.joinOk (h : d.stays e) (hd : d.joinOk) : e.joinOk := by
  rw [Device.joinOk_iff] at hd ⊢
  rw [h.control]
  exact hd.of_same (by rw [h.span]) (by rw [h.span])

/-- The queues of a span that is away stay empty, and its halt set does. -/
theorem Device.Works.stays_quiet (h : d.Works e) (hd : d.stationed) (hfetch : d.fetchOk) :
    (d.stays e ∧ (d.control.state = .config ∨ d.control.state = .leaving → d.quietKept e) ∧
      (d.control.state = .config → e.halted = false)) ∨ d.Turns e := by
  by_cases hturns : d.Turns e
  · exact .inr hturns
  · refine .inl ⟨h.stays_or_turns.resolve_right hturns, fun haway => ?_, fun hs => ?_⟩
    · exact (h.quiet_away haway hd.clear hd.suits hfetch).resolve_right hturns
    · exact (h.halted_away hs (hd.idle hs).2).resolve_right hturns

theorem Device.Works.leavesDrained (h : d.Works e) (hd : d.stationed) (hfetch : d.fetchOk) : e.span.leavesDrained := by
  rcases h.stays_quiet hd hfetch with ⟨hstays, hquiet, -⟩ | hturns
  · rw [SpanInterface.leavesDrained, hstays.due, hstays.onLane, show e.span.resumeDue = d.span.resumeDue by rw [hstays.span]]
    exact ⟨fun hl => hquiet (.inr (hd.leave.1 hl)) (hd.drained hl), hd.resumed⟩
  · exact hturns.leavesDrained hd

theorem Device.Works.idle (h : d.Works e) (hd : d.stationed) (hfetch : d.fetchOk) (hs : e.control.state = .config) :
    e.span.isIdle ∧ e.halted = false := by
  rcases h.stays_quiet hd hfetch with ⟨hstays, hquiet, hhalted⟩ | hturns
  · have hconfig := hstays.state.symm.trans hs
    obtain ⟨⟨hlane, hreplies, hinitiation, hdue⟩, -⟩ := hd.idle hconfig
    obtain ⟨hreplies', hinitiation'⟩ := hquiet (.inl hconfig) ⟨hreplies, hinitiation⟩
    refine ⟨?_, hhalted hconfig⟩
    rw [SpanInterface.isIdle, hstays.span]
    exact ⟨hlane, hreplies', hinitiation', hdue⟩
  · exact hturns.idle hd hs

theorem Device.Works.joinOk (h : d.Works e) (hd : d.stationed) : e.joinOk := by
  rcases h.stays_or_turns with hstays | hturns
  · exact hstays.joinOk hd.join
  · exact hturns.joinOk hd.leave (fun hs => (hd.idle hs).1.1) hd.join

theorem Device.Works.stationed (h : d.Works e) (hchannels : d.channelsOk) (hfetch : d.fetchOk) (hd : d.stationed) :
    e.stationed where
  peers := h.peersOk hd.peers
  leave := h.leaveOk hd.leave
  halt := h.haltAgrees hd.leave hd.join hd.halt
  join := h.joinOk hd
  clear := h.clearOffSpan hd.leave hd.clear
  suits := h.channelsSuit hd.leave (fun c => (hchannels c).1.1) hfetch hd.suits
  idle := h.idle hd hfetch
  drained := (h.leavesDrained hd hfetch).1
  resumed := (h.leavesDrained hd hfetch).2

/-! ### The choices that end an event -/

theorem SpanInterface.leavesDrained.sends {ready : Prop} {s t : SpanInterface} (h : s.leavesDrained) (ht : s.Sends ready t) :
    t.leavesDrained := by
  obtain ⟨hquiet, hresumed⟩ := h
  have hcarried : ∀ {u : SpanInterface} {f : Frame}, u.lane = some f → f.carries → (u.leaveDue = true → u.quiet) →
      u.leavesDrained := fun hl hf hq => by
    simp only [SpanInterface.leavesDrained, SpanInterface.leaveOnLane_carries hl hf]
    exact ⟨fun hor => hq (hor.resolve_right nofun), nofun⟩
  cases ht with
  | nothing => exact ⟨hquiet, hresumed⟩
  | join f hf hl hj =>
    have hnot : SpanInterface.leaveOnLane { s with joinDue := false, lane := some f } = false := by
      simp [SpanInterface.leaveOnLane, hf]
    simp only [SpanInterface.leavesDrained, hnot]
    exact ⟨fun hor => hquiet (.inl (hor.resolve_right nofun)), nofun⟩
  | halt f hf hl hh => exact hcarried rfl hf fun hd => hquiet (.inl hd)
  | resume f hf hl hr => exact hcarried rfl hf fun hd => hquiet (.inl hd)
  | leave f hf hl hr hd => exact ⟨fun _ => hquiet (.inl hd), fun _ => hr⟩
  | other f r q hf hl hd hwork => exact hcarried rfl hf fun hdue => by rw [hd] at hdue; cases hdue

theorem SpanInterface.isIdle.sends {ready : Prop} {s t : SpanInterface} (h : s.isIdle) (hready : ¬ready)
    (ht : s.Sends ready t) : t.isIdle := by
  obtain ⟨hlane, hreplies, hinitiation, hj, hh, hr, hl⟩ := h
  cases ht with
  | nothing => exact ⟨hlane, hreplies, hinitiation, hj, hh, hr, hl⟩
  | join f hf _ hdue => rw [hj] at hdue; cases hdue
  | halt f hf _ hdue => rw [hh] at hdue; cases hdue
  | resume f hf _ hdue => rw [hr] at hdue; cases hdue
  | leave f hf _ _ hdue => rw [hl] at hdue; cases hdue
  | other f r q hf _ _ hwork =>
    rcases hwork with hwork | hwork | hwork
    · exact absurd hreplies hwork
    · exact absurd hinitiation hwork
    · exact absurd hwork hready

/-- R49: where no transfer goes on, no channel has a block to send. -/
theorem Device.channelsSuit.not_blockReady (h : d.channelsSuit) (hs : d.control.still) : ¬d.blockReady := by
  rintro ⟨c, hc⟩
  by_cases hstream : d.channels[c].state = .streaming
  · have hmoving := (h c).still hs
    rw [hstream] at hmoving
    cases hmoving
  · rw [Channel.readyBlock_of_not_streaming hstream] at hc
    cases hc

theorem Device.reportDrained_leavesDrained (h : d.span.leavesDrained) : d.reportDrained.span.leavesDrained := by
  rcases d.reportDrained_span with heq | ⟨⟨hlane, hreplies, hinitiation⟩, -, heq⟩
  · rw [heq]
    exact h
  · rw [heq]
    exact SpanInterface.leavesDrained_of_lane hlane fun _ => ⟨hreplies, hinitiation⟩

theorem Device.settle_leavesDrained (h : d.span.leavesDrained) : d.settle.span.leavesDrained := by
  rw [Device.settle_span]
  exact (Device.reportDrained_leavesDrained h).sends d.reportDrained.chooseFrame_sends

theorem Device.settle_idle (hd : d.channelsSuit) (hs : d.control.state = .config) (h : d.span.isIdle) : d.settle.span.isIdle := by
  have hsame : d.reportDrained.span = d.span := by
    rcases d.reportDrained_span with heq | ⟨-, ⟨hleaving, -⟩, -⟩
    · exact heq
    · rw [hs] at hleaving
      cases hleaving
  rw [Device.settle_span]
  refine SpanInterface.isIdle.sends (s := d.reportDrained.span) (hsame ▸ h) ?_ d.reportDrained.chooseFrame_sends
  rw [Device.reportDrained_ready]
  exact hd.not_blockReady (.inl (.inl hs))

theorem Device.settle_joinOk (h : d.joinOk) : d.settle.joinOk := by
  rw [Device.joinOk_iff] at h ⊢
  have hreported : d.reportDrained.span.joinsIn d.control.state d.control.spacing := by
    rcases d.reportDrained_span with heq | ⟨-, -, heq⟩
    · rw [heq]
      exact h
    · rw [heq]
      exact h.of_same rfl rfl
  rw [Device.settle_span, show d.settle.control = d.control by simp]
  exact hreported.sends d.reportDrained.chooseFrame_sends

/-- HALT is due only where it was. -/
theorem SpanInterface.Sends.haltDue {ready : Prop} {s t : SpanInterface} (h : s.Sends ready t) (ht : t.haltDue = true) :
    s.haltDue = true := by
  cases h with
  | halt f hf hl hh => exact hh
  | _ => exact ht

theorem Device.settle_haltDue (h : d.settle.span.haltDue = true) : d.span.haltDue = true := by
  rw [Device.settle_span] at h
  have hdue := d.reportDrained.chooseFrame_sends.haltDue h
  rcases d.reportDrained_span with heq | ⟨-, -, heq⟩ <;> rw [heq] at hdue <;> exact hdue

theorem Device.stationed.settle (h : d.stationed) : d.settle.stationed := by
  obtain ⟨hcontrol, -, hadmission, hhalt, -⟩ := d.settle_keeps
  have hdrained := Device.settle_leavesDrained ⟨h.drained, h.resumed⟩
  exact {
    peers := hcontrol ▸ h.peers
    leave := h.leave.settle
    halt := ⟨by rw [hhalt, hcontrol]; exact h.halt.halt, fun hdue => hhalt ▸ h.halt.due (Device.settle_haltDue hdue)⟩
    join := Device.settle_joinOk h.join
    clear := h.clear.of_keeps hadmission fun hoff => hcontrol ▸ hoff
    suits := h.suits.goesOn d.settle_goesOn
    idle := fun hs => by
      have hconfig : d.control.state = .config := hcontrol ▸ hs
      obtain ⟨hidle, hhalted⟩ := h.idle hconfig
      exact ⟨Device.settle_idle h.suits hconfig hidle, by rw [Device.halted, hhalt]; exact hhalted⟩
    drained := hdrained.1
    resumed := hdrained.2 }

/-! ### Register writes, power-on and the steps -/

theorem Device.Configures.kept_rest (h : d.Configures e) : e.halt = d.halt ∧ e.channels = d.channels := by
  cases h <;> exact ⟨rfl, rfl⟩

theorem Device.Writes.flags_halt (h : d.Writes e) :
    (e.span = { d.span with idConflict := e.span.idConflict, laneMismatch := e.span.laneMismatch }) ∧ e.halt = d.halt := by
  cases h with
  | ownNumber x =>
    refine ⟨?_, by simp⟩
    unfold Device.noteOwnNumber
    dsimp only
    split <;> rfl
  | _ => exact ⟨rfl, rfl⟩

theorem Device.Writes.stationed (h : d.Writes e) (hd : d.stationed) : e.stationed := by
  obtain ⟨hspan, hhalt⟩ := h.flags_halt
  have hstate : e.control.state = d.control.state := by rw [h.control]
  have honlane : e.span.leaveOnLane = d.span.leaveOnLane := SpanInterface.leaveOnLane_congr (by rw [hspan])
  exact {
    peers := h.peersOk hd.peers
    leave := h.leaveOk hd.leave
    halt := ⟨by rw [hhalt, h.control]; exact hd.halt.halt, by rw [hspan, hhalt]; exact hd.halt.due⟩
    join := by
      have hjoin := hd.join
      rw [Device.joinOk_iff] at hjoin ⊢
      rw [h.control]
      exact hjoin.of_same (by rw [hspan]) (by rw [hspan])
    clear := hd.clear.of_keeps h.admission fun hoff => by rw [h.control] at hoff; exact hoff
    suits := h.channelsSuit hd.suits
    idle := fun hs => by
      rw [Device.halted, hhalt, SpanInterface.isIdle, hspan]
      exact hd.idle (hstate ▸ hs)
    drained := fun hl => by
      rw [honlane, show e.span.leaveDue = d.span.leaveDue by rw [hspan]] at hl
      rw [SpanInterface.quiet, hspan]
      exact hd.drained hl
    resumed := fun hl => by
      rw [hspan]
      exact hd.resumed (honlane ▸ hl) }

theorem Device.powerOn_stationed (n : Station) (line : Bool) : (Device.powerOn n line).stationed where
  peers := StationControl.powerOn_peersOk n
  leave := Device.leaveOk_iff.mpr (SpanInterface.leavesIn_of_none rfl rfl rfl)
  halt := ⟨HaltUnit.powerOn_agrees n line (by nofun), nofun⟩
  join := Device.joinOk_iff.mpr (SpanInterface.joinsIn_of_none rfl rfl)
  clear _ := ⟨rfl, rfl, rfl, rfl⟩
  suits c := by
    rw [show (Device.powerOn n line).channels[c] = Channel.afterReset 0 from Vector.getElem_replicate _]
    exact Channel.suits_of_idle _ rfl rfl
  idle _ := ⟨⟨rfl, rfl, rfl, rfl, rfl, rfl, rfl⟩, HaltUnit.halted_none (HaltUnit.powerOn line)⟩
  drained := nofun
  resumed := nofun

/-- The channels and the memory port in order, with the station. -/
def Device.transfersStationed (d : Device) : Prop := d.channelsOk ∧ d.fetchOk ∧ d.stationed

theorem Device.beside.stationed (h : d.beside e) (hd : d.stationed) : e.stationed := by
  obtain ⟨f, -, rfl⟩ := h
  exact hd.of_same rfl rfl rfl rfl rfl

theorem stationRule : EventRule Device.transfersStationed Device.stationed Device.stationed where
  registers h hd := by
    obtain ⟨hchannels, hfetch, hstation⟩ := hd
    have hnext := h.stationed hstation
    obtain ⟨f, -, rfl⟩ := h
    exact ⟨hchannels, hfetch, hnext⟩
  answered h hd := h.stationed hd
  works h hd := by
    obtain ⟨hchannels, hfetch, hstation⟩ := hd
    exact h.stationed hchannels hfetch hstation
  settles hd := hd.settle
  writes h hd := h.stationed hd.2.2
  configures hs h hd := by
    obtain ⟨hspan, hcontrol, hadmission, -⟩ := h.kept
    obtain ⟨hhalt, hchannels⟩ := h.kept_rest
    exact hd.2.2.of_same hspan hcontrol hhalt hadmission hchannels

/-- Settles O59: an invariant of the events, given the order of the channels. -/
theorem stationStaysInOrder : Obligations.StationStaysInOrder := by
  intro s t hs h
  obtain ⟨hchannels, hfetch, hstation⟩ := hs
  have hd := Device.stationed_iff.mpr hstation
  refine Device.stationed_iff.mp ?_
  unfold Machine.step at h
  split at h
  next =>
    obtain rfl := Host.Outcome.next.inj h
    exact hd
  next i rest _ =>
    by_cases hi : ∃ n, i = .powerOnReset n
    · obtain ⟨n, rfl⟩ := hi
      obtain rfl := Host.Outcome.next.inj h
      exact Device.powerOn_stationed n _
    · obtain ⟨-, hleads⟩ := exec_leads i _ (not_exists.mp hi) t h
      exact stationRule.leads hleads ⟨hchannels, hfetch, hd⟩

end

end Sys2Proof.Machine

/-! State.reset is a block in order (O55): each invariant's own fact about power-on reset. -/

namespace Sys2Proof.Machine

/-- Settles O55, from the power-on case of each invariant. -/
theorem invariantsHoldAtReset : Obligations.InvariantsHoldAtReset := by
  unfold Obligations.InvariantsHoldAtReset
  intro d
  obtain ⟨hnotices, hqueues⟩ := Device.powerOn_outboxOk 0 false
  obtain ⟨hbounded, hordered⟩ := Device.emptyAdmission_bounded
  obtain ⟨hchannels, hfetch, hwanted⟩ := Device.inOrder_iff.mpr (Device.powerOn_inOrder 0 false)
  obtain ⟨hpool, hwithin, hlegal⟩ := Device.landingsOk_iff.mp (Device.powerOn_landingsOk 0 false)
  obtain ⟨hpeers, hstation⟩ := Device.stationed_iff.mp (Device.powerOn_stationed 0 false)
  exact ⟨hnotices, hqueues, hbounded, hordered, hchannels, hfetch, hwanted, hpool, hwithin, hlegal, hpeers, hstation,
    Device.powerOn_served 0 false⟩

end Sys2Proof.Machine

/-! An OFFER of a new key (O30, O31): it is judged, and admitted, placed behind its level or turned away. -/

namespace Sys2Proof.Machine

section
variable {d : Device} {o : Offer}

/-- R72: an offer of a key without a record or an entry is judged and placed, its recently landed entry removed. -/
theorem Device.handleOffer_new (h : d.admission.lacks o.key) :
    d.handleOffer o = runIf ((d.updAdmission (·.dropRecent o.key)).judgeAndPlace o).2
      ((d.updAdmission (·.dropRecent o.key)).judgeAndPlace o).1 := by
  obtain ⟨hrecords, hwaiting⟩ := h
  unfold Device.handleOffer
  rcases hf : d.admission.find o.key with l | e | r | -
  · obtain ⟨hl, hkey⟩ := AdmissionUnit.find_landing hf
    exact absurd hkey (hrecords l hl)
  · obtain ⟨he, hkey⟩ := AdmissionUnit.find_pending hf
    exact absurd hkey (hwaiting e he)
  · rfl
  · obtain ⟨-, hrecent⟩ := AdmissionUnit.not_mem_keys.mp (AdmissionUnit.find_fresh hf)
    have hsame : d.admission.dropRecent o.key = d.admission := by
      simp only [AdmissionUnit.dropRecent, List.filter_eq_self.mpr fun r hr => decide_eq_true (hrecent r hr)]
    rw [show d.updAdmission (·.dropRecent o.key) = d by rw [Device.updAdmission, hsame]]

/-- R73: an offer that fails judgement draws its REFUSE. -/
theorem Device.judgeAndPlace_refused {r : RefuseReason} (h : d.judge o = some r) :
    d.judgeAndPlace o = (d.claimReply o.key o.generation (.refuse r), false) := by
  simp only [Device.judgeAndPlace, h]

theorem Device.judgeAndPlace_unopposed (hj : d.judge o = none) (hv : d.victim o = none) :
    d.judgeAndPlace o = (d.admitOrQueue o, false) := by
  simp only [Device.judgeAndPlace, hj, hv]

theorem Device.judgeAndPlace_opposed (hj : d.judge o = none) {l : Landing} (hv : d.victim o = some l) :
    d.judgeAndPlace o = ((d.suspend l).admitOrQueue o, true) := by
  simp only [Device.judgeAndPlace, hj, hv]

/-- R76: where the offer can be admitted no landing is suspended for it. -/
theorem Device.victim_of_canAdmit (h : d.canAdmit o.fields.window = true) : d.victim o = none := by
  obtain ⟨hroom, hfree, -⟩ := Device.canAdmit_iff.mp h
  refine if_neg ?_
  simp [Device.tableFull, hfree, hroom]

theorem Device.judge_noWindow (h : d.config.windows[o.fields.window].enabled = false) : d.judge o = some .noWindow := by
  simp only [Device.judge, h, Bool.not_false, if_true]

theorem Device.judge_access (h : d.config.windows[o.fields.window].enabled = true)
    (hm : d.config.windows[o.fields.window].mask.getLsbD o.key.source.val = false) : d.judge o = some .access := by
  simp only [Device.judge, h, hm, Bool.not_true, Bool.false_eq_true, if_false, Bool.not_false, if_true]

theorem Device.judge_range (h : d.config.windows[o.fields.window].enabled = true)
    (hm : d.config.windows[o.fields.window].mask.getLsbD o.key.source.val = true)
    (hr : d.config.windows[o.fields.window].size < o.fields.offset + o.fields.length) : d.judge o = some .range := by
  simp only [Device.judge, h, hm, hr, Bool.not_true, Bool.false_eq_true, if_false, if_true]

theorem Device.judge_good (h : d.config.windows[o.fields.window].enabled = true)
    (hm : d.config.windows[o.fields.window].mask.getLsbD o.key.source.val = true)
    (hr : o.fields.offset + o.fields.length ≤ d.config.windows[o.fields.window].size) : d.judge o = none := by
  simp only [Device.judge, h, hm, hr.not_gt, Bool.not_true, Bool.false_eq_true, if_false]

/-! ### The events -/

section
variable {s : State} {x : Station} {c : ChannelNo} {g : Generation} {f : OfferFields}

theorem exec_offerArrives_of_hears (h : s.dev.hears x) (hf : f.inRange = true) :
    exec (.offerArrives x c g f) s =
      s.next (s.dev.handleOffer { key := { source := x, channel := c }, generation := g, fields := f }).settle := by
  show s.next (s.dev.arrive x f.inRange _) = _
  rw [hf, Device.arrive_of_hears h]

/-- The offer of a new key whose placement calls for no run. -/
theorem exec_offerArrives_new (h : s.dev.hears x) (hf : f.inRange = true)
    (hnew : s.dev.admission.lacks { source := x, channel := c }) {e : Device}
    (hplace : (s.dev.updAdmission (·.dropRecent { source := x, channel := c })).judgeAndPlace
      { key := { source := x, channel := c }, generation := g, fields := f } = (e, false)) :
    exec (.offerArrives x c g f) s = s.next e.settle := by
  rw [exec_offerArrives_of_hears h hf, Device.handleOffer_new hnew, hplace]
  rfl

end

/-- Settles O30, by the branches of R73 and R74. -/
theorem offersAreJudgedAndAdmitted : Obligations.OffersAreJudgedAndAdmitted := by
  intro s x c g f hh hf hnew key w recent refused
  obtain ⟨e, he⟩ : ∃ e, s.dev.updAdmission (·.dropRecent key) = e := ⟨_, rfl⟩
  obtain ⟨o, ho⟩ : ∃ o : Offer, { key := key, generation := g, fields := f } = o := ⟨_, rfl⟩
  have howed : e.control.owed = false := by rw [← he]; exact hh.2.1
  have hconfig : e.config = s.dev.config := by rw [← he]; rfl
  have hrefused : ∀ r : RefuseReason, e.judge o = some r → exec (.offerArrives x c g f) s = s.next (refused r).settle := by
    intro r hr
    refine exec_offerArrives_new hh hf hnew ?_
    rw [he, ho, Device.judgeAndPlace_refused hr, Device.claimReply_replied howed, ← he, ← ho]
    rfl
  refine ⟨fun hw => hrefused _ ?_, fun hw hm => hrefused _ ?_, fun hw hm hr => hrefused _ ?_, fun hw hm hr hroom hexcl hfree => ?_⟩
  · exact Device.judge_noWindow (by rw [← ho, hconfig]; exact hw)
  · exact Device.judge_access (by rw [← ho, hconfig]; exact hw) (by rw [← ho, hconfig]; exact hm)
  · exact Device.judge_range (by rw [← ho, hconfig]; exact hw) (by rw [← ho, hconfig]; exact hm) (by rw [← ho, hconfig]; exact hr)
  · have hjudge : e.judge o = none :=
      Device.judge_good (by rw [← ho, hconfig]; exact hw) (by rw [← ho, hconfig]; exact hm) (by rw [← ho, hconfig]; exact hr)
    have hcan : e.canAdmit o.fields.window = true := by
      refine Device.canAdmit_iff.mpr ⟨by rw [← he]; exact hroom, ?_, by rw [← he]; exact hfree⟩
      rw [Bool.eq_false_iff, ne_eq, Device.occupied_iff, ← he, ← ho]
      rintro ⟨hmode, l, hl, hwin⟩
      exact hexcl hmode l hl hwin
    refine exec_offerArrives_new hh hf hnew ?_
    rw [he, ho, Device.judgeAndPlace_unopposed hjudge (Device.victim_of_canAdmit hcan), Device.admitOrQueue, if_pos hcan,
      Device.admitOffer, Device.claimReply_replied (d := e.updAdmission _) howed, ← he, ← ho]
    rfl

/-! ### The pending list (R77) -/

/-- R77: the entry of an offer goes behind the entries of its level. -/
def Offer.behind (o : Offer) (life : Nat) (l : List PendingEntry) : List PendingEntry :=
  l.takeWhile (fun e => decide (e.level ≤ o.fields.level.val)) ++ { offer := o, lifetime := some life } ::
    l.dropWhile (fun e => decide (e.level ≤ o.fields.level.val))

theorem Device.placeWaiting_eq (ho : d.control.owed = false) :
    d.placeWaiting o =
      (d.updAdmission fun a => { a with waiting := o.behind d.config.tQueue a.waiting }).replied o.key o.generation .wait := by
  unfold Device.placeWaiting
  rw [Device.claimReply_replied (d := d.updAdmission _) ho]
  simp only [insertByLevel_eq]
  rfl

theorem Device.evict_eq (ho : d.control.owed = false) {rest : List PendingEntry} {t : PendingEntry}
    (hw : d.admission.waiting = rest ++ [t]) :
    d.evict t = ((d.updAdmission fun a => { a with waiting := rest }).replied t.offer.key t.offer.generation
      (.refuse .busy)).post (t.offer.ended .busy 0) := by
  unfold Device.evict
  rw [Device.claimReply_replied (d := d.updAdmission _) ho]
  simp only [Device.updAdmission, hw, List.dropLast_concat]

theorem Device.queueOffer_room (h : d.admission.waiting.length < Config.pendingMax) : d.queueOffer o = d.placeWaiting o := if_pos h

theorem Device.queueOffer_full {rest : List PendingEntry} {t : PendingEntry} (hw : d.admission.waiting = rest ++ [t])
    (hfull : Config.pendingMax ≤ d.admission.waiting.length) :
    d.queueOffer o = if o.fields.level.val < t.level then (d.evict t).placeWaiting o
      else d.claimReply o.key o.generation (.refuse .busy) := by
  unfold Device.queueOffer
  rw [if_neg hfull.not_gt, hw, List.getLast?_concat]

theorem Device.admitOrQueue_queued (h : d.canAdmit o.fields.window = false) : d.admitOrQueue o = d.queueOffer o :=
  if_neg (by rw [h]; nofun)

/-- Settles O31, by the branches of R77. -/
theorem offersWaitOrAreTurnedAway : Obligations.OffersWaitOrAreTurnedAway := by
  intro s x c g f hh hf hnew key o hjudge hcan hvictim recent entry behind reply
  obtain ⟨e, he⟩ : ∃ e, s.dev.updAdmission (·.dropRecent key) = e := ⟨_, rfl⟩
  have howed : e.control.owed = false := by rw [← he]; exact hh.2.1
  have hplace : ∀ {e' : Device}, e.queueOffer o = e' → exec (.offerArrives x c g f) s = s.next e'.settle := fun {e'} hq => by
    refine exec_offerArrives_new hh hf hnew ?_
    have hcan' : e.canAdmit o.fields.window = false := by rw [← he]; exact hcan
    rw [he, Device.judgeAndPlace_unopposed (by rw [← he]; exact hjudge) (by rw [← he]; exact hvictim),
      Device.admitOrQueue_queued hcan', hq]
  refine ⟨fun hroom => hplace ?_, fun rest t hw hlen => ⟨fun hlt => hplace ?_, fun hle => hplace ?_⟩⟩
  · rw [Device.queueOffer_room (by rw [← he]; exact hroom), Device.placeWaiting_eq howed, ← he]
    rfl
  all_goals
    have hwaiting : e.admission.waiting = rest ++ [t] := by rw [← he]; exact hw
    have hfull : Config.pendingMax ≤ e.admission.waiting.length := by
      rw [hwaiting, List.length_append]
      exact Nat.succ_le_succ hlen
    rw [Device.queueOffer_full hwaiting hfull]
  · rw [if_pos hlt, Device.evict_eq howed hwaiting]
    obtain ⟨e', he'⟩ : ∃ e', ((e.updAdmission fun a => { a with waiting := rest }).replied t.offer.key t.offer.generation
      (.refuse .busy)).post (t.offer.ended .busy 0) = e' := ⟨_, rfl⟩
    rw [he', Device.placeWaiting_eq (by rw [← he']; exact howed), ← he', ← he]
    rfl
  · rw [if_neg hle.not_gt, Device.claimReply_replied howed, ← he]
    rfl

end

end Sys2Proof.Machine

/-! The victim of an offer (R114 to R116, O33). -/

namespace Sys2Proof.Machine

section
variable {d : Device} {o : Offer} {l : Landing}

/-- R115: a landing that may be suspended, as to its phase and its window. -/
def Device.unpinned (d : Device) (l : Landing) : Prop :=
  l.phase = .active ∧ d.config.windows[l.offer.fields.window].pinned = false

/-- R114: the landing occupies the EXCLUSIVE window of the offer. -/
def Device.occupies (d : Device) (o : Offer) (l : Landing) : Prop :=
  d.config.windows[o.fields.window].mode = .exclusive ∧ l.offer.fields.window = o.fields.window

theorem Device.occupied_iff_occupies : d.occupied o.fields.window = true ↔ ∃ l ∈ d.admission.landings, d.occupies o l := by
  rw [Device.occupied_iff]
  exact ⟨fun ⟨hmode, l, hl, hw⟩ => ⟨l, hl, hmode, hw⟩, fun ⟨l, hl, hmode, hw⟩ => ⟨hmode, l, hl, hw⟩⟩

/-- R114: the occupant of an EXCLUSIVE window is the first landing of the window. -/
theorem Device.namedVictim_occupied (h : d.occupied o.fields.window = true) :
    d.namedVictim o = some l ↔ ∃ before after, d.admission.landings = before ++ l :: after ∧ d.occupies o l ∧
      ∀ m ∈ before, ¬d.occupies o m := by
  obtain ⟨hmode, -⟩ := Device.occupied_iff.mp h
  simp only [Device.namedVictim, h, if_true, List.find?_eq_some_iff_append, decide_eq_true_eq, Bool.not_eq_true',
    decide_eq_false_iff_not, Device.occupies, hmode, true_and]
  exact ⟨fun ⟨hw, before, after, hsplit, hb⟩ => ⟨before, after, hsplit, hw, hb⟩,
    fun ⟨before, after, hsplit, hw, hb⟩ => ⟨hw, before, after, hsplit, hb⟩⟩

/-- R115: else it is the latest of the least urgent. -/
theorem Device.namedVictim_free (h : d.occupied o.fields.window = false) :
    d.namedVictim o = some l ↔ d.unpinned l ∧ ∃ before after, d.admission.landings = before ++ l :: after ∧
      (∀ m ∈ before, d.unpinned m → m.level ≤ l.level) ∧ ∀ m ∈ after, d.unpinned m → m.level < l.level := by
  have hiff : ∀ m : Landing, (decide (m.phase = .active) && !d.config.windows[m.offer.fields.window].pinned) = true ↔
      d.unpinned m := fun m => by simp [Device.unpinned]
  simp only [Device.namedVictim, h, Bool.false_eq_true, if_false, lastMax_filter_eq_some, hiff]

/-- Settles O33, by whether a landing occupies the window of the offer. -/
theorem victimOfAnOffer : Obligations.VictimOfAnOffer := by
  intro d o l unpinned occupies
  have hnamed : d.victim o = some l ↔ (d.tableFull || d.occupied o.fields.window) = true ∧ d.namedVictim o = some l ∧
      d.maySuspend o l = true := by
    unfold Device.victim
    split
    next hcall => simp [Option.filter_eq_some_iff, hcall]
    next hcall => simp [hcall]
  rw [hnamed, Device.maySuspend_iff]
  by_cases hoccupied : d.occupied o.fields.window = true
  · obtain ⟨m, hm, hmocc⟩ := Device.occupied_iff_occupies.mp hoccupied
    rw [Device.namedVictim_occupied hoccupied]
    constructor
    · rintro ⟨-, ⟨before, after, hsplit, hocc, hbefore⟩, hmay⟩
      exact ⟨hmay, before, after, hsplit, .inl ⟨hocc, hbefore⟩⟩
    · rintro ⟨hmay, before, after, hsplit, ⟨hocc, hbefore⟩ | ⟨-, hnone, -⟩⟩
      · exact ⟨by simp [hoccupied], ⟨before, after, hsplit, hocc, hbefore⟩, hmay⟩
      · exact absurd hmocc (hnone m hm)
  · have hnone : ∀ m ∈ d.admission.landings, ¬d.occupies o m := fun m hm hocc =>
      hoccupied (Device.occupied_iff_occupies.mpr ⟨m, hm, hocc⟩)
    rw [Bool.not_eq_true] at hoccupied
    rw [Device.namedVictim_free hoccupied]
    constructor
    · rintro ⟨hcall, ⟨-, before, after, hsplit, hbefore, hafter⟩, hmay⟩
      have hfull : 8 ≤ d.admission.landings.length := by
        simpa [hoccupied, Device.tableFull] using hcall
      exact ⟨hmay, before, after, hsplit, .inr ⟨hfull, hnone, hbefore, hafter⟩⟩
    · rintro ⟨hmay, before, after, hsplit, ⟨hocc, -⟩ | ⟨hfull, -, hbefore, hafter⟩⟩
      · exact absurd hocc (hnone l (by simp [hsplit]))
      · have hcall : d.tableFull = true := decide_eq_true hfull
        exact ⟨by simp [hcall], ⟨hmay.1, before, after, hsplit, hbefore, hafter⟩, hmay⟩

end

end Sys2Proof.Machine

/-! Admission runs (R79 to R81, R97 to R99): what admissions, resumes and credit leave as it was, and what is left when a
run and its sweep are over. -/

namespace Sys2Proof.Machine

/-! ### Records, as other events see them -/

/-- R78: a record's offer and its blocks accepted and written. -/
def Landing.track (l : Landing) : Offer × Nat × Nat := (l.offer, l.accepted, l.written)

def AdmissionUnit.tracks (a : AdmissionUnit) : List (Offer × Nat × Nat) := (a.landings ++ a.suspended).map Landing.track

/-- R67, R69: what a run needs: each key once, and no landing beyond its limit. -/
structure AdmissionUnit.sound (a : AdmissionUnit) : Prop where
  keys : a.keysOk
  counts : ∀ l ∈ a.landings, l.accepted ≤ l.limit

section
variable {a b : AdmissionUnit} {k : Key}

theorem AdmissionUnit.mem_tracks {t : Offer × Nat × Nat} :
    t ∈ a.tracks ↔ ∃ l ∈ a.landings ++ a.suspended, l.track = t := List.mem_map

theorem AdmissionUnit.keepsOthers_iff : a.keepsOthers b k ↔ ∀ t ∈ a.tracks, t.1.key ≠ k → t ∈ b.tracks := by
  constructor
  · intro h t ht hne
    obtain ⟨l, hl, rfl⟩ := AdmissionUnit.mem_tracks.mp ht
    obtain ⟨m, hm, ho, ha, hw⟩ := h l hl hne
    exact AdmissionUnit.mem_tracks.mpr ⟨m, hm, by rw [Landing.track, ho, ha, hw, Landing.track]⟩
  · intro h l hl hne
    obtain ⟨m, hm, heq⟩ := AdmissionUnit.mem_tracks.mp (h l.track (AdmissionUnit.mem_tracks.mpr ⟨l, hl, rfl⟩) hne)
    simp only [Landing.track, Prod.mk.injEq] at heq
    obtain ⟨ho, ha, hw⟩ := heq
    exact ⟨m, hm, ho, ha, hw⟩

theorem AdmissionUnit.lacks_iff : a.lacks k ↔ (∀ t ∈ a.tracks, t.1.key ≠ k) ∧ ∀ e ∈ a.waiting, e.offer.key ≠ k := by
  simp only [AdmissionUnit.lacks, AdmissionUnit.tracks, List.forall_mem_map, Landing.track]

theorem Device.poolOk_sound {d : Device} (h : d.poolOk) : d.admission.sound :=
  ⟨h.1, fun l hl => (h.2.1 l hl).1⟩

/-- A record or an entry of key `k` gains a landing or a buffer; the others stay as they were. -/
structure AdmissionUnit.Gains (k : Key) (a b : AdmissionUnit) : Prop where
  sound : b.sound
  carried : a.tracks ⊆ b.tracks
  origin : ∀ t ∈ b.tracks, t ∈ a.tracks ∨ ∃ e ∈ a.waiting, e.offer = t.1
  waiting : b.waiting ⊆ a.waiting
  recent : b.recent = a.recent
  known : ¬a.lacks k

theorem AdmissionUnit.keys_tracks (a : AdmissionUnit) :
    a.keys = a.tracks.map (fun t => t.1.key) ++ a.waiting.map (·.offer.key) ++ a.recent.map (·.key) := by
  rw [AdmissionUnit.tracks, List.map_map, List.map_append]
  rfl

/-- R81: a suspended record becomes a landing again. -/
theorem AdmissionUnit.sound.resume (h : a.sound) {l : Landing} (hl : l ∈ a.suspended) (r : Nat) (t : Timer) :
    a.Gains l.offer.key { a with suspended := a.suspended.filter fun m => decide (m.offer.key ≠ l.offer.key),
                                 landings := a.landings ++ [l.resumed r t] } := by
  obtain ⟨b, hb⟩ : ∃ b : AdmissionUnit, { a with suspended := a.suspended.filter fun m => decide (m.offer.key ≠ l.offer.key),
                                                 landings := a.landings ++ [l.resumed r t] } = b := ⟨_, rfl⟩
  have htracks : b.tracks.Perm a.tracks := by
    have hperm := filter_key_perm (key := fun m : Landing => m.offer.key) (a.keysOk_suspended h.keys) hl
    rw [← hb]
    simpa [AdmissionUnit.tracks, Landing.track, Landing.resumed] using (hperm.map Landing.track).append_left (a.landings.map Landing.track)
  have hkeys : b.keys.Perm a.keys := by
    rw [AdmissionUnit.keys_tracks, AdmissionUnit.keys_tracks, ← hb]
    exact ((hb ▸ htracks.map _).append_right _).append_right _
  rw [hb]
  refine ⟨⟨AdmissionUnit.keysOk_of_perm h.keys hkeys, fun m hm => ?_⟩, htracks.symm.subset, fun t ht => .inl (htracks.subset ht),
    by rw [← hb]; exact List.Subset.refl _, by rw [← hb], fun hk => hk.1 l (List.mem_append_right _ hl) rfl⟩
  rw [← hb] at hm
  rcases List.mem_append.mp hm with hm | hm
  · exact h.counts m hm
  · obtain rfl := List.mem_singleton.mp hm
    exact Nat.le_add_right _ _

/-- R75: an entry of the pending list becomes a landing. -/
theorem AdmissionUnit.sound.enter (h : a.sound) {e : PendingEntry} (he : e ∈ a.waiting) {l : Landing} (ho : l.offer = e.offer)
    (hc : l.accepted ≤ l.limit) : a.Gains e.offer.key { a.dropWaiting e.offer.key with landings := a.landings ++ [l] } := by
  obtain ⟨b, hb⟩ : ∃ b : AdmissionUnit, { a.dropWaiting e.offer.key with landings := a.landings ++ [l] } = b := ⟨_, rfl⟩
  obtain ⟨-, hwaiting, -⟩ := a.keysOk_parts h.keys
  have htracks : b.tracks.Perm (l.track :: a.tracks) := by
    rw [← hb]
    simp [AdmissionUnit.tracks, AdmissionUnit.dropWaiting]
  have hkeys : b.keys.Perm a.keys := by
    have hperm := (filter_key_perm (key := fun m : PendingEntry => m.offer.key) hwaiting he).map (·.offer.key)
    have hmoved := (htracks.map (fun t => t.1.key)).append_right (b.waiting.map (·.offer.key))
    rw [AdmissionUnit.keys_tracks, AdmissionUnit.keys_tracks, show b.recent = a.recent by rw [← hb]; rfl]
    refine (hmoved.trans ?_).append_right _
    rw [← hb, List.map_cons, show l.track.1.key = e.offer.key by rw [Landing.track, ho]]
    exact List.perm_middle.symm.trans (hperm.append_left _)
  rw [hb]
  refine ⟨⟨AdmissionUnit.keysOk_of_perm h.keys hkeys, fun m hm => ?_⟩, fun t ht => htracks.symm.subset (List.mem_cons_of_mem _ ht),
    fun t ht => ?_, by rw [← hb]; exact List.filter_subset_self _, by rw [← hb]; rfl, fun hk => hk.2 e he rfl⟩
  · rw [← hb] at hm
    rcases List.mem_append.mp hm with hm | hm
    · exact h.counts m hm
    · obtain rfl := List.mem_singleton.mp hm
      exact hc
  · rcases List.mem_cons.mp (htracks.subset ht) with rfl | ht
    · exact .inr ⟨e, he, ho.symm⟩
    · exact .inl ht

/-- R98: a landing's limit rises. -/
theorem AdmissionUnit.sound.raise (h : a.sound) {l : Landing} (hl : l ∈ a.landings) :
    a.Gains l.offer.key (a.updLanding l.offer.key Landing.raised) := by
  have htracks : (a.updLanding l.offer.key Landing.raised).tracks = a.tracks := by
    rw [AdmissionUnit.tracks, AdmissionUnit.tracks, List.map_append, List.map_append, AdmissionUnit.updLanding, List.map_map]
    refine congrArg (· ++ _) (List.map_congr_left fun m _ => ?_)
    simp only [Function.comp_apply]
    split <;> rfl
  refine ⟨⟨?_, fun m hm => ?_⟩, htracks ▸ List.Subset.refl _, fun t ht => .inl (htracks ▸ ht), List.Subset.refl _,
    rfl, fun hk => hk.1 l (List.mem_append_left _ hl) rfl⟩
  · have hkeys := h.keys
    rw [AdmissionUnit.keysOk, AdmissionUnit.keys_tracks] at hkeys ⊢
    rwa [htracks]
  · obtain ⟨m', hm', rfl⟩ := List.mem_map.mp hm
    split
    · exact (h.counts m' hm').trans (Nat.le_succ _)
    · exact h.counts m' hm'

end

/-! ### Replies -/

/-- A reply to key `k` is claimed: while a reset is owed it is dropped, else the other keys' replies stay. -/
structure Device.answers (k : Key) (d e : Device) : Prop where
  control : e.control = d.control
  initiation : e.span.initiation = d.span.initiation
  mute : d.control.owed = true → e.span.replies = d.span.replies
  others : ∀ r ∈ d.span.replies, r.key ≠ k → r ∈ e.span.replies

section
variable {b d e : Device} {k : Key}

theorem Device.claimReply_answers (d : Device) (k : Key) (g : Generation) (r : ReplyKind) : d.answers k (d.claimReply k g r) := by
  unfold Device.claimReply
  split
  next => exact ⟨rfl, rfl, fun _ => rfl, fun _ hr _ => hr⟩
  next ho => exact ⟨rfl, rfl, fun h => absurd h ho, fun r hr hne => mem_placeReply_of_ne hr hne⟩

theorem Device.claimReceipt_answers (d : Device) (l : Landing) (final : Bool) :
    d.answers l.offer.key (d.claimReceipt l final) := by
  unfold Device.claimReceipt
  split <;> exact Device.claimReply_answers _ _ _ _

/-! ### Runs -/

/-- From block `b`, landings were admitted, resumed or given credit. -/
structure Device.ran (b d : Device) : Prop where
  sound : d.admission.sound
  carried : b.admission.tracks ⊆ d.admission.tracks
  origin : ∀ t ∈ d.admission.tracks, t ∈ b.admission.tracks ∨ ∃ e ∈ b.admission.waiting, e.offer = t.1
  waiting : d.admission.waiting ⊆ b.admission.waiting
  recent : d.admission.recent = b.admission.recent
  initiation : d.span.initiation = b.span.initiation
  mute : d.control.owed = true → d.span.replies = b.span.replies
  replies : ∀ r ∈ b.span.replies, b.admission.lacks r.key → r ∈ d.span.replies

theorem Device.ran_refl (h : d.admission.sound) : d.ran d :=
  ⟨h, List.Subset.refl _, fun _ ht => .inl ht, List.Subset.refl _, rfl, rfl, fun _ => rfl, fun _ hr _ => hr⟩

/-- A run gives no one a record who had none and waited for none. -/
theorem Device.ran.fresh (h : b.ran d) (k : Key) (hk : b.admission.lacks k) : d.admission.lacks k := by
  rw [AdmissionUnit.lacks_iff] at hk ⊢
  obtain ⟨hrecords, hentries⟩ := hk
  refine ⟨fun t ht => ?_, fun e he => hentries e (h.waiting he)⟩
  rcases h.origin t ht with ht | ⟨e, he, heq⟩
  · exact hrecords t ht
  · exact heq ▸ hentries e he

theorem Device.ran.step (h : b.ran d) (hgains : d.admission.Gains k e.admission) (hanswers : d.answers k e) : b.ran e where
  sound := hgains.sound
  carried _ ht := hgains.carried (h.carried ht)
  origin t ht := by
    rcases hgains.origin t ht with ht | ⟨w, hw, heq⟩
    · exact h.origin t ht
    · exact .inr ⟨w, h.waiting hw, heq⟩
  waiting _ hw := h.waiting (hgains.waiting hw)
  recent := hgains.recent.trans h.recent
  initiation := hanswers.initiation.trans h.initiation
  mute ho := by
    rw [hanswers.control] at ho
    exact (hanswers.mute ho).trans (h.mute ho)
  replies r hr hk := hanswers.others r (h.replies r hr hk) fun heq => hgains.known (heq ▸ h.fresh r.key hk)

theorem Device.answers.between {d' e' : Device} (h : d'.answers k e') (hc : d'.control = d.control) (hs : d'.span = d.span)
    (hc' : e.control = e'.control) (hs' : e.span = e'.span) : d.answers k e where
  control := hc'.trans (h.control.trans hc)
  initiation := by rw [hs', h.initiation, hs]
  mute ho := by rw [hs', h.mute (hc ▸ ho), hs]
  others r hr hne := by
    rw [hs']
    exact h.others r (hs ▸ hr) hne

theorem Device.resumeLanding_admission (d : Device) (l : Landing) :
    (d.resumeLanding l).admission =
      { d.admission with suspended := d.admission.suspended.filter fun m => decide (m.offer.key ≠ l.offer.key)
                         landings := d.admission.landings ++
                           [l.resumed (min (min d.config.credit (l.blocks - l.accepted)) d.free) (some d.config.tLand)] } := by
  simp [Device.resumeLanding, Landing.resumed]

theorem Device.admitOffer_admission (d : Device) (o : Offer) :
    (d.admitOffer o).admission =
      { d.admission with landings := d.admission.landings ++
          [{ offer := o, accepted := 0, written := 0, limit := min (min d.config.credit (blockCount o.fields.length)) d.free,
             phase := .active, timer := some d.config.tLand }] } := by
  simp [Device.admitOffer]

theorem Device.raiseLimit_admission (d : Device) (l : Landing) :
    (d.raiseLimit l).admission = d.admission.updLanding l.offer.key Landing.raised := by
  simp only [Device.raiseLimit, Device.claimReceipt_keeps]
  rfl

theorem Device.resumeLanding_answers (d : Device) (l : Landing) : d.answers l.offer.key (d.resumeLanding l) :=
  (Device.claimReply_answers (d.updAdmission _) l.offer.key l.offer.generation _).between rfl rfl rfl rfl

theorem Device.admitOffer_answers (d : Device) (o : Offer) : d.answers o.key (d.admitOffer o) :=
  (Device.claimReply_answers (d.updAdmission _) o.key o.generation _).between rfl rfl rfl rfl

theorem Device.raiseLimit_answers (d : Device) (l : Landing) : d.answers l.offer.key (d.raiseLimit l) :=
  (Device.claimReceipt_answers (d.updAdmission _) { l with limit := l.limit + 1 } false).between rfl rfl rfl rfl

/-- The key of a candidate. -/
def Candidate.key : Candidate → Key
  | .resume l => l.offer.key
  | .enter e => e.offer.key

theorem Device.takeCandidate_answers (d : Device) (c : Candidate) : d.answers c.key (d.takeCandidate c) := by
  cases c with
  | resume l => exact d.resumeLanding_answers l
  | enter e =>
    exact ((d.updAdmission (·.dropWaiting e.offer.key)).admitOffer_answers e.offer).between rfl rfl rfl rfl

theorem Device.takeCandidate_gains {c : Candidate} (h : d.admission.sound) (hq : d.Qualifies c) :
    d.admission.Gains c.key (d.takeCandidate c).admission := by
  cases c with
  | resume l =>
    obtain ⟨hl, -⟩ := hq
    rw [Device.takeCandidate, d.resumeLanding_admission l]
    exact h.resume hl _ _
  | enter e =>
    obtain ⟨he, -⟩ := hq
    rw [Device.takeCandidate, Device.admitOffer_admission]
    exact h.enter he rfl (Nat.zero_le _)

theorem ranRule (b : Device) : RunRule b.ran where
  takes {d c} hq h := h.step (Device.takeCandidate_gains h.sound hq) (d.takeCandidate_answers c)
  raises {d l} _ hl h := by
    obtain ⟨hmem, -⟩ := Device.bestTaker_taker hl
    refine h.step (k := l.offer.key) ?_ (d.raiseLimit_answers l)
    rw [Device.raiseLimit_admission]
    exact h.sound.raise hmem

theorem Device.runAndSweep_ran (h : d.admission.sound) : d.ran d.runAndSweep := (ranRule d).runAndSweep (Device.ran_refl h)

theorem Device.distribute_ran (h : d.admission.sound) : d.ran d.distribute := (ranRule d).distribute (Device.ran_refl h)

/-! ### The end of a run (R80, R99) -/

theorem Device.bestCandidate_of_full (h : Config.landingSlots ≤ d.admission.landings.length) : d.bestCandidate = none := by
  have hnot : ∀ w, d.canAdmit w = false := fun w => by
    rw [Bool.eq_false_iff, ne_eq, Device.canAdmit_iff]
    exact fun ⟨hroom, _⟩ => absurd hroom h.not_gt
  exact Device.bestCandidate_none.mpr ⟨fun _ _ => hnot _, fun _ _ => hnot _⟩

/-- A candidate that is taken becomes the last landing of the table. -/
theorem Device.takeCandidate_landings (d : Device) (c : Candidate) :
    ∃ l, (d.takeCandidate c).admission.landings = d.admission.landings ++ [l] := by
  cases c with
  | resume l =>
    rw [Device.takeCandidate, Device.resumeLanding_admission]
    exact ⟨_, rfl⟩
  | enter e =>
    rw [Device.takeCandidate, Device.admitOffer_admission]
    exact ⟨_, rfl⟩

theorem Device.takeCandidate_length (d : Device) (c : Candidate) :
    (d.takeCandidate c).admission.landings.length = d.admission.landings.length + 1 := by
  obtain ⟨l, hl⟩ := d.takeCandidate_landings c
  rw [hl, List.length_append, List.length_singleton]

/-- A candidate that is taken makes no other qualify. -/
theorem Device.takeCandidate_canAdmit (d : Device) (c : Candidate) {w : WindowNo} (hw : (d.takeCandidate c).canAdmit w = true) :
    d.canAdmit w = true := by
  obtain ⟨l, hl⟩ := d.takeCandidate_landings c
  obtain ⟨hroom, hoccupied, hfree⟩ := Device.canAdmit_iff.mp hw
  rw [Device.takeCandidate_length] at hroom
  refine Device.canAdmit_iff.mpr ⟨by omega, ?_, ?_⟩
  · rw [Bool.eq_false_iff, ne_eq, Device.occupied_iff] at hoccupied ⊢
    rintro ⟨hmode, m, hm, hwin⟩
    exact hoccupied ⟨by simpa using hmode, m, by rw [hl]; exact List.mem_append_left _ hm, hwin⟩
  · have hport : (d.takeCandidate c).port = d.port := by simp
    simp only [Device.free, Device.holding, AdmissionUnit.reserved, hport, hl, List.map_append, List.sum_append] at hfree ⊢
    omega

/-- R80: eight rounds leave no candidate that qualifies. -/
theorem Device.admissionRun_ends (fuel : Nat) (h : Config.landingSlots ≤ fuel + d.admission.landings.length) :
    (Device.admissionRun fuel d).bestCandidate = none := by
  induction fuel generalizing d with
  | zero =>
    rw [Nat.zero_add] at h
    exact Device.bestCandidate_of_full h
  | succ fuel ih =>
    unfold Device.admissionRun
    split
    next c _ =>
      refine ih ?_
      rw [Device.takeCandidate_length]
      omega
    next hnone => exact hnone

/-- R98: a landing that gains a buffer takes a free one. -/
theorem Device.raiseLimit_free (h : d.admission.sound) {l : Landing} (hl : d.bestTaker = some l) (hfree : 0 < d.free) :
    (d.raiseLimit l).free + 1 = d.free := by
  obtain ⟨hmem, hphase, -, -⟩ := Device.bestTaker_spec hl
  have hreserved := AdmissionUnit.reserved_updLanding h.keys hmem Landing.raised
  have hle := h.counts l hmem
  simp only [Device.free, Device.holding] at hfree ⊢
  rw [Device.raiseLimit_admission, show (d.raiseLimit l).port = d.port by simp]
  simp only [Landing.reserved, Landing.raised, hphase] at hreserved
  omega

/-- R98: a gained buffer makes no candidate qualify. -/
theorem Device.raiseLimit_canAdmit (l : Landing) (hfree : 0 < d.free) {w : WindowNo}
    (hw : (d.raiseLimit l).canAdmit w = true) : d.canAdmit w = true := by
  obtain ⟨hroom, hoccupied, -⟩ := Device.canAdmit_iff.mp hw
  rw [Device.raiseLimit_admission, AdmissionUnit.updLanding, List.length_map] at hroom
  refine Device.canAdmit_iff.mpr ⟨hroom, ?_, hfree⟩
  rw [Bool.eq_false_iff, ne_eq, Device.occupied_iff] at hoccupied ⊢
  rintro ⟨hmode, m, hm, hwin⟩
  refine hoccupied ⟨by simpa using hmode, if m.offer.key = l.offer.key then m.raised else m, ?_, ?_⟩
  · rw [Device.raiseLimit_admission]
    exact List.mem_map.mpr ⟨m, hm, rfl⟩
  · split <;> exact hwin

theorem Device.raiseLimit_bestCandidate (l : Landing) (hfree : 0 < d.free)
    (hnone : d.bestCandidate = none) : (d.raiseLimit l).bestCandidate = none := by
  have hcan : ∀ w, (d.raiseLimit l).canAdmit w = true → d.canAdmit w = true := fun _ => Device.raiseLimit_canAdmit l hfree
  obtain ⟨hsuspended, hwaiting⟩ := Device.bestCandidate_none.mp hnone
  refine Device.bestCandidate_none.mpr ⟨fun m hm => ?_, fun e he => ?_⟩
  · rw [Device.raiseLimit_admission] at hm
    exact Bool.eq_false_iff.mpr fun hc => Bool.eq_false_iff.mp (hsuspended m hm) (hcan _ hc)
  · rw [Device.raiseLimit_admission] at he
    exact Bool.eq_false_iff.mpr fun hc => Bool.eq_false_iff.mp (hwaiting e he) (hcan _ hc)

theorem Device.noneWaits_iff : d.noneWaits ↔ d.bestCandidate = none ∧ (d.free = 0 ∨ d.bestTaker = none) := by
  rw [Device.bestCandidate_none, Device.bestTaker_none, and_assoc]

/-- R99: a sweep with a round for each free buffer leaves none that a landing could take. -/
theorem Device.sweep_ends (fuel : Nat) (h : d.admission.sound) (hnone : d.bestCandidate = none) (hfuel : d.free ≤ fuel) :
    (Device.sweep fuel d).noneWaits := by
  induction fuel generalizing d with
  | zero => exact Device.noneWaits_iff.mpr ⟨hnone, .inl (Nat.le_zero.mp hfuel)⟩
  | succ fuel ih =>
    unfold Device.sweep
    split
    next hfree => exact Device.noneWaits_iff.mpr ⟨hnone, .inl hfree⟩
    next hfree =>
      have hpos := Nat.pos_of_ne_zero hfree
      split
      next l hl =>
        have hless := Device.raiseLimit_free h hl hpos
        refine ih ?_ (Device.raiseLimit_bestCandidate l hpos hnone) (by omega)
        rw [Device.raiseLimit_admission]
        exact (h.raise (Device.bestTaker_taker hl).1).sound
      next hl => exact Device.noneWaits_iff.mpr ⟨hnone, .inr hl⟩

/-- R80, R99: after a run and its sweep nothing waits that could be served. -/
theorem Device.runAndSweep_noneWaits (hruns : d.control.runs = true) (h : d.admission.sound) : d.runAndSweep.noneWaits := by
  have hran := (ranRule d).admissionRun Config.landingSlots (Device.ran_refl h)
  rw [Device.runAndSweep, if_pos hruns]
  exact Device.sweep_ends _ hran.sound (Device.admissionRun_ends _ (Nat.le_add_right _ _)) (Nat.sub_le _ _)

end

end Sys2Proof.Machine

/-! The events that call for an admission run (R79, R97, R101, R102), and the order in which a run chooses (O35). -/

namespace Sys2Proof.Machine

section
variable {a b : AdmissionUnit} {d e : Device} {k : Key}

theorem AdmissionUnit.sound.fewer (h : a.sound) (hl : b.landings.Sublist a.landings) (hs : b.suspended.Sublist a.suspended)
    (hw : b.waiting.Sublist a.waiting) (hr : b.recent.Sublist a.recent) : b.sound :=
  ⟨h.keys.sublist ((((hl.map _).append (hs.map _)).append (hw.map _)).append (hr.map _)), fun l hm => h.counts l (hl.subset hm)⟩

theorem AdmissionUnit.sound.dropRecord (h : a.sound) (k : Key) : (a.dropRecord k).sound :=
  h.fewer List.filter_sublist List.filter_sublist (.refl _) (.refl _)

theorem AdmissionUnit.sound.dropWaiting (h : a.sound) (k : Key) : (a.dropWaiting k).sound :=
  h.fewer (.refl _) (.refl _) List.filter_sublist (.refl _)

/-- R110: a landed key is remembered. -/
theorem AdmissionUnit.sound.remember (h : a.sound) {r : RecentEntry} (hfresh : r.key ∉ a.keys) : (a.addRecent r).sound := by
  refine ⟨?_, h.counts⟩
  have hless : (if a.recent.length < Config.recentMax then a.recent else a.recent.drop 1).Sublist a.recent := by
    split
    next => exact .refl _
    next => exact List.drop_sublist _ _
  have hkeys : (a.addRecent r).keys =
      a.landings.map (·.offer.key) ++ a.suspended.map (·.offer.key) ++ a.waiting.map (·.offer.key) ++
        (if a.recent.length < Config.recentMax then a.recent else a.recent.drop 1).map (·.key) ++ [r.key] := by
    simp [AdmissionUnit.keys, AdmissionUnit.addRecent]
  rw [AdmissionUnit.keysOk, hkeys]
  refine (List.perm_append_singleton _ _).symm.nodup_iff.mp ?_
  exact (List.nodup_cons.mpr ⟨hfresh, h.keys⟩).sublist (((List.Sublist.refl _).append (hless.map _)).cons_cons _)

/-- A change of the records of a key that keeps their offers and their counts of blocks granted. -/
theorem AdmissionUnit.sound.updRecord (h : a.sound) (k : Key) {f : Landing → Landing} (hf : ∀ l, (f l).offer = l.offer)
    (hc : ∀ l, l.accepted ≤ l.limit → (f l).accepted ≤ (f l).limit) : (a.updRecord k f).sound := by
  refine ⟨?_, fun l hl => ?_⟩
  · rw [AdmissionUnit.keysOk, AdmissionUnit.keys_updRecord k hf]
    exact h.keys
  · obtain ⟨m, hm, rfl⟩ := List.mem_map.mp hl
    split
    next => exact hc m (h.counts m hm)
    next => exact h.counts m hm

theorem Device.completeLanding_sound (h : d.admission.sound) {l : Landing} (hl : l ∈ d.admission.landings) :
    (d.completeLanding l).admission.sound := by
  have hlanded := (h.dropRecord l.offer.key).remember
    (r := { key := l.offer.key, generation := l.offer.generation, blocks := l.blocks })
    (AdmissionUnit.dropRecord_fresh h.keys (List.mem_append_left _ hl))
  unfold Device.completeLanding
  dsimp only
  split
  next => simpa [Device.removeRecord] using hlanded
  next => exact hlanded

theorem Device.placeFreed_sound (h : d.admission.sound) (k : Key) : (d.placeFreed k).admission.sound := by
  unfold Device.placeFreed
  split
  next l hl =>
    obtain ⟨hmem, rfl⟩ := AdmissionUnit.landing_spec hl
    split
    next => exact (h.raise hmem).sound
    next => exact (Device.distribute_ran h).sound
  next => exact (Device.distribute_ran h).sound

theorem Device.reportWrite_sound (h : d.admission.sound) (k : Key) : (d.reportWrite k).admission.sound := by
  unfold Device.reportWrite
  split
  next l hl =>
    obtain ⟨hmem, -⟩ := AdmissionUnit.landing_spec hl
    dsimp only
    split
    next =>
      refine Device.completeLanding_sound ?_ ?_
      · simpa using h
      · simpa using hmem
    next => simpa using h
  next => exact h

theorem Device.noneWaits_of_keeps (h : d.noneWaits) (ha : e.admission = d.admission) (hw : e.port.writes = d.port.writes)
    (hc : e.config = d.config) : e.noneWaits := by
  have hfree : e.free = d.free := by rw [Device.free, Device.free, Device.holding, Device.holding, ha, hw]
  have hcan : ∀ w, e.canAdmit w = d.canAdmit w := fun w => by
    rw [Device.canAdmit, Device.canAdmit, Device.tableFull, Device.tableFull, Device.occupied, Device.occupied, hfree, ha, hc]
  rw [Device.noneWaits, hfree, ha, hc]
  simp only [hcan]
  exact h

theorem Device.settle_noneWaits (h : d.noneWaits) : d.settle.noneWaits :=
  Device.noneWaits_of_keeps h (by simp) (by simp) (by simp)

theorem StationControl.runs_of_onSpan {c : StationControl} (h : c.state = .joining ∨ c.state = .joined) : c.runs = true := by
  rcases h with h | h <;> simp [StationControl.runs, h]

theorem Device.writeDone_noneWaits (h : d.admission.sound) (hruns : d.control.runs = true) (owner : Option Key) :
    (d.writeDone owner).noneWaits := by
  cases owner with
  | none => exact Device.runAndSweep_noneWaits (by simpa using hruns) (Device.distribute_ran h).sound
  | some k =>
    have hstored : (d.updAdmission (·.updRecord k Landing.stored)).admission.sound := h.updRecord k (fun _ => rfl) fun _ hc => hc
    exact Device.runAndSweep_noneWaits (by simpa using hruns) (Device.reportWrite_sound (Device.placeFreed_sound hstored k) k)

theorem Device.writeFailed_noneWaits (h : d.admission.sound) (hruns : d.control.runs = true) (owner : Option Key) :
    (d.writeFailed owner).noneWaits := by
  have hspread := Device.runAndSweep_noneWaits (d := d.distribute) (by simpa using hruns) (Device.distribute_ran h).sound
  cases owner with
  | none => exact hspread
  | some k =>
    unfold Device.writeFailed
    dsimp only
    split
    next l _ => exact Device.runAndSweep_noneWaits (by simpa using hruns) (by simpa using h.dropRecord k)
    all_goals exact hspread

theorem Device.landTimeout_noneWaits (h : d.admission.sound) (hruns : d.control.runs = true) (l : Landing) :
    (d.landTimeout l).noneWaits :=
  Device.runAndSweep_noneWaits (by simpa using hruns) (by simpa [Device.removeRecord] using h.dropRecord l.offer.key)

end

/-- R97, R101, R102: the events that call for a run while the station is on the span. -/
theorem exec_callsForRun {i : Instr} {s t : State} (hs : s.dev.control.state = .joining ∨ s.dev.control.state = .joined)
    (h : s.dev.admission.sound) (ht : exec i s = .next t)
    (hi : i = .writeCompletion ∨ i = .writeError ∨ ∃ x ch, i = .landingTimerExpiry x ch) : t.dev.noneWaits := by
  have hruns := StationControl.runs_of_onSpan hs
  rcases hi with rfl | rfl | ⟨x, ch, rfl⟩
  · change execWriteCompletion s = _ at ht
    unfold execWriteCompletion at ht
    split at ht
    next =>
      obtain rfl := Host.Outcome.next.inj ht
      exact Device.settle_noneWaits (Device.writeDone_noneWaits (d := s.dev.popWrite) h hruns _)
    all_goals cases ht
  · change execWriteError s = _ at ht
    unfold execWriteError at ht
    split at ht
    next =>
      obtain rfl := Host.Outcome.next.inj ht
      exact Device.settle_noneWaits (Device.writeFailed_noneWaits (d := s.dev.popWrite) h hruns _)
    all_goals cases ht
  · change execLandingTimerExpiry x ch s = _ at ht
    unfold execLandingTimerExpiry at ht
    split at ht
    next =>
      split at ht
      next =>
        obtain rfl := Host.Outcome.next.inj ht
        exact Device.settle_noneWaits (Device.landTimeout_noneWaits h hruns _)
      next => cases ht
    next => cases ht

/-- R81: a resume while no reset is owed. -/
theorem Device.resumeLanding_eq {d : Device} {l : Landing} (ho : d.control.owed = false) :
    d.resumeLanding l =
      ((d.updAdmission fun a =>
        { a with suspended := a.suspended.filter fun m => decide (m.offer.key ≠ l.offer.key)
                 landings := a.landings ++
                   [l.resumed (min (min d.config.credit (l.blocks - l.accepted)) d.free) (some d.config.tLand)] }).replied
        l.offer.key l.offer.generation
        (.grant l.accepted (l.accepted + min (min d.config.credit (l.blocks - l.accepted)) d.free))).post
        (.landingResumed l.offer.key l.offer.fields.window l.offer.generation l.byteCount) := by
  unfold Device.resumeLanding
  dsimp only
  rw [Device.claimReply_replied (d := d.updAdmission _) ho]
  rfl

/-- Settles O35: the choice of a run, a resume, and what the run leaves. -/
theorem runsTakeTheFirstCandidate : Obligations.RunsTakeTheFirstCandidate := by
  refine ⟨fun d l h => ?_, fun d e h => ?_, fun d l ho => ?_, fun c s t hs hpool hbounded ht hc =>
    exec_callsForRun hs (Device.poolOk_sound hpool) ht hc⟩
  · obtain ⟨hfirst, hwaiting⟩ := Device.bestCandidate_resume h
    obtain ⟨hcan, hsplit⟩ := firstMin_filter_eq_some.mp hfirst
    exact ⟨hcan, hsplit, hwaiting⟩
  · obtain ⟨hfirst, hsuspended⟩ := Device.bestCandidate_enter h
    obtain ⟨hcan, hsplit⟩ := firstMin_filter_eq_some.mp hfirst
    exact ⟨hcan, hsplit, hsuspended⟩
  · intro r resumed
    exact Device.resumeLanding_eq ho

end Sys2Proof.Machine

/-! A WITHDRAW at the target (R82, O38): the record goes, its blocks stay, and a run follows. -/

namespace Sys2Proof.Machine

section
variable {a b : AdmissionUnit} {d e : Device} {k : Key}

theorem AdmissionUnit.dropRecord_keepsOthers (a : AdmissionUnit) (k : Key) : a.keepsOthers (a.dropRecord k) k := by
  intro l hl hne
  refine ⟨l, ?_, rfl, rfl, rfl⟩
  rcases List.mem_append.mp hl with hl | hl
  · exact List.mem_append_left _ (List.mem_filter.mpr ⟨hl, decide_eq_true hne⟩)
  · exact List.mem_append_right _ (List.mem_filter.mpr ⟨hl, decide_eq_true hne⟩)

theorem AdmissionUnit.keepsOthers_of_same (k : Key) (hl : b.landings = a.landings) (hs : b.suspended = a.suspended) :
    a.keepsOthers b k := fun l hmem _ => ⟨l, by rwa [hl, hs], rfl, rfl, rfl⟩

theorem AdmissionUnit.keepsOthers.trans {c : AdmissionUnit} (h : a.keepsOthers b k) (hc : b.keepsOthers c k) :
    a.keepsOthers c k := by
  intro l hl hne
  obtain ⟨m, hm, ho, ha, hw⟩ := h l hl hne
  obtain ⟨m', hm', ho', ha', hw'⟩ := hc m hm (ho ▸ hne)
  exact ⟨m', hm', ho'.trans ho, ha'.trans ha, hw'.trans hw⟩

theorem Device.ran.keepsOthers (h : d.ran e) (k : Key) : d.admission.keepsOthers e.admission k :=
  AdmissionUnit.keepsOthers_iff.mpr fun _ ht _ => h.carried ht

theorem AdmissionUnit.dropRecord_lacks (h : a.keysOk) {l : Landing} (hl : l ∈ a.landings ++ a.suspended) :
    (a.dropRecord l.offer.key).lacks l.offer.key := (AdmissionUnit.not_mem_keys.mp (AdmissionUnit.dropRecord_fresh h hl)).1

theorem AdmissionUnit.dropWaiting_lacks (h : a.keysOk) {w : PendingEntry} (hw : w ∈ a.waiting) :
    (a.dropWaiting w.offer.key).lacks w.offer.key := (AdmissionUnit.not_mem_keys.mp (AdmissionUnit.dropWaiting_fresh h hw)).1

/-- The notices of a run are those of its resumes. -/
theorem Device.runAndSweep_posts (d : Device) : d.lport.Posts Notice.ofResume d.runAndSweep.lport :=
  (d.runAndSweep_tells fun _ _ _ _ => rfl).posts

theorem MemoryPort.clearOwner_eq (p : MemoryPort) (k : Key) : p.clearOwner k = p.orphaned k := by
  refine congrArg (fun ws => ({ p with writes := ws } : MemoryPort)) (List.map_congr_left fun w _ => ?_)
  by_cases hw : w.owner = some k
  · simp only [hw, if_true]
  · simp only [hw, if_false]

/-- R139: an entry of the pending list owns no write, so the write queue is as it was. -/
theorem MemoryPort.orphaned_of_none {p : MemoryPort} (h : ∀ w ∈ p.writes, w.owner ≠ some k) : p.orphaned k = p := by
  have hsame : (p.writes.map fun w : WriteEntry => { w with owner := if w.owner = some k then none else w.owner }) = p.writes := by
    refine (List.map_congr_left fun w hw => ?_).trans (List.map_id _)
    simp only [if_neg (h w hw), id]
  rw [MemoryPort.orphaned, hsame]

/-- R139: every reference of the write queue names a record. -/
theorem Device.poolOk_owner (h : d.poolOk) (hl : ∀ l ∈ d.admission.landings ++ d.admission.suspended, l.offer.key ≠ k) :
    ∀ w ∈ d.port.writes, w.owner ≠ some k := by
  intro w hw hk
  obtain ⟨-, -, -, -, -, howners, -⟩ := h
  obtain ⟨l, hmem, hkey⟩ := howners w hw k hk
  exact hl l hmem hkey

/-- R82: the record or entry of key `k` is gone, its blocks are still written, and the rest of the block is as it was but for
replies, notices and what a run admits. -/
structure Device.Removes (k : Key) (d e : Device) : Prop where
  sound : e.admission.sound
  lacks : e.admission.lacks k
  keepsOthers : d.admission.keepsOthers e.admission k
  recent : e.admission.recent = d.admission.recent
  port : e.port = d.port.orphaned k
  channels : e.channels = d.channels
  control : e.control = d.control
  halt : e.halt = d.halt

theorem Device.removeRecord_removes (h : d.admission.sound) {l : Landing} (hl : l ∈ d.admission.landings ++ d.admission.suspended) :
    d.Removes l.offer.key (d.removeRecord l.offer.key) where
  sound := h.dropRecord _
  lacks := AdmissionUnit.dropRecord_lacks h.keys hl
  keepsOthers := AdmissionUnit.dropRecord_keepsOthers _ _
  recent := rfl
  port := MemoryPort.clearOwner_eq _ _
  channels := rfl
  control := rfl
  halt := rfl

theorem Device.dropWaiting_removes (h : d.poolOk) {w : PendingEntry} (hw : w ∈ d.admission.waiting) :
    d.Removes w.offer.key (d.updAdmission (·.dropWaiting w.offer.key)) where
  sound := (Device.poolOk_sound h).dropWaiting _
  lacks := AdmissionUnit.dropWaiting_lacks h.1 hw
  keepsOthers := AdmissionUnit.keepsOthers_of_same _ rfl rfl
  recent := rfl
  port := by
    obtain ⟨-, -, -, hother, -⟩ := AdmissionUnit.keysOk_parts h.1
    exact (MemoryPort.orphaned_of_none (Device.poolOk_owner h (hother w hw))).symm
  channels := rfl
  control := rfl
  halt := rfl

theorem Device.Removes.of_keeps {g : Device} (h : d.Removes k e) (ha : g.admission = e.admission) (hp : g.port = e.port)
    (hch : g.channels = e.channels) (hc : g.control = e.control) (hh : g.halt = e.halt) : d.Removes k g where
  sound := ha ▸ h.sound
  lacks := ha ▸ h.lacks
  keepsOthers := ha ▸ h.keepsOthers
  recent := ha ▸ h.recent
  port := hp.trans h.port
  channels := hch.trans h.channels
  control := hc.trans h.control
  halt := hh.trans h.halt

/-- R79: the run that follows admits no one anew for the key. -/
theorem Device.Removes.run (h : d.Removes k e) : d.Removes k e.runAndSweep := by
  have hran := Device.runAndSweep_ran h.sound
  obtain ⟨hcontrol, -, hchannels, hport, hhalt⟩ := e.runAndSweep_keeps
  exact ⟨hran.sound, hran.fresh k h.lacks, h.keepsOthers.trans (hran.keepsOthers k), hran.recent.trans h.recent,
    hport.trans h.port, hchannels.trans h.channels, hcontrol.trans h.control, hhalt.trans h.halt⟩

theorem Device.handleWithdraw_record {l : Landing} (h : d.admission.keysOk) (hl : l ∈ d.admission.landings ++ d.admission.suspended)
    (r : WithdrawReason) :
    d.handleWithdraw l.offer.key l.offer.generation r =
      ((d.removeRecord l.offer.key).post (l.offer.ended (.withdrawn r) l.byteCount)).runAndSweep := by
  simp only [Device.handleWithdraw, AdmissionUnit.find_record h hl, if_true]

theorem Device.handleWithdraw_waiting {w : PendingEntry} (h : d.admission.keysOk) (hw : w ∈ d.admission.waiting)
    (r : WithdrawReason) :
    d.handleWithdraw w.offer.key w.offer.generation r =
      ((d.updAdmission (·.dropWaiting w.offer.key)).post (w.offer.ended (.withdrawn r) 0)).runAndSweep := by
  simp only [Device.handleWithdraw, AdmissionUnit.find_waiting h hw, if_true]

theorem Device.handleWithdraw_ignored {g : Generation} (r : WithdrawReason)
    (hl : ∀ l ∈ d.admission.landings ++ d.admission.suspended, l.offer.key = k → l.offer.generation ≠ g)
    (hw : ∀ w ∈ d.admission.waiting, w.offer.key = k → w.offer.generation ≠ g) : d.handleWithdraw k g r = d := by
  unfold Device.handleWithdraw
  split
  next l hf =>
    obtain ⟨hmem, hkey⟩ := AdmissionUnit.find_landing hf
    exact if_neg (hl l hmem hkey)
  next e hf =>
    obtain ⟨hmem, hkey⟩ := AdmissionUnit.find_pending hf
    exact if_neg (hw e hmem hkey)
  all_goals rfl

theorem exec_withdrawArrives_of_hears {s : State} {x : Station} (hx : s.dev.hears x) (c : ChannelNo) (g : Generation)
    (r : WithdrawReason) : exec (.withdrawArrives x c g r) s =
      s.next (s.dev.handleWithdraw { source := x, channel := c } g r).settle :=
  congrArg s.next (Device.arrive_of_hears hx _)

/-- Settles O38: the record or the entry is removed, and the run keeps what is left. -/
theorem withdrawRemovesTheRecord : Obligations.WithdrawRemovesTheRecord := by
  intro s x c g reason hx hpool hbounded key removed
  have hsound := Device.poolOk_sound hpool
  have hremoved : ∀ (o : Offer) (bytes : Nat) (b : Device), o.key = key → o.generation = g →
      s.dev.handleWithdraw key g reason = (b.post (o.ended (.withdrawn reason) bytes)).runAndSweep → b.lport = s.dev.lport →
      s.dev.Removes key b → removed o bytes := by
    intro o bytes b hkey hgen hhandled hlport hb
    have hposted : s.dev.Removes key (b.post (o.ended (.withdrawn reason) bytes)) := hb.of_keeps rfl rfl rfl rfl rfl
    have hran := hposted.run
    obtain ⟨ns, -, hns⟩ := (b.post (o.ended (.withdrawn reason) bytes)).runAndSweep_posts
    have hruns : b.control.runs = true := by
      rw [hb.control]
      exact StationControl.runs_of_onSpan hx.1
    refine ⟨_, by rw [exec_withdrawArrives_of_hears hx, hhandled], hran.lacks, ⟨ns, ?_⟩, hran.keepsOthers, hran.recent, hran.port,
      Device.runAndSweep_noneWaits hruns hposted.sound, hran.channels, hran.control, hran.halt⟩
    rw [hns, ← hkey, ← hgen, ← hlport]
    rfl
  refine ⟨fun l hl hkey hgen => ?_, fun w hw hkey hgen => ?_, fun hl hw hserved => ?_⟩
  · refine hremoved _ _ (s.dev.removeRecord l.offer.key) hkey hgen ?_ rfl (hkey ▸ Device.removeRecord_removes hsound hl)
    rw [← hkey, ← hgen]
    exact Device.handleWithdraw_record hsound.keys hl reason
  · refine hremoved _ _ (s.dev.updAdmission (·.dropWaiting w.offer.key)) hkey hgen ?_ rfl (hkey ▸ Device.dropWaiting_removes hpool hw)
    rw [← hkey, ← hgen]
    exact Device.handleWithdraw_waiting hsound.keys hw reason
  · rw [exec_withdrawArrives_of_hears hx, Device.handleWithdraw_ignored reason hl hw, Device.settle_served_of_hears hx hserved]
    rfl

end

end Sys2Proof.Machine

/-! The timers of a transfer and of a landing (R61, R65, R78, R102, R107 to R109, R126; O53). -/

namespace Sys2Proof.Machine

/-! ### Falling back (R108, R109) -/

/-- R108, R109: the channel as it falls back to this block. -/
def Channel.fallen (ch : Channel) (block : Nat) : Channel :=
  { ch with next := block, state := .streaming, buffers := ch.buffers.map (FetchBuffer.keptBy (FetchBuffer.holdsWanted block)) }

section
variable {d : Device} {c : ChannelNo}

theorem Device.fallBack_recast (d : Device) (c : ChannelNo) (block : Nat) :
    d.fallBack c block =
      (d.recast c (d.channels[c].fallen block) (d.channels[c].givesUp c (FetchBuffer.holdsWanted block))).requestReads c := by
  unfold Device.fallBack
  dsimp only
  rw [Device.emptyBuffers_recast, Device.recast_updChannel]
  rfl

theorem Channel.fallen_holding {ch : Channel} {block : Nat} {b : Fin 2} {n : Nat} {data : List Byte} :
    (ch.fallen block).buffers[b] = .holding n data ↔ ch.buffers[b] = .holding n data ∧ (n = block ∨ n = block + 1) := by
  have hmap : (ch.fallen block).buffers[b] = ch.buffers[b].keptBy (FetchBuffer.holdsWanted block) := Vector.getElem_map ..
  rw [hmap, FetchBuffer.keptBy]
  rcases hb : ch.buffers[b] with - | m | ⟨m, held⟩
  · simp [FetchBuffer.holdsWanted]
  · simp [FetchBuffer.holdsWanted]
  · simp only [FetchBuffer.holdsWanted, Bool.or_eq_true, beq_iff_eq]
    split
    next hwanted =>
      constructor
      · rintro ⟨rfl, rfl⟩
        exact ⟨rfl, hwanted⟩
      · exact fun h => h.1
    next hno =>
      constructor
      · nofun
      · rintro ⟨heq, hwanted⟩
        obtain ⟨rfl, -⟩ := FetchBuffer.holding.inj heq
        exact absurd hwanted hno

/-- A read is requested into an empty buffer, so the buffers that hold a block are as they were. -/
theorem Channel.Asks.holding {want : Nat → Prop} {ch ch' : Channel} (h : ch.Asks want ch') {b : Fin 2} {n : Nat}
    {data : List Byte} : ch'.buffers[b] = .holding n data ↔ ch.buffers[b] = .holding n data := by
  rcases h.2 b with heq | ⟨hempty, m, -, -, hfetch⟩
  · rw [heq]
  · rw [hempty, hfetch]
    exact ⟨nofun, nofun⟩

/-- R61: while OFFERs may still be sent, one is. -/
theorem Device.resendOffer_again {a : Descriptor} (ha : d.channels[c].active = some a) (hs : d.channels[c].sends < 4) :
    d.resendOffer c = (d.claimOffer c a).updChannel c fun ch => { ch with sends := ch.sends + 1, timer := some d.config.tReply } := by
  simp only [Device.resendOffer, ha]
  exact if_pos hs

theorem Device.resendOffer_gives_up {a : Descriptor} (ha : d.channels[c].active = some a) (hs : 4 ≤ d.channels[c].sends) :
    d.resendOffer c = d.ended c a .noReply (some (.withdraw .noReply)) := by
  simp only [Device.resendOffer, ha]
  rw [if_neg (Nat.not_lt.mpr hs), Device.endTransfer_ended d c a .noReply none (by decide) ha]
  rfl

theorem Device.streamExpiry_gives_up {a : Descriptor} (ha : d.channels[c].active = some a) (hr : 3 ≤ d.channels[c].retry) :
    d.streamExpiry c = d.ended c a .noReply (some (.withdraw .noReply)) :=
  (if_pos hr).trans (Device.endTransfer_ended d c a .noReply none (by decide) ha)

/-- R107: the channel once its retry is counted. -/
def Channel.retried (ch : Channel) (tReply : Nat) : Channel := { ch with retry := ch.retry + 1, timer := some tReply }

/-- The block with channel c put in place of its own. -/
def Device.setChannel (d : Device) (c : ChannelNo) (ch : Channel) : Device := { d with channels := d.channels.set c ch }

theorem Device.streamExpiry_retries (hr : d.channels[c].retry < 3) :
    d.streamExpiry c = (d.setChannel c (d.channels[c].retried d.config.tReply)).goBackOrProbe c :=
  if_neg (Nat.not_le.mpr hr)

theorem Device.setChannel_same (ch : Channel) : (d.setChannel c ch).channels[c] = ch := Vector.getElem_set_self _

theorem Device.setChannel_other {b : ChannelNo} (h : b ≠ c) (ch : Channel) : (d.setChannel c ch).channels[b] = d.channels[b] :=
  Vector.getElem_set_ne c.isLt b.isLt fun he => h (Fin.ext he.symm)

/-- R109: the probe is still to be sent. -/
theorem Device.goBackOrProbe_waits (h : d.channels[c].next < d.channels[c].accepted ∨
    d.channels[c].next = d.channels[c].accepted ∧ d.channels[c].accepted = 0) : d.goBackOrProbe c = d := by
  unfold Device.goBackOrProbe
  dsimp only
  rw [if_neg (by omega), if_neg (by omega)]

theorem Device.goBackOrProbe_falls {block : Nat} (h : d.channels[c].accepted < d.channels[c].next ∧ block = d.channels[c].accepted ∨
    d.channels[c].next = d.channels[c].accepted ∧ 1 ≤ d.channels[c].accepted ∧ block = d.channels[c].accepted - 1) :
    d.goBackOrProbe c = d.fallBack c block := by
  unfold Device.goBackOrProbe
  dsimp only
  rcases h with ⟨hlt, rfl⟩ | ⟨heq, hpos, rfl⟩
  · rw [if_pos hlt]
  · rw [if_neg (by omega), if_pos ⟨heq, hpos⟩]

/-! ### Entries and landings -/

/-- R18: a claim is dropped while a soft reset is owed. -/
theorem Device.claimInitiation_eq (d : Device) (f : List InitEntry → List InitEntry) :
    d.claimInitiation f =
      { d with span := { d.span with initiation := if d.control.owed then d.span.initiation else f d.span.initiation } } := by
  unfold Device.claimInitiation
  rcases d.control.owed <;> rfl

theorem Device.claimReply_eq (d : Device) (k : Key) (g : Generation) (r : ReplyKind) :
    d.claimReply k g r =
      { d with span := { d.span with
          replies := if d.control.owed then d.span.replies
            else placeReply d.span.replies { key := k, generation := g, kind := r } } } := by
  unfold Device.claimReply
  rcases d.control.owed <;> rfl

theorem Device.transferTimerRuns_of (hh : d.halted = false) {t : Timer} (ht : t.isSome = true) : d.transferTimerRuns t = true := by
  simp [Device.transferTimerRuns, hh, ht]

theorem exec_lifetimeExpiry {s : State} {w : PendingEntry} (hh : s.dev.halted = false) (hk : s.dev.admission.keysOk)
    (hw : w ∈ s.dev.admission.waiting) (ht : w.lifetime.isSome = true) :
    exec (.lifetimeExpiry w.offer.key.source w.offer.key.channel) s = s.next (s.dev.expireWaiting w).settle := by
  obtain ⟨-, hwaiting, -⟩ := AdmissionUnit.keysOk_parts hk
  have hfind := find?_key_eq_some (key := fun e : PendingEntry => e.offer.key) hwaiting hw
  show execLifetimeExpiry w.offer.key.source w.offer.key.channel s = _
  unfold execLifetimeExpiry
  rw [hfind]
  exact if_pos (Device.transferTimerRuns_of hh ht)

theorem exec_landingTimerExpiry {s : State} {l : Landing} (hh : s.dev.halted = false) (hk : s.dev.admission.keysOk)
    (hl : l ∈ s.dev.admission.landings) (ht : l.timer.isSome = true) :
    exec (.landingTimerExpiry l.offer.key.source l.offer.key.channel) s = s.next (s.dev.landTimeout l).settle := by
  show execLandingTimerExpiry l.offer.key.source l.offer.key.channel s = _
  unfold execLandingTimerExpiry
  rw [show s.dev.admission.landing { source := l.offer.key.source, channel := l.offer.key.channel } = some l from
    AdmissionUnit.landing_of_mem hk hl]
  exact if_pos (Device.transferTimerRuns_of hh ht)

/-- A claim for a key without a waiting reply is in the reply queue. -/
theorem Device.claimReply_mem {k : Key} (ho : d.control.owed = false) (h : ∀ r ∈ d.span.replies, r.key ≠ k) (g : Generation)
    (r : ReplyKind) : { key := k, generation := g, kind := r } ∈ (d.claimReply k g r).span.replies := by
  rw [Device.claimReply_replied ho]
  exact placeReply_mem_new h

end

/-- Settles O53: each timer by its own branches. -/
theorem transferTimersExpire : Obligations.TransferTimersExpire := by
  intro s hh
  refine ⟨fun c a ha ht => ?_, fun w hw hk ht => ?_, fun l hl hpool ht => ?_⟩
  · have hruns := Device.transferTimerRuns_of hh ht
    intro ch noReply
    refine ⟨fun hs hsends => ?_, fun hs hsends => ?_, fun hs hr => ?_, fun hs hr => ?_, fun hs => ?_, fun hs => ?_⟩
    · refine (if_pos (c := _ ∧ _) ⟨hs, hruns⟩).trans (congrArg s.event ?_)
      rw [Device.resendOffer_again ha hsends]
      rw [Device.claimOffer, Device.claimInitiation_eq]
      rfl
    · refine (if_pos (c := _ ∧ _) ⟨hs, hruns⟩).trans (congrArg s.event ?_)
      exact Device.resendOffer_gives_up ha hsends
    · refine (if_pos (c := _ ∧ _) ⟨hs, hruns⟩).trans (congrArg s.event ?_)
      exact Device.streamExpiry_gives_up ha hr
    · intro kept
      have hexec : exec (.streamReplyTimerExpiry c) s = s.event ((s.dev.setChannel c kept).goBackOrProbe c) :=
        (if_pos (c := _ ∧ _) ⟨hs, hruns⟩).trans (congrArg s.event (Device.streamExpiry_retries hr))
      have hsame : (s.dev.setChannel c kept).channels[c] = kept := Device.setChannel_same kept
      refine ⟨fun hwait => ?_, fun block hblock => ?_⟩
      · rw [hexec, Device.goBackOrProbe_waits (by rw [hsame]; exact hwait)]
        rfl
      · obtain ⟨e, he⟩ : ∃ e, (s.dev.setChannel c kept).recast c (kept.fallen block)
            (kept.givesUp c (FetchBuffer.holdsWanted block)) = e := ⟨_, rfl⟩
        obtain ⟨hasks, hother, hwrites⟩ := e.requestReads_asks c
        have hfallen : e.channels[c] = kept.fallen block := by rw [← he]; exact Device.recast_same ..
        rw [hfallen] at hasks
        refine ⟨e.requestReads c, ?_, hasks.1, fun b n data hb hn => ?_, fun b n data hb => ?_, fun b hb => ?_, ?_⟩
        · rw [hexec, Device.goBackOrProbe_falls (by rw [hsame]; exact hblock), Device.fallBack_recast, hsame, he]
          rfl
        · exact hasks.holding.mpr (Channel.fallen_holding.mpr ⟨hb, hn⟩)
        · exact Channel.fallen_holding.mp (hasks.holding.mp hb)
        · rw [hother b hb, ← he, Device.recast_other _ _ _ _ hb]
          exact Device.setChannel_other hb kept
        · rw [hwrites]
          simp only [Device.requestReads_keeps, ← he]
          exact ⟨rfl, rfl, rfl, rfl, rfl, rfl⟩
    · refine (if_pos (c := _ ∧ _) ⟨hs, hruns⟩).trans (congrArg s.event ?_)
      exact Device.endTransfer_ended s.dev c a .queueExpired none (by decide) ha
    · refine (if_pos (c := _ ∧ _) ⟨hs, hruns⟩).trans (congrArg s.event ?_)
      exact Device.endTransfer_ended s.dev c a .pauseExpired none (by decide) ha
  · rw [exec_lifetimeExpiry hh hk hw ht]
    refine congrArg (fun d : Device => s.next d.settle) ?_
    rw [Device.expireWaiting, Device.claimReply_eq]
    rfl
  · have hsound := Device.poolOk_sound hpool
    have hmem := List.mem_append_left s.dev.admission.suspended hl
    obtain ⟨b, hb⟩ : ∃ b, s.dev.claimReply l.offer.key l.offer.generation (.refuse .timeout) = b := ⟨_, rfl⟩
    obtain ⟨g, hg⟩ : ∃ g, (b.removeRecord l.offer.key).post (l.offer.ended .timeout l.byteCount) = g := ⟨_, rfl⟩
    have hremoved : s.dev.Removes l.offer.key g := by
      rw [← hg, ← hb]
      refine (Device.removeRecord_removes hsound hmem).of_keeps ?_ ?_ ?_ ?_ ?_ <;> simp [Device.removeRecord]
    have hrun := hremoved.run
    obtain ⟨ns, -, hns⟩ := g.runAndSweep_posts
    refine ⟨g.runAndSweep, ?_, hrun.lacks, hrun.keepsOthers, hrun.recent, hrun.port, fun ho hnew => ?_, ⟨ns, ?_⟩, hrun.channels,
      hrun.control, hrun.halt⟩
    · rw [exec_landingTimerExpiry hh hsound.keys hl ht, ← hg, ← hb]
      rfl
    · refine (Device.runAndSweep_ran hremoved.sound).replies _ ?_ hremoved.lacks
      rw [← hg, ← hb]
      exact Device.claimReply_mem ho hnew _ _
    · have hlport : b.lport = s.dev.lport := by rw [← hb]; simp
      rw [hns, ← hg, ← hlport]
      rfl

end Sys2Proof.Machine

/-! An offer is placed (R74 to R77, R117, R118): what its placement leaves as it was, and where the offer ends up. -/

namespace Sys2Proof.Machine

section
variable {a b : AdmissionUnit} {d e : Device} {o : Offer}

/-- A change of records that moves them between the two tables or drops entries, and adds none. -/
structure AdmissionUnit.Rearranges (a b : AdmissionUnit) : Prop where
  sound : b.sound
  tracks : b.tracks.Perm a.tracks
  waiting : b.waiting.Sublist a.waiting
  recent : b.recent = a.recent

theorem AdmissionUnit.Rearranges.fresh {k : Key} (h : a.Rearranges b) (hk : k ∉ a.keys) : k ∉ b.keys := by
  rw [AdmissionUnit.keys_tracks, List.mem_append, List.mem_append] at hk ⊢
  rw [h.recent]
  refine fun hb => hk (hb.imp_left (Or.imp (fun ht => ?_) fun hw => (h.waiting.map _).subset hw))
  exact (h.tracks.map _).subset ht

/-- R117: a landing is set aside. -/
theorem AdmissionUnit.sound.suspend (h : a.sound) {l : Landing} (hl : l ∈ a.landings) :
    a.Rearranges { a with landings := a.landings.filter fun m => decide (m.offer.key ≠ l.offer.key),
                          suspended := insertByLevel Landing.level l.setAside a.suspended } := by
  obtain ⟨b, hb⟩ : ∃ b : AdmissionUnit, { a with landings := a.landings.filter fun m => decide (m.offer.key ≠ l.offer.key),
                                                 suspended := insertByLevel Landing.level l.setAside a.suspended } = b := ⟨_, rfl⟩
  have htracks : b.tracks.Perm a.tracks := by
    have hperm := filter_key_perm (key := fun m : Landing => m.offer.key) (a.keysOk_landings h.keys) hl
    have hinsert : (insertByLevel Landing.level l.setAside a.suspended).Perm (l.setAside :: a.suspended) := insertByLevel_perm _
    rw [← hb]
    simp only [AdmissionUnit.tracks, List.map_append]
    exact ((hinsert.map Landing.track).append_left _).trans (List.perm_middle.trans ((hperm.map Landing.track).append_right _))
  have hkeys : b.keys.Perm a.keys := by
    rw [AdmissionUnit.keys_tracks, AdmissionUnit.keys_tracks, ← hb]
    exact ((hb ▸ htracks.map _).append_right _).append_right _
  rw [hb]
  refine ⟨⟨AdmissionUnit.keysOk_of_perm h.keys hkeys, fun m hm => ?_⟩, htracks, by rw [← hb], by rw [← hb]⟩
  rw [← hb] at hm
  exact h.counts m (List.mem_of_mem_filter hm)

theorem AdmissionUnit.sound.dropLast (h : a.sound) : a.Rearranges { a with waiting := a.waiting.dropLast } :=
  ⟨h.fewer (.refl _) (.refl _) (List.dropLast_sublist _) (.refl _), .refl _, List.dropLast_sublist _, rfl⟩

/-- R75: a landing of a new key enters the table. -/
theorem AdmissionUnit.sound.join (h : a.sound) {l : Landing} (hfresh : l.offer.key ∉ a.keys) (hc : l.accepted ≤ l.limit) :
    ({ a with landings := a.landings ++ [l] } : AdmissionUnit).sound := by
  refine ⟨?_, fun m hm => ?_⟩
  · have hkeys : (AdmissionUnit.keys { a with landings := a.landings ++ [l] }).Perm (l.offer.key :: a.keys) := by
      simp [AdmissionUnit.keys]
    exact hkeys.nodup_iff.mpr (List.nodup_cons.mpr ⟨hfresh, h.keys⟩)
  · rcases List.mem_append.mp hm with hm | hm
    · exact h.counts m hm
    · obtain rfl := List.mem_singleton.mp hm
      exact hc

/-- R77: an entry of a new key waits. -/
theorem AdmissionUnit.sound.wait (h : a.sound) {e : PendingEntry} (hfresh : e.offer.key ∉ a.keys) :
    ({ a with waiting := insertByLevel PendingEntry.level e a.waiting } : AdmissionUnit).sound := by
  refine ⟨?_, h.counts⟩
  have hinsert : (insertByLevel PendingEntry.level e a.waiting).Perm (e :: a.waiting) := insertByLevel_perm _
  have hkeys : (AdmissionUnit.keys { a with waiting := insertByLevel PendingEntry.level e a.waiting }).Perm (e.offer.key :: a.keys) := by
    simp only [AdmissionUnit.keys]
    exact (((hinsert.map _).append_left _).append_right _).trans (List.perm_middle.append_right _)
  exact hkeys.nodup_iff.mpr (List.nodup_cons.mpr ⟨hfresh, h.keys⟩)

/-! ### Where an offer ends up -/

/-- R75, R77: the offer has a fresh landing or an entry. -/
def AdmissionUnit.takesIn (a : AdmissionUnit) (o : Offer) (tLand tQueue : Nat) : Prop :=
  (∃ l ∈ a.landings, l.offer = o ∧ l.accepted = 0 ∧ l.written = 0 ∧ l.phase = .active ∧ l.timer = some tLand) ∨
    ∃ w ∈ a.waiting, w.offer = o ∧ w.lifetime = some tQueue

/-- R73 to R77: an offer of a new key is handled: every record stays, and of the entries all but one that is evicted. -/
structure Device.Places (o : Offer) (d e : Device) : Prop where
  sound : e.admission.sound
  carried : d.admission.tracks ⊆ e.admission.tracks
  origin : ∀ t ∈ e.admission.tracks, t ∈ d.admission.tracks ∨ t.1 = o
  waiting : ∀ w ∈ e.admission.waiting, w ∈ d.admission.waiting ∨ w.offer = o
  recent : e.admission.recent = d.admission.recent
  outcome : d.judge o = none → e.admission.takesIn o d.config.tLand d.config.tQueue ∨
    Config.pendingMax ≤ d.admission.waiting.length ∧ e.admission.lacks o.key

theorem Device.admitOffer_places (h : d.admission.sound) (hfresh : o.key ∉ d.admission.keys) : d.Places o (d.admitOffer o) := by
  have hadmission := d.admitOffer_admission o
  obtain ⟨r, hr⟩ : ∃ r, min (min d.config.credit (blockCount o.fields.length)) d.free = r := ⟨_, rfl⟩
  rw [hr] at hadmission
  obtain ⟨l, hl⟩ : ∃ l : Landing, { offer := o, accepted := 0, written := 0, limit := r, phase := .active,
                                    timer := some d.config.tLand } = l := ⟨_, rfl⟩
  have hoffer : l.offer = o := by rw [← hl]
  rw [hl] at hadmission
  have htracks : (d.admitOffer o).admission.tracks.Perm (l.track :: d.admission.tracks) := by
    rw [hadmission]
    simp [AdmissionUnit.tracks]
  refine ⟨?_, fun t ht => htracks.symm.subset (List.mem_cons_of_mem _ ht), fun t ht => ?_, fun w hw => .inl (by rwa [hadmission] at hw),
    by rw [hadmission], fun _ => .inl (.inl ⟨l, by rw [hadmission]; simp, by rw [← hl]; simp⟩)⟩
  · rw [hadmission]
    exact h.join (hoffer ▸ hfresh) (by rw [← hl]; exact Nat.zero_le _)
  · rcases List.mem_cons.mp (htracks.subset ht) with rfl | ht
    · exact .inr hoffer
    · exact .inl ht

theorem Device.placeWaiting_admission (d : Device) (o : Offer) :
    (d.placeWaiting o).admission =
      { d.admission with
        waiting := insertByLevel PendingEntry.level { offer := o, lifetime := some d.config.tQueue } d.admission.waiting } := by
  simp [Device.placeWaiting]

theorem Device.placeWaiting_places (h : d.admission.sound) (hfresh : o.key ∉ d.admission.keys) :
    d.Places o (d.placeWaiting o) := by
  have hadmission := d.placeWaiting_admission o
  refine ⟨?_, ?_, fun t ht => .inl ?_, fun w hw => ?_, ?_, fun _ => .inl (.inr ⟨{ offer := o, lifetime := some d.config.tQueue }, ?_, rfl, rfl⟩)⟩
  · rw [hadmission]
    exact h.wait (e := { offer := o, lifetime := some d.config.tQueue }) hfresh
  · rw [hadmission]
    exact List.Subset.refl _
  · rwa [hadmission] at ht
  · rw [hadmission] at hw
    rcases mem_insertByLevel.mp hw with rfl | hw
    · exact .inr rfl
    · exact .inl hw
  · rw [hadmission]
  · rw [hadmission]
    exact mem_insertByLevel.mpr (.inl rfl)

theorem Device.Places.after {g : Device} (h : e.Places o g) (hr : d.admission.Rearranges e.admission) (hc : e.config = d.config) :
    d.Places o g where
  sound := h.sound
  carried _ ht := h.carried (hr.tracks.symm.subset ht)
  origin t ht := (h.origin t ht).imp_left fun ht => hr.tracks.subset ht
  waiting w hw := (h.waiting w hw).imp_left fun hw => hr.waiting.subset hw
  recent := h.recent.trans hr.recent
  outcome hj := by
    rw [← hc]
    exact (h.outcome ((Device.judge_congr hc o).trans hj)).imp_right fun ⟨hlen, hlacks⟩ => ⟨hlen.trans hr.waiting.length_le, hlacks⟩

theorem Device.queueOffer_places (h : d.admission.sound) (hfresh : o.key ∉ d.admission.keys) : d.Places o (d.queueOffer o) := by
  unfold Device.queueOffer
  split
  next => exact Device.placeWaiting_places h hfresh
  next hfull =>
    split
    next t _ =>
      split
      next =>
        have hr : d.admission.Rearranges (d.evict t).admission := by
          rw [Device.evict_admission]
          exact h.dropLast
        exact (Device.placeWaiting_places hr.sound (hr.fresh hfresh)).after hr (by simp)
      next =>
        have hsame : (d.claimReply o.key o.generation (.refuse .busy)).admission = d.admission := by simp
        have hlacks := (AdmissionUnit.not_mem_keys.mp hfresh).1
        exact ⟨hsame ▸ h, by rw [hsame]; exact List.Subset.refl _, fun t ht => .inl (hsame ▸ ht), fun w hw => .inl (hsame ▸ hw),
          by rw [hsame], fun _ => .inr ⟨Nat.le_of_not_lt hfull, hsame ▸ hlacks⟩⟩
    next => exact Device.placeWaiting_places h hfresh

theorem Device.admitOrQueue_places (h : d.admission.sound) (hfresh : o.key ∉ d.admission.keys) :
    d.Places o (d.admitOrQueue o) := by
  unfold Device.admitOrQueue
  split
  next => exact Device.admitOffer_places h hfresh
  next => exact Device.queueOffer_places h hfresh

theorem Device.suspend_rearranges (h : d.admission.sound) {l : Landing} (hl : l ∈ d.admission.landings) :
    d.admission.Rearranges (d.suspend l).admission := by
  rw [Device.suspend_admission]
  exact h.suspend hl

/-- R73 to R77, R118: an offer of a new key. -/
theorem Device.judgeAndPlace_places (h : d.admission.sound) (hfresh : o.key ∉ d.admission.keys) :
    d.Places o (d.judgeAndPlace o).1 := by
  rcases hj : d.judge o with - | r
  · rcases hv : d.victim o with - | l
    · rw [Device.judgeAndPlace_unopposed hj hv]
      exact Device.admitOrQueue_places h hfresh
    · obtain ⟨hnamed, -, -⟩ := Device.victim_maySuspend hv
      have hr := Device.suspend_rearranges h (Device.namedVictim_mem hnamed)
      rw [Device.judgeAndPlace_opposed hj hv]
      exact (Device.admitOrQueue_places hr.sound (hr.fresh hfresh)).after hr (by simp)
  · have hsame : (d.claimReply o.key o.generation (.refuse r)).admission = d.admission := by simp
    rw [Device.judgeAndPlace_refused hj]
    exact ⟨hsame ▸ h, by rw [hsame]; exact List.Subset.refl _, fun t ht => .inl (hsame ▸ ht), fun w hw => .inl (hsame ▸ hw),
      by rw [hsame], fun hnone => by rw [hj] at hnone; cases hnone⟩

/-! ### The reply to an offer -/

/-- A reply of this key and generation waits. -/
def SpanInterface.replying (s : SpanInterface) (k : Key) (g : Generation) : Prop := ∃ r ∈ s.replies, r.key = k ∧ r.generation = g

theorem Device.claimReply_replying (ho : d.control.owed = false) (k : Key) (g : Generation) (r : ReplyKind) :
    (d.claimReply k g r).span.replying k g := by
  rw [Device.claimReply_replied ho]
  exact placeReply_waits _ _

theorem Device.queueOffer_replying (ho : d.control.owed = false) : (d.queueOffer o).span.replying o.key o.generation := by
  unfold Device.queueOffer
  split
  next => exact Device.claimReply_replying (d := d.updAdmission _) ho _ _ _
  next =>
    split
    next t _ =>
      split
      next => exact Device.claimReply_replying (d := (d.evict t).updAdmission _) (by simpa using ho) _ _ _
      next => exact Device.claimReply_replying ho _ _ _
    next => exact Device.claimReply_replying (d := d.updAdmission _) ho _ _ _

theorem Device.admitOrQueue_replying (ho : d.control.owed = false) : (d.admitOrQueue o).span.replying o.key o.generation := by
  unfold Device.admitOrQueue
  split
  next => exact Device.claimReply_replying (d := d.updAdmission _) ho _ _ _
  next => exact Device.queueOffer_replying ho

theorem Device.judgeAndPlace_replying (ho : d.control.owed = false) :
    (d.judgeAndPlace o).1.span.replying o.key o.generation := by
  unfold Device.judgeAndPlace
  split
  next => exact Device.claimReply_replying ho _ _ _
  next =>
    split
    next l _ => exact Device.admitOrQueue_replying (d := d.suspend l) (by simpa using ho)
    next => exact Device.admitOrQueue_replying ho

end

end Sys2Proof.Machine

/-! An OFFER of a key with a record or an entry (R70, R71, O32). -/

namespace Sys2Proof.Machine

section
variable {a : AdmissionUnit} {d e : Device} {o : Offer} {k : Key} {g : Generation}

/-! ### What a run keeps of a placed offer -/

/-- An offer that was taken in, in a block that is fit for a run. -/
structure Device.tookIn (o : Offer) (tLand tQueue : Nat) (d : Device) : Prop where
  sound : d.admission.sound
  time : d.config.tLand = tLand
  takesIn : d.admission.takesIn o tLand tQueue

/-- R81, R98: its landing stays, and its entry may become one. -/
theorem tookInRule (o : Offer) (tLand tQueue : Nat) : RunRule (Device.tookIn o tLand tQueue) where
  takes {d c} hq h := by
    refine ⟨(Device.takeCandidate_gains h.sound hq).sound, by simpa using h.time, ?_⟩
    cases c with
    | resume l =>
      rw [Device.takeCandidate, Device.resumeLanding_admission]
      exact h.takesIn.imp_left fun ⟨m, hm, hfresh⟩ => ⟨m, List.mem_append_left _ hm, hfresh⟩
    | enter w =>
      rw [Device.takeCandidate, Device.admitOffer_admission]
      rcases h.takesIn with ⟨m, hm, hfresh⟩ | ⟨v, hv, hoffer, hlife⟩
      · exact .inl ⟨m, List.mem_append_left _ hm, hfresh⟩
      · by_cases hkey : v.offer.key = w.offer.key
        · obtain ⟨-, hwaiting, -⟩ := AdmissionUnit.keysOk_parts h.sound.keys
          obtain rfl := List.inj_on_of_nodup_map hwaiting hv hq.1 hkey
          exact .inl ⟨_, List.mem_append_right _ (List.mem_singleton.mpr rfl), hoffer, rfl, rfl, rfl, congrArg some h.time⟩
        · exact .inr ⟨v, List.mem_filter.mpr ⟨hv, decide_eq_true hkey⟩, hoffer, hlife⟩
  raises {d l} _ hl h := by
    refine ⟨?_, by simpa using h.time, ?_⟩
    · rw [Device.raiseLimit_admission]
      exact (h.sound.raise (Device.bestTaker_taker hl).1).sound
    · rw [Device.raiseLimit_admission]
      refine h.takesIn.imp_left fun ⟨m, hm, hfresh⟩ => ⟨if m.offer.key = l.offer.key then m.raised else m, List.mem_map.mpr ⟨m, hm, rfl⟩, ?_⟩
      split <;> exact hfresh

/-- Every record and entry of key `k` is of generation `g`. -/
structure AdmissionUnit.speaks (k : Key) (g : Generation) (a : AdmissionUnit) : Prop where
  records : ∀ l ∈ a.landings ++ a.suspended, l.offer.key = k → l.offer.generation = g
  entries : ∀ w ∈ a.waiting, w.offer.key = k → w.offer.generation = g

theorem AdmissionUnit.speaks_iff : a.speaks k g ↔
    (∀ t ∈ a.tracks, t.1.key = k → t.1.generation = g) ∧ ∀ w ∈ a.waiting, w.offer.key = k → w.offer.generation = g := by
  simp only [AdmissionUnit.tracks, List.forall_mem_map, Landing.track]
  exact ⟨fun h => ⟨h.records, h.entries⟩, fun h => ⟨h.1, h.2⟩⟩

theorem AdmissionUnit.speaks_of_lacks (h : a.lacks k) (g : Generation) : a.speaks k g :=
  ⟨fun l hl hk => absurd hk (h.1 l hl), fun w hw hk => absurd hk (h.2 w hw)⟩

theorem AdmissionUnit.Gains.speaks {b : AdmissionUnit} {k' : Key} (h : a.Gains k' b) (ha : a.speaks k g) : b.speaks k g := by
  rw [AdmissionUnit.speaks_iff] at ha ⊢
  refine ⟨fun t ht hk => ?_, fun w hw => ha.2 w (h.waiting hw)⟩
  rcases h.origin t ht with ht | ⟨w, hw, heq⟩
  · exact ha.1 t ht hk
  · rw [← heq] at hk ⊢
    exact ha.2 w hw hk

theorem Device.Places.speaks (h : d.Places o e) (hk : d.admission.speaks o.key o.generation) :
    e.admission.speaks o.key o.generation := by
  rw [AdmissionUnit.speaks_iff] at hk ⊢
  refine ⟨fun t ht hkey => ?_, fun w hw hkey => ?_⟩
  · rcases h.origin t ht with ht | heq
    · exact hk.1 t ht hkey
    · rw [heq]
  · rcases h.waiting w hw with hw | heq
    · exact hk.2 w hw hkey
    · rw [heq]

/-- A reply of the generation of its key's record or entry waits. -/
structure Device.answered (k : Key) (g : Generation) (d : Device) : Prop where
  sound : d.admission.sound
  owed : d.control.owed = false
  speaks : d.admission.speaks k g
  replying : d.span.replying k g

theorem Device.answered.step {k' : Key} (h : d.answered k g) (hgains : d.admission.Gains k' e.admission) (hanswers : d.answers k' e)
    (hown : k' = k → e.span.replying k g) : e.answered k g where
  sound := hgains.sound
  owed := hanswers.control ▸ h.owed
  speaks := hgains.speaks h.speaks
  replying := by
    by_cases hk : k' = k
    · exact hown hk
    · obtain ⟨r, hr, hkey, hgen⟩ := h.replying
      exact ⟨r, hanswers.others r hr (hkey ▸ Ne.symm hk), hkey, hgen⟩

theorem Device.claimReceipt_replying (ho : d.control.owed = false) (l : Landing) (final : Bool) :
    (d.claimReceipt l final).span.replying l.offer.key l.offer.generation := by
  unfold Device.claimReceipt
  split <;> exact Device.claimReply_replying ho _ _ _

theorem answeredRule (k : Key) (g : Generation) : RunRule (Device.answered k g) where
  takes {d c} hq h := by
    cases c with
    | resume l =>
      have hmem := List.mem_append_right d.admission.landings hq.1
      refine h.step (k' := l.offer.key) ?_ (d.resumeLanding_answers l) fun hk => ?_
      · rw [Device.takeCandidate, Device.resumeLanding_admission]
        exact h.sound.resume hq.1 _ _
      · rw [← hk, ← h.speaks.records l hmem hk]
        exact Device.claimReply_replying (d := d.updAdmission _) h.owed _ _ _
    | enter w =>
      refine h.step (k' := w.offer.key) ?_
        (((d.updAdmission (·.dropWaiting w.offer.key)).admitOffer_answers w.offer).between rfl rfl rfl rfl) fun hk => ?_
      · rw [Device.takeCandidate, Device.admitOffer_admission]
        exact h.sound.enter hq.1 rfl (Nat.zero_le _)
      · rw [← hk, ← h.speaks.entries w hq.1 hk]
        exact Device.claimReply_replying (d := (d.updAdmission _).updAdmission _) h.owed _ _ _
  raises {d l} _ hl h := by
    obtain ⟨hmem, -⟩ := Device.bestTaker_taker hl
    refine h.step (k' := l.offer.key) ?_ (d.raiseLimit_answers l) fun hk => ?_
    · rw [Device.raiseLimit_admission]
      exact h.sound.raise hmem
    · rw [← hk, ← h.speaks.records l (List.mem_append_left _ hmem) hk]
      exact Device.claimReceipt_replying (d := d.updAdmission _) h.owed { l with limit := l.limit + 1 } false

/-! ### A repeated offer and a superseded record -/

theorem Device.handleOffer_record (h : d.admission.keysOk) {l : Landing} (hl : l ∈ d.admission.landings ++ d.admission.suspended)
    (hkey : l.offer.key = o.key) :
    d.handleOffer o = if l.offer.generation = o.generation then d.claimReply o.key o.generation l.repeatReply
      else runIf true ((d.supersedeRecord l).judgeAndPlace o).1 := by
  simp only [Device.handleOffer, ← hkey, AdmissionUnit.find_record h hl]

theorem Device.handleOffer_waiting (h : d.admission.keysOk) {w : PendingEntry} (hw : w ∈ d.admission.waiting)
    (hkey : w.offer.key = o.key) :
    d.handleOffer o = if w.offer.generation = o.generation then d.claimReply o.key o.generation .wait
      else runIf true ((d.supersedeWaiting w).judgeAndPlace o).1 := by
  simp only [Device.handleOffer, ← hkey, AdmissionUnit.find_waiting h hw]

/-- R71: after the old record or entry of its key is gone, an offer is judged, placed and answered, and a run follows. -/
structure Device.Supersedes (o : Offer) (d b e : Device) : Prop where
  speaks : e.admission.speaks o.key o.generation
  replying : e.span.replying o.key o.generation
  keepsOthers : d.admission.keepsOthers e.admission o.key
  recent : e.admission.recent = d.admission.recent
  port : e.port = d.port.orphaned o.key
  channels : e.channels = d.channels
  control : e.control = d.control
  halt : e.halt = d.halt
  posts : ∃ ns : List Notice, e.lport = ns.foldl LocalPort.post b.lport
  noneWaits : e.noneWaits
  refused : ∀ r, b.judge o = some r → e.admission.lacks o.key
  placed : b.judge o = none → e.admission.takesIn o b.config.tLand b.config.tQueue ∨
    Config.pendingMax ≤ b.admission.waiting.length ∧ e.admission.lacks o.key

theorem Device.Removes.supersedes {b : Device} (h : d.Removes o.key b) (hfresh : o.key ∉ b.admission.keys)
    (ho : d.control.owed = false) (hruns : d.control.runs = true) :
    d.Supersedes o b (runIf true (b.judgeAndPlace o).1) := by
  have hplaces := Device.judgeAndPlace_places h.sound hfresh
  have hreplying := Device.judgeAndPlace_replying (d := b) (o := o) (h.control ▸ ho)
  obtain ⟨ms, -, hms⟩ := (b.judgeAndPlace_tells o).posts
  obtain ⟨ns, -, hns⟩ := Device.runAndSweep_posts (b.judgeAndPlace o).1
  obtain ⟨hcontrol, hconfig, hchannels, hport, hhalt⟩ := b.judgeAndPlace_keeps o
  obtain ⟨p, hp⟩ : ∃ p, (b.judgeAndPlace o).1 = p := ⟨_, rfl⟩
  rw [hp] at hplaces hreplying hms hns hcontrol hconfig hchannels hport hhalt ⊢
  have hran := Device.runAndSweep_ran hplaces.sound
  obtain ⟨hcontrol', -, hchannels', hport', hhalt'⟩ := p.runAndSweep_keeps
  have hbcontrol : p.control = d.control := hcontrol.trans h.control
  have hanswered : p.answered o.key o.generation :=
    ⟨hplaces.sound, hbcontrol ▸ ho, hplaces.speaks (AdmissionUnit.speaks_of_lacks h.lacks _), hreplying⟩
  have hlater := (answeredRule o.key o.generation).runAndSweep hanswered
  exact {
    speaks := hlater.speaks
    replying := hlater.replying
    keepsOthers := (h.keepsOthers.trans (AdmissionUnit.keepsOthers_iff.mpr fun t ht _ => hplaces.carried ht)).trans
      (hran.keepsOthers o.key)
    recent := hran.recent.trans (hplaces.recent.trans h.recent)
    port := hport'.trans (hport.trans h.port)
    channels := hchannels'.trans (hchannels.trans h.channels)
    control := hcontrol'.trans hbcontrol
    halt := hhalt'.trans (hhalt.trans h.halt)
    posts := ⟨ms ++ ns, by rw [runIf, if_pos rfl, hns, hms, List.foldl_append]⟩
    noneWaits := Device.runAndSweep_noneWaits (hbcontrol ▸ hruns) hplaces.sound
    refused := fun r hr => by
      have hsame : p.admission = b.admission := by rw [← hp, Device.judgeAndPlace_refused hr]; simp
      exact hran.fresh _ (hsame ▸ h.lacks)
    placed := fun hj => by
      rcases hplaces.outcome hj with htaken | ⟨hfull, hlacks⟩
      · exact .inl ((tookInRule o _ _).runAndSweep ⟨hplaces.sound, by rw [hconfig], htaken⟩).takesIn
      · exact .inr ⟨hfull, hran.fresh _ hlacks⟩ }

theorem Device.supersedeRecord_removes (h : d.admission.sound) {l : Landing} (hl : l ∈ d.admission.landings ++ d.admission.suspended) :
    d.Removes l.offer.key (d.supersedeRecord l) := (Device.removeRecord_removes h hl).of_keeps rfl rfl rfl rfl rfl

theorem Device.supersedeWaiting_removes (h : d.poolOk) {w : PendingEntry} (hw : w ∈ d.admission.waiting) :
    d.Removes w.offer.key (d.supersedeWaiting w) := (Device.dropWaiting_removes h hw).of_keeps rfl rfl rfl rfl rfl

/-- Settles O32: the repeated offers by the phase of their record, the others by `Device.Removes.supersedes`. -/
theorem offersOfAKnownKey : Obligations.OffersOfAKnownKey := by
  intro s x c g f hx hf hkeys key o answered superseded
  have hexec := exec_offerArrives_of_hears (c := c) (g := g) hx hf
  have hclaim : ∀ k : ReplyKind, s.dev.handleOffer o = s.dev.claimReply o.key o.generation k →
      exec (.offerArrives x c g f) s = s.next (answered k).settle := fun k hk => by
    rw [hexec, hk, Device.claimReply_replied hx.2.1]
    rfl
  have hsupersedes : ∀ (old : Offer) (bytes : Nat) (b : Device), s.dev.Removes key b → key ∉ b.admission.keys →
      b.lport = s.dev.lport.post (.landingEnded key old.fields.window old.generation .superseded bytes) →
      b.config = s.dev.config → b.admission.waiting.length ≤ s.dev.admission.waiting.length →
      s.dev.handleOffer o = runIf true (b.judgeAndPlace o).1 → superseded old bytes := by
    intro old bytes b hb hfresh hlport hconfig hwaiting hhandled
    have h := Device.Removes.supersedes (o := o) hb hfresh hx.2.1 (StationControl.runs_of_onSpan hx.1)
    have hjudge : b.judge o = s.dev.judge o := Device.judge_congr hconfig o
    obtain ⟨ns, hns⟩ := h.posts
    refine ⟨_, by rw [hexec, hhandled], ⟨ns, by rw [hns, hlport]⟩, h.speaks.records, h.speaks.entries, h.replying, h.keepsOthers,
      h.port, h.channels, h.control, h.halt, h.recent, fun _ => h.noneWaits, fun r hr => h.refused r (hjudge.trans hr), fun hj => ?_⟩
    rcases h.placed (hjudge.trans hj) with htaken | ⟨hfull, hlacks⟩
    · rw [hconfig] at htaken
      exact htaken.imp_right .inl
    · exact .inr (.inr ⟨hfull.trans hwaiting, hlacks⟩)
  refine ⟨fun l hl hkey => ?_, fun w hw hkey => ?_⟩
  · have hhandled := Device.handleOffer_record (o := o) hkeys hl hkey
    have hrepeat : l.offer.generation = g → s.dev.handleOffer o = s.dev.claimReply o.key o.generation l.repeatReply :=
      fun hg => hhandled.trans (if_pos hg)
    refine ⟨fun hg hp => hclaim _ ?_, fun hg hp => hclaim _ ?_, fun hg hp => hclaim _ ?_, fun hg hpool => ?_⟩
    · rw [hrepeat hg, Landing.repeatReply, hp]
    · rw [hrepeat hg, Landing.repeatReply, hp]
    · rw [hrepeat hg, Landing.repeatReply, hp]
    · have hsound := Device.poolOk_sound hpool
      exact hsupersedes _ _ (s.dev.supersedeRecord l) (hkey ▸ Device.supersedeRecord_removes hsound hl)
        (hkey ▸ AdmissionUnit.dropRecord_fresh hkeys hl) (hkey ▸ rfl) rfl le_rfl (hhandled.trans (if_neg hg))
  · have hhandled := Device.handleOffer_waiting (o := o) hkeys hw hkey
    refine ⟨fun hg => hclaim _ (hhandled.trans (if_pos hg)), fun hg hpool => ?_⟩
    exact hsupersedes _ _ (s.dev.supersedeWaiting w) (hkey ▸ Device.supersedeWaiting_removes hpool hw)
      (hkey ▸ AdmissionUnit.dropWaiting_fresh hkeys hw) (hkey ▸ rfl) rfl (List.length_filter_le _ _) (hhandled.trans (if_neg hg))

end

end Sys2Proof.Machine

/-! Preemption (R117, R118, O34): the victim stays suspended through the run, the offer takes its place or waits. -/

namespace Sys2Proof.Machine

section
variable {d e : Device} {o : Offer} {l m : Landing} {r : Reply} {k : Key}

/-! ### What a run leaves of the victim and of the offer -/

theorem Device.answers.keeps (h : d.answers k e) (hr : r ∈ d.span.replies) (hne : k ≠ r.key) : r ∈ e.span.replies :=
  h.others r hr (Ne.symm hne)

/-- The key of a candidate is that of no landing. -/
theorem Device.Qualifies.apart {c : Candidate} (hq : d.Qualifies c) (h : d.admission.keysOk) (hm : m ∈ d.admission.landings) :
    c.key ≠ m.offer.key := by
  cases c with
  | resume l =>
    obtain ⟨hl, -⟩ := hq
    exact AdmissionUnit.keysOk_apart h hm hl
  | enter w =>
    obtain ⟨hw, -⟩ := hq
    obtain ⟨-, -, -, hother, -⟩ := AdmissionUnit.keysOk_parts h
    exact (hother w hw m (List.mem_append_left _ hm)).symm

/-- A suspended record whose window has room for no one, and the reply that told of it. -/
structure Device.sidelines (m : Landing) (c : Prop) (r : Reply) (d : Device) : Prop where
  sound : d.admission.sound
  aside : m ∈ d.admission.suspended
  blocked : d.canAdmit m.offer.fields.window = false
  reply : c → r ∈ d.span.replies

theorem Device.sidelines.apart {c : Prop} (h : d.sidelines m c r) {x : Candidate} (hq : d.Qualifies x) : x.key ≠ m.offer.key := by
  cases x with
  | resume l =>
    obtain ⟨hl, hcan⟩ := hq
    intro hkey
    obtain rfl := List.inj_on_of_nodup_map (AdmissionUnit.keysOk_suspended h.sound.keys) hl h.aside hkey
    rw [h.blocked] at hcan
    cases hcan
  | enter w =>
    obtain ⟨hw, -⟩ := hq
    obtain ⟨-, -, -, hother, -⟩ := AdmissionUnit.keysOk_parts h.sound.keys
    exact (hother w hw m (List.mem_append_right _ h.aside)).symm

theorem sidelinesRule (m : Landing) (c : Prop) (r : Reply) (hkey : r.key = m.offer.key) : RunRule (Device.sidelines m c r) where
  takes {d x} hq h := by
    have hne := h.apart hq
    refine ⟨(Device.takeCandidate_gains h.sound hq).sound, ?_, ?_, fun hc => (d.takeCandidate_answers x).keeps (h.reply hc) (hkey ▸ hne)⟩
    · cases x with
      | resume l =>
        rw [Device.takeCandidate, Device.resumeLanding_admission]
        exact List.mem_filter.mpr ⟨h.aside, decide_eq_true (Ne.symm hne)⟩
      | enter w =>
        rw [Device.takeCandidate, Device.admitOffer_admission]
        exact h.aside
    · exact Bool.eq_false_iff.mpr fun hcan => Bool.eq_false_iff.mp h.blocked (d.takeCandidate_canAdmit x hcan)
  raises {d l} hfree hl h := by
    obtain ⟨hmem, -⟩ := Device.bestTaker_taker hl
    have hne : l.offer.key ≠ r.key := hkey ▸ (AdmissionUnit.keysOk_apart h.sound.keys hmem h.aside).symm
    refine ⟨?_, ?_, ?_, fun hc => (d.raiseLimit_answers l).keeps (h.reply hc) hne⟩
    · rw [Device.raiseLimit_admission]
      exact (h.sound.raise hmem).sound
    · rw [Device.raiseLimit_admission]
      exact h.aside
    · exact Bool.eq_false_iff.mpr fun hcan => Bool.eq_false_iff.mp h.blocked (Device.raiseLimit_canAdmit l hfree hcan)

/-- A landing that no run can give more, and the reply that told of it. -/
structure Device.settledIn (m : Landing) (r : Reply) (d : Device) : Prop where
  sound : d.admission.sound
  landed : m ∈ d.admission.landings
  full : 0 < d.free → m.isTaker d.config.credit = false
  reply : r ∈ d.span.replies

theorem Device.raiseLimit_lessFree (h : d.admission.sound) (hl : d.bestTaker = some l) (hfree : 0 < d.free) :
    (d.raiseLimit l).free < d.free := by
  have := Device.raiseLimit_free h hl hfree
  omega

theorem settledInRule (m : Landing) (r : Reply) (hkey : r.key = m.offer.key) : RunRule (Device.settledIn m r) where
  takes {d x} hq h := by
    obtain ⟨l, hl⟩ := d.takeCandidate_landings x
    refine ⟨(Device.takeCandidate_gains h.sound hq).sound, by rw [hl]; exact List.mem_append_left _ h.landed, fun _ => ?_,
      (d.takeCandidate_answers x).keeps h.reply (hkey ▸ hq.apart h.sound.keys h.landed)⟩
    rw [show (d.takeCandidate x).config = d.config by simp]
    exact h.full (Device.qualifies_room hq).2
  raises {d l} hfree hl h := by
    obtain ⟨hmem, htaker⟩ := Device.bestTaker_taker hl
    have hfull := h.full hfree
    have hne : l.offer.key ≠ m.offer.key := fun heq => by
      obtain rfl := AdmissionUnit.keysOk_unique h.sound.keys h.landed hmem heq
      rw [hfull] at htaker
      cases htaker
    refine ⟨?_, ?_, fun _ => ?_, (d.raiseLimit_answers l).keeps h.reply (hkey ▸ hne)⟩
    · rw [Device.raiseLimit_admission]
      exact (h.sound.raise hmem).sound
    · rw [Device.raiseLimit_admission]
      exact List.mem_map.mpr ⟨m, h.landed, if_neg (Ne.symm hne)⟩
    · rw [show (d.raiseLimit l).config = d.config by simp]
      exact hfull

/-- Without a free buffer a run does nothing. -/
theorem exhaustedRule (w : PendingEntry) : RunRule fun d => d.free = 0 ∧ w ∈ d.admission.waiting where
  takes hq h := by
    obtain ⟨-, hfree⟩ := Device.qualifies_room hq
    rw [h.1] at hfree
    cases hfree
  raises hfree _ h := by
    rw [h.1] at hfree
    cases hfree

/-! ### The block once the victim is suspended -/

theorem Device.suspend_reserved (h : d.admission.keysOk) (hl : l ∈ d.admission.landings) :
    (d.suspend l).admission.reserved + l.reserved = d.admission.reserved := by
  have hperm := (filter_key_perm (key := fun m : Landing => m.offer.key) (d.admission.keysOk_landings h) hl).map Landing.reserved
  have hsum := hperm.sum_eq
  rw [Device.suspend_admission]
  rw [List.map_cons, List.sum_cons] at hsum
  exact (Nat.add_comm _ _).trans hsum

theorem Device.suspend_length (h : d.admission.keysOk) (hl : l ∈ d.admission.landings) :
    (d.suspend l).admission.landings.length + 1 = d.admission.landings.length := by
  rw [Device.suspend_admission]
  exact (filter_key_perm (key := fun m : Landing => m.offer.key) (d.admission.keysOk_landings h) hl).length_eq

/-- R114: the occupant of the offer's window is its victim. -/
theorem Device.victim_window (hv : d.victim o = some l) (ho : d.occupied o.fields.window = true) :
    l.offer.fields.window = o.fields.window := by
  obtain ⟨hnamed, -, -⟩ := Device.victim_maySuspend hv
  obtain ⟨-, -, -, ⟨-, hwin⟩, -⟩ := (Device.namedVictim_occupied ho).mp hnamed
  exact hwin

/-- R137: an EXCLUSIVE window has one occupant, so without the victim the offer's window is free. -/
theorem Device.suspend_vacates (h : d.inPlace) (hl : l ∈ d.admission.landings) (hv : d.victim o = some l) :
    (d.suspend l).occupied o.fields.window = false := by
  rw [Bool.eq_false_iff, ne_eq, Device.occupied_iff, Device.suspend_admission]
  rintro ⟨hmode, m, hm, hwin⟩
  have hmode : d.config.windows[o.fields.window].mode = .exclusive := by simpa using hmode
  have hm : m ∈ d.admission.landings.filter fun m => decide (m.offer.key ≠ l.offer.key) := hm
  obtain ⟨hmem, -⟩ := List.mem_filter.mp hm
  have hlwin := Device.victim_window hv (Device.occupied_iff.mpr ⟨hmode, m, hmem, hwin⟩)
  have hperm := filter_key_perm (key := fun m : Landing => m.offer.key) (d.admission.keysOk_landings h.pool.keysOk) hl
  have hcount := hperm.countP_eq fun l => decide (l.offer.fields.window = o.fields.window)
  simp only [List.countP_cons, hlwin, decide_true, if_true] at hcount
  have hsingle := h.fits.single o.fields.window hmode
  have hpos := List.countP_pos_iff (p := fun l : Landing => decide (l.offer.fields.window = o.fields.window)).mpr
    ⟨m, hm, decide_eq_true hwin⟩
  omega

theorem Device.suspend_canAdmit (h : d.inPlace) (hroom : d.admission.landings.length ≤ Config.landingSlots)
    (hl : l ∈ d.admission.landings) (hv : d.victim o = some l) :
    (d.suspend l).canAdmit o.fields.window = true ↔ 0 < (d.suspend l).free := by
  have hlength := Device.suspend_length h.pool.keysOk hl
  rw [Device.canAdmit_iff, Device.suspend_vacates h hl hv]
  exact ⟨fun hcan => hcan.2.2, fun hfree => ⟨by omega, rfl, hfree⟩⟩

/-- R74, R75: the new landing's grant is the credit, the blocks of the offer or the buffers free, whichever is least. -/
def Device.firstLanding (d : Device) (o : Offer) : Landing :=
  { offer := o, accepted := 0, written := 0, limit := min (min d.config.credit (blockCount o.fields.length)) d.free,
    phase := .active, timer := some d.config.tLand }

theorem Device.admitOffer_landings (d : Device) (o : Offer) :
    (d.admitOffer o).admission.landings = d.admission.landings ++ [d.firstLanding o] := by
  rw [Device.admitOffer_admission]
  rfl

/-- R118: with the offer in the table the victim's window has room for no one. -/
theorem Device.admitOffer_blocks (h : d.admission.keysOk) (hl : l ∈ d.admission.landings) (hv : d.victim o = some l) :
    ((d.suspend l).admitOffer o).canAdmit l.offer.fields.window = false := by
  obtain ⟨-, -, hcall⟩ := Device.victim_maySuspend hv
  have hlength := Device.suspend_length h hl
  rw [Bool.eq_false_iff, ne_eq, Device.canAdmit_iff]
  rintro ⟨hroom, hfree, -⟩
  rcases Bool.or_eq_true_iff.mp hcall with hfull | hoccupied
  · have hfull : Config.landingSlots ≤ d.admission.landings.length := of_decide_eq_true hfull
    rw [Device.admitOffer_landings, List.length_append, List.length_singleton] at hroom
    omega
  · have hwin := Device.victim_window hv hoccupied
    obtain ⟨hmode, -⟩ := Device.occupied_iff.mp hoccupied
    rw [hwin, Bool.eq_false_iff, ne_eq, Device.occupied_iff] at hfree
    refine hfree ⟨by simpa using hmode, (d.suspend l).firstLanding o, ?_, rfl⟩
    rw [Device.admitOffer_landings]
    exact List.mem_append_right _ (List.mem_singleton.mpr rfl)

theorem Device.queueOffer_tables (d : Device) (o : Offer) :
    (d.queueOffer o).admission.landings = d.admission.landings ∧ (d.queueOffer o).admission.suspended = d.admission.suspended := by
  have hwait : ∀ d : Device, (d.placeWaiting o).admission.landings = d.admission.landings ∧
      (d.placeWaiting o).admission.suspended = d.admission.suspended := fun d => by
    rw [Device.placeWaiting_admission]
    exact ⟨rfl, rfl⟩
  unfold Device.queueOffer
  split
  next => exact hwait d
  next =>
    split
    next t _ =>
      split
      next =>
        obtain ⟨hl, hs⟩ := hwait (d.evict t)
        rw [Device.evict_admission] at hl hs
        exact ⟨hl, hs⟩
      next => simp
    next => exact hwait d

theorem Device.queueOffer_free (d : Device) (o : Offer) : (d.queueOffer o).free = d.free := by
  obtain ⟨hlandings, -⟩ := d.queueOffer_tables o
  simp only [Device.free, Device.holding, AdmissionUnit.reserved, hlandings, Device.queueOffer_keeps]

/-- A reply to another key than those an offer's placement answers stays. -/
theorem Device.admitOrQueue_replies (hr : r ∈ d.span.replies) (ho : o.key ≠ r.key)
    (hw : ∀ w ∈ d.admission.waiting, w.offer.key ≠ r.key) : r ∈ (d.admitOrQueue o).span.replies := by
  have hwait : ∀ {d : Device}, r ∈ d.span.replies → r ∈ (d.placeWaiting o).span.replies := fun {d} hr =>
    ((Device.claimReply_answers (d.updAdmission _) o.key o.generation .wait).between (d := d) rfl rfl rfl rfl).keeps hr ho
  unfold Device.admitOrQueue
  split
  next => exact (d.admitOffer_answers o).keeps hr ho
  next =>
    unfold Device.queueOffer
    split
    next => exact hwait hr
    next =>
      split
      next t ht =>
        split
        next =>
          refine hwait (d := d.evict t) ?_
          exact ((Device.claimReply_answers (d.updAdmission _) t.offer.key t.offer.generation (.refuse .busy)).between (d := d)
            rfl rfl rfl rfl).keeps hr (hw t (List.mem_of_getLast? ht))
        next => exact (d.claimReply_answers _ _ _).keeps hr ho
      next => exact hwait hr

theorem Device.admitOffer_free (d : Device) (o : Offer) : (d.admitOffer o).free + (d.firstLanding o).limit = d.free := by
  have hport : (d.admitOffer o).port = d.port := by simp
  have hle : (d.firstLanding o).limit ≤ d.free := Nat.min_le_right _ _
  have hadmission := d.admitOffer_landings o
  have hreserved : (d.firstLanding o).reserved = (d.firstLanding o).limit := rfl
  simp only [Device.free, Device.holding, AdmissionUnit.reserved, hport, hadmission, List.map_append, List.sum_append,
    List.map_cons, List.map_nil, List.sum_cons, List.sum_nil, hreserved] at hle ⊢
  omega

/-- R98: while a buffer is left, the new landing can take none: it has its credit, or all its blocks. -/
theorem Device.admitOffer_full (hfree : 0 < (d.admitOffer o).free) : (d.firstLanding o).isTaker d.config.credit = false := by
  have hsum := d.admitOffer_free o
  rw [Bool.eq_false_iff]
  intro htaker
  simp only [Landing.isTaker, Bool.and_eq_true, decide_eq_true_eq] at htaker
  obtain ⟨⟨-, hblocks⟩, hcredit⟩ := htaker
  simp only [Device.firstLanding, Landing.blocks, blockCount] at hsum hblocks hcredit
  omega

/-- The offer's landing, once admitted, is out of the run's reach, and its GRANT waits. -/
theorem Device.admitOffer_settledIn (h : (d.admitOffer o).admission.sound) (ho : d.control.owed = false)
    (hnone : ∀ r ∈ d.span.replies, r.key ≠ o.key) :
    (d.admitOffer o).settledIn (d.firstLanding o)
      { key := o.key, generation := o.generation, kind := .grant 0 (d.firstLanding o).limit } where
  sound := h
  landed := by
    rw [Device.admitOffer_landings]
    exact List.mem_append_right _ (List.mem_singleton.mpr rfl)
  full hleft := by
    rw [show (d.admitOffer o).config = d.config by simp]
    exact Device.admitOffer_full hleft
  reply := Device.claimReply_mem (d := d.updAdmission _) ho hnone _ _

/-- R117: the PAUSE of the victim is no reply to another key. -/
theorem Device.suspend_noReply (ho : d.control.owed = false) (hne : l.offer.key ≠ k) (hnone : ∀ r ∈ d.span.replies, r.key ≠ k) :
    ∀ r ∈ (d.suspend l).span.replies, r.key ≠ k := by
  intro r hr
  rw [show (d.suspend l).span = (d.claimReply l.offer.key l.offer.generation (.pause l.accepted)).span from rfl,
    Device.claimReply_replied ho] at hr
  rcases mem_placeReply hr with hr | rfl
  · exact hnone r hr
  · exact hne

/-! ### The offer after the victim -/

/-- R118: the block once the offer is admitted or queued in the victim's stead. -/
theorem Device.sidelines_placed (h : d.inPlace) (hroom : d.admission.landings.length ≤ Config.landingSlots)
    (hl : l ∈ d.admission.landings) (hv : d.victim o = some l) (hfresh : o.key ∉ d.admission.keys) (ho : d.control.owed = false) :
    ((d.suspend l).admitOrQueue o).sidelines l.setAside (∀ r ∈ d.span.replies, r.key ≠ l.offer.key)
      { key := l.offer.key, generation := l.offer.generation, kind := .pause l.accepted } := by
  have hsound : d.admission.sound := ⟨h.pool.keysOk, fun m hm => (h.pool.table m hm).1⟩
  have hr := Device.suspend_rearranges hsound hl
  have hcan := Device.suspend_canAdmit h hroom hl hv
  have haside : l.setAside ∈ (d.suspend l).admission.suspended := by
    rw [Device.suspend_admission]
    exact mem_insertByLevel.mpr (.inl rfl)
  obtain ⟨-, -, -, hother, -⟩ := AdmissionUnit.keysOk_parts h.pool.keysOk
  refine ⟨(Device.admitOrQueue_places hr.sound (hr.fresh hfresh)).sound, ?_, ?_, fun hnone => ?_⟩
  · unfold Device.admitOrQueue
    split
    next =>
      rw [Device.admitOffer_admission]
      exact haside
    next =>
      rw [(Device.queueOffer_tables _ _).2]
      exact haside
  · unfold Device.admitOrQueue
    split
    next => exact Device.admitOffer_blocks h.pool.keysOk hl hv
    next hno =>
      have hfree : ¬0 < (d.suspend l).free := fun hpos => hno (hcan.mpr hpos)
      rw [Bool.eq_false_iff, ne_eq, Device.canAdmit_iff, Device.queueOffer_free]
      exact fun hall => hfree hall.2.2
  · refine Device.admitOrQueue_replies ?_ (fun hkey => hfresh ?_) fun w hw hkey => ?_
    · exact Device.claimReply_mem ho hnone l.offer.generation (.pause l.accepted)
    · exact AdmissionUnit.mem_keys.mpr (.inl ⟨l, List.mem_append_left _ hl, hkey.symm⟩)
    · rw [Device.suspend_admission] at hw
      exact hother w hw l (List.mem_append_left _ hl) hkey.symm

/-- Settles O34, by the invariants of the run that follows. -/
theorem preemptionSuspendsTheVictim : Obligations.PreemptionSuspendsTheVictim := by
  intro s x c g f l hx hf hpool hbounded hwithin hnew key o hjudge hcan hvictim
  obtain ⟨-, -, hsingle, hcredited, hjudged⟩ := hwithin
  have hplace : s.dev.inPlace := ⟨Device.poolOk_iff.mp hpool, hsingle, hcredited, hjudged⟩
  obtain ⟨d, hd⟩ : ∃ d, s.dev.updAdmission (·.dropRecent key) = d := ⟨_, rfl⟩
  have hdplace : d.inPlace := hd ▸ hplace.dropRecent key
  have hfresh : o.key ∉ d.admission.keys := by rw [← hd]; exact AdmissionUnit.dropRecent_fresh hnew
  have hdvictim : d.victim o = some l := by rw [← hd]; exact hvictim
  have ho : d.control.owed = false := by rw [← hd]; exact hx.2.1
  have hroom : d.admission.landings.length ≤ Config.landingSlots := by rw [← hd]; exact hbounded.1
  obtain ⟨hnamed, hmay, -⟩ := Device.victim_maySuspend hdvictim
  have hl := Device.namedVictim_mem hnamed
  obtain ⟨⟨hphase, -⟩, -⟩ := Device.maySuspend_iff.mp hmay
  obtain ⟨b, hb⟩ : ∃ b, d.suspend l = b := ⟨_, rfl⟩
  obtain ⟨p, hp⟩ : ∃ p, b.admitOrQueue o = p := ⟨_, rfl⟩
  have hside := Device.sidelines_placed hdplace hroom hl hdvictim hfresh ho
  have hbcan := Device.suspend_canAdmit hdplace hroom hl hdvictim
  rw [hb, hp] at hside
  rw [hb] at hbcan
  have hexec : exec (.offerArrives x c g f) s = s.next p.runAndSweep.settle := by
    rw [exec_offerArrives_of_hears hx hf, Device.handleOffer_new hnew,
      show s.dev.updAdmission (·.dropRecent ({ source := x, channel := c } : Key)) = d from hd,
      Device.judgeAndPlace_opposed (by rw [← hd]; exact hjudge) hdvictim, hb, hp]
    rfl
  have hspan : d.span = s.dev.span := by rw [← hd]; rfl
  have hadmission : d.admission = s.dev.admission.dropRecent key := by rw [← hd]; rfl
  have hconfig : b.config = s.dev.config := by rw [← hb, ← hd]; simp
  have hdsound : d.admission.sound := ⟨hdplace.pool.keysOk, fun m hm => (hdplace.pool.table m hm).1⟩
  have hrearranged := Device.suspend_rearranges hdsound hl
  rw [hb] at hrearranged
  have hplaces := Device.admitOrQueue_places hrearranged.sound (hrearranged.fresh hfresh)
  rw [hp] at hplaces
  have hran := Device.runAndSweep_ran hplaces.sound
  have hlater := (sidelinesRule _ _ _ rfl).runAndSweep hside
  obtain ⟨hcontrol, -, hchannels, hport, hhalt⟩ := p.runAndSweep_keeps
  refine ⟨p.runAndSweep, hexec, hlater.aside, fun m hm => (AdmissionUnit.keysOk_apart hlater.sound.keys hm hlater.aside).symm,
    fun hnone => hlater.reply (hspan ▸ hnone), ?_, ?_, ?_, ?_, ?_, ?_, ?_⟩
  · obtain ⟨ms, -, hms⟩ := (b.admitOrQueue_tells o).posts
    obtain ⟨ns, -, hns⟩ := p.runAndSweep_posts
    refine ⟨ms ++ ns, ?_⟩
    have hposted : b.lport = s.dev.lport.post (.landingSuspended l.offer.key l.offer.fields.window l.offer.generation
        (min (64 * l.accepted) l.offer.fields.length)) := by
      have hlport : (d.claimReply l.offer.key l.offer.generation (.pause l.accepted)).lport = s.dev.lport := by
        rw [← hd]
        simp
      rw [← hb, ← hlport]
      rfl
    rw [hns, ← hp, hms, hposted, List.foldl_append]
  · intro free
    have hfree : b.free = free := by
      have hreserved := Device.suspend_reserved hdplace.pool.keysOk hl
      have hl' : l.reserved = l.limit - l.accepted := by rw [Landing.reserved, hphase]
      have hds : d.admission.reserved = s.dev.admission.reserved := by rw [hadmission]; rfl
      have hbport : b.port = s.dev.port := by rw [← hb, ← hd]; simp
      rw [hb, hl', hds] at hreserved
      have hle : b.admission.reserved = s.dev.admission.reserved - (l.limit - l.accepted) := by omega
      rw [Device.free, Device.holding, hle, hbport]
    refine ⟨fun hpos hnone => ?_, fun hzero hwaiting => ?_⟩
    · have hadmitted : b.admitOffer o = p := by rw [← hp, Device.admitOrQueue, if_pos (hbcan.mpr (hfree ▸ hpos))]
      have hlimit : (b.firstLanding o).limit = min (min s.dev.config.credit ((f.length + 63) / 64)) free := by
        rw [← hfree, ← hconfig]
        rfl
      have hbnone := Device.suspend_noReply ho (fun hkey => hfresh (AdmissionUnit.mem_keys.mpr (.inl
        ⟨l, List.mem_append_left _ hl, hkey⟩))) (hspan ▸ hnone)
      rw [hb] at hbnone
      have hbowed : b.control.owed = false := by rw [← hb]; simpa using ho
      have hend := (settledInRule (b.firstLanding o) _ rfl).runAndSweep
        (hadmitted ▸ Device.admitOffer_settledIn (hadmitted ▸ hplaces.sound) hbowed hbnone)
      exact ⟨b.firstLanding o, hend.landed, rfl, rfl, rfl, rfl, hlimit, congrArg (fun r : ConfigRecord => some r.tLand) hconfig, hend.reply⟩
    · have hbwaiting : b.admission.waiting.length < Config.pendingMax :=
        (hrearranged.waiting.length_le.trans (by rw [hadmission]; exact le_rfl)).trans_lt hwaiting
      have hqueued : b.queueOffer o = p := by rw [← hp, Device.admitOrQueue, if_neg (by rw [hbcan, hfree, hzero]; nofun)]
      have hend := (exhaustedRule { offer := o, lifetime := some b.config.tQueue }).runAndSweep (d := p)
        ⟨by rw [← hqueued, Device.queueOffer_free, hfree, hzero], by
          rw [← hqueued, Device.queueOffer_room hbwaiting, Device.placeWaiting_admission]
          exact mem_insertByLevel.mpr (.inl rfl)⟩
      exact ⟨_, hend.2, rfl, congrArg (fun r : ConfigRecord => some r.tQueue) hconfig⟩
  · refine AdmissionUnit.keepsOthers_iff.mpr fun t ht _ => hran.carried (hplaces.carried (hrearranged.tracks.symm.subset ?_))
    rw [hadmission]
    exact ht
  · rw [hport, ← hp, ← hb, ← hd]
    simp
  · rw [hchannels, ← hp, ← hb, ← hd]
    simp
  · rw [hcontrol, ← hp, ← hb, ← hd]
    simp
  · rw [hhalt, ← hp, ← hb, ← hd]
    simp

end

end Sys2Proof.Machine

/-! A landing through an admission run (R96, R98): it stays in the table, its limit may rise, and its RECEIPT says so. -/

namespace Sys2Proof.Machine

/-! ### The waiting reply of a key (R13) -/

/-- The waiting replies of this key; the queue holds at most one. -/
def repliesOf (k : Key) (q : List Reply) : List Reply := q.filter fun r => decide (r.key = k)

section
variable {q : List Reply} {r p : Reply} {k : Key}

theorem repliesOf_nil : repliesOf k q = [] ↔ ∀ r ∈ q, r.key ≠ k := by
  simp [repliesOf, List.filter_eq_nil_iff]

theorem mem_of_repliesOf (h : repliesOf k q = [r]) : r ∈ q :=
  List.mem_of_mem_filter (show r ∈ repliesOf k q by rw [h]; exact List.mem_singleton.mpr rfl)

theorem placeReply_repliesOf_other (h : r.key ≠ k) (q : List Reply) : repliesOf k (placeReply q r) = repliesOf k q := by
  induction q with
  | nil => simp [placeReply, repliesOf, h]
  | cons p q ih =>
    unfold placeReply
    split
    next hp =>
      have hpk : p.key ≠ k := hp ▸ h
      split
      next => rfl
      next => simp [repliesOf, h, hpk]
    next =>
      unfold repliesOf at ih ⊢
      rw [List.filter_cons, List.filter_cons, ih]

theorem placeReply_repliesOf_new (h : repliesOf r.key q = []) : repliesOf r.key (placeReply q r) = [r] := by
  have hnone := repliesOf_nil.mp h
  unfold repliesOf at h ⊢
  rw [placeReply_new hnone, List.filter_append, h]
  simp

theorem placeReply_repliesOf_again (h : repliesOf r.key q = [p]) (hp : p.kind.isRefuse = false) :
    repliesOf r.key (placeReply q r) = [r] := by
  induction q with
  | nil => cases h
  | cons o q ih =>
    unfold placeReply
    by_cases ho : o.key = r.key
    · have hq : repliesOf r.key q = [] ∧ o = p := by
        simp only [repliesOf, List.filter_cons, ho, decide_true, if_true, List.cons.injEq] at h
        exact ⟨h.2, h.1⟩
      obtain ⟨hq, rfl⟩ := hq
      rw [if_pos ho, if_neg (by simp [hp])]
      unfold repliesOf at hq ⊢
      rw [List.filter_cons, if_pos (decide_eq_true rfl), hq]
    · unfold repliesOf at h ih ⊢
      rw [List.filter_cons_of_neg (by simpa using ho)] at h
      rw [if_neg ho, List.filter_cons_of_neg (by simpa using ho)]
      exact ih h

end

/-! ### The landing and its RECEIPT -/

/-- The RECEIPT of a landing. -/
def Landing.receipt (l : Landing) (final : Bool) : Reply :=
  { key := l.offer.key, generation := l.offer.generation, kind := .receipt l.accepted l.limit final }

/-- Of the landing's key no reply waits, or its RECEIPT does; with `must` the latter. -/
def Landing.reportedIn (l : Landing) (must : Prop) (q : List Reply) : Prop :=
  repliesOf l.offer.key q = [] ∧ ¬must ∨ repliesOf l.offer.key q = [l.receipt false]

section
variable {d e : Device} {l m : Landing} {must : Prop} {k : Key}

theorem Landing.reportedIn.other {q : List Reply} {r : Reply} (h : m.reportedIn must q) (hne : r.key ≠ m.offer.key) :
    m.reportedIn must (placeReply q r) := by
  unfold Landing.reportedIn
  rw [placeReply_repliesOf_other hne]
  exact h

/-- R13: a RECEIPT claimed for the landing takes the place of the one before it. -/
theorem Landing.reportedIn.replaced {q : List Reply} (h : m.reportedIn must q) {r : Reply} (hr : r.key = m.offer.key) :
    repliesOf m.offer.key (placeReply q r) = [r] := by
  rw [← hr]
  rcases h with ⟨hnone, -⟩ | hone
  · exact placeReply_repliesOf_new (hr ▸ hnone)
  · exact placeReply_repliesOf_again (hr ▸ hone) rfl

/-- R96: where no reply or the RECEIPT waits, no GRANT does. -/
theorem Landing.reportedIn.noGrant (h : m.reportedIn must d.span.replies) : d.grantWaits m.offer.key m.offer.generation = false := by
  rw [Bool.eq_false_iff]
  intro hg
  obtain ⟨r, hr, hgrant⟩ := List.any_eq_true.mp hg
  simp only [Bool.and_eq_true, decide_eq_true_eq] at hgrant
  obtain ⟨⟨hkey, -⟩, hkind⟩ := hgrant
  have hmem : r ∈ repliesOf m.offer.key d.span.replies := List.mem_filter.mpr ⟨hr, decide_eq_true hkey⟩
  rcases h with ⟨hnone, -⟩ | hone
  · rw [hnone] at hmem
    cases hmem
  · rw [hone, List.mem_singleton] at hmem
    rw [hmem] at hkind
    cases hkind

/-- R96: the RECEIPT claimed for the landing is the one that waits. -/
theorem Device.claimReceipt_reported (ho : d.control.owed = false) (h : m.reportedIn must d.span.replies)
    (hl : l.offer = m.offer) (final : Bool) :
    repliesOf m.offer.key (d.claimReceipt l final).span.replies = [l.receipt final] := by
  unfold Device.claimReceipt
  rw [if_neg (by rw [hl, h.noGrant]; simp), Device.claimReply_replied ho]
  exact h.replaced (r := l.receipt final) (congrArg Offer.key hl)

theorem Device.claimReply_repliesOf (h : k ≠ m.offer.key) (g : Generation) (r : ReplyKind)
    (hm : m.reportedIn must d.span.replies) : m.reportedIn must (d.claimReply k g r).span.replies := by
  rw [Device.claimReply_eq]
  dsimp only
  split
  next => exact hm
  next => exact hm.other h

theorem Device.claimReceipt_repliesOf (h : l.offer.key ≠ m.offer.key) (final : Bool) (hm : m.reportedIn must d.span.replies) :
    m.reportedIn must (d.claimReceipt l final).span.replies := by
  unfold Device.claimReceipt
  split <;> exact Device.claimReply_repliesOf h _ _ hm

/-- R78, R97: a landing of this offer, phase and counts is in the table, with a limit of `n` or more; and when `c` holds,
its reply is reported. -/
structure Device.keepsLanding (l : Landing) (n : Nat) (c must : Prop) (d : Device) : Prop where
  sound : d.admission.sound
  owed : c → d.control.owed = false
  landed : ∃ m ∈ d.admission.landings, (m.offer = l.offer ∧ m.accepted = l.accepted ∧ m.written = l.written ∧ m.phase = l.phase) ∧
    n ≤ m.limit ∧ (m.phase ≠ .active → m.limit = l.limit) ∧ (c → m.reportedIn must d.span.replies)

theorem Device.takeCandidate_reported (d : Device) (x : Candidate) (h : x.key ≠ m.offer.key) (hm : m.reportedIn must d.span.replies) :
    m.reportedIn must (d.takeCandidate x).span.replies := by
  cases x with
  | resume l => exact Device.claimReply_repliesOf (d := d.updAdmission _) h _ _ hm
  | enter w => exact Device.claimReply_repliesOf (d := (d.updAdmission _).updAdmission _) h _ _ hm

theorem keepsLandingRule (l : Landing) (n : Nat) (c must : Prop) : RunRule (Device.keepsLanding l n c must) where
  takes {d x} hq h := by
    obtain ⟨m, hm, hsame, hn, hstill, hreply⟩ := h.landed
    obtain ⟨new, hnew⟩ := d.takeCandidate_landings x
    refine ⟨(Device.takeCandidate_gains h.sound hq).sound, fun hc => by simpa using h.owed hc, m, ?_, hsame, hn, hstill,
      fun hc => d.takeCandidate_reported x (hq.apart h.sound.keys hm) (hreply hc)⟩
    rw [hnew]
    exact List.mem_append_left _ hm
  raises {d x} _ hx h := by
    obtain ⟨m, hm, hsame, hn, hstill, hreply⟩ := h.landed
    obtain ⟨hmem, hphase, -⟩ := Device.bestTaker_spec hx
    have hsound : (d.raiseLimit x).admission.sound := by
      rw [Device.raiseLimit_admission]
      exact (h.sound.raise hmem).sound
    refine ⟨hsound, fun hc => by simpa using h.owed hc, ?_⟩
    rw [Device.raiseLimit_admission]
    by_cases hkey : x.offer.key = m.offer.key
    · obtain rfl := AdmissionUnit.keysOk_unique h.sound.keys hm hmem hkey
      refine ⟨x.raised, List.mem_map.mpr ⟨x, hm, if_pos rfl⟩, hsame, hn.trans (Nat.le_succ _), fun hp => absurd hphase hp,
        fun hc => .inr ?_⟩
      exact Device.claimReceipt_reported (d := d.updAdmission _) (l := x.raised) (h.owed hc) (hreply hc) rfl false
    · refine ⟨m, List.mem_map.mpr ⟨m, hm, if_neg (Ne.symm hkey)⟩, hsame, hn, hstill, fun hc => ?_⟩
      exact Device.claimReceipt_repliesOf (d := d.updAdmission _) (l := { x with limit := x.limit + 1 }) hkey false (hreply hc)

end

end Sys2Proof.Machine

/-! Write completions (R97, R100): the buffer that comes back, the RECEIPT, and the end of a landing. -/

namespace Sys2Proof.Machine

section
variable {b d e : Device} {l m : Landing} {k : Key} {c must : Prop} {n : Nat}

/-! ### What a landing event leaves alone -/

/-- A start touches no reply, and no access where none is under way. -/
structure Device.undisturbed (d e : Device) : Prop where
  replies : e.span.replies = d.span.replies
  access : d.port.access = none → e.port.access = none

theorem Device.undisturbed_of_keeps (hs : e.span.replies = d.span.replies) (hp : e.port = d.port) : d.undisturbed e :=
  ⟨hs, fun h => hp ▸ h⟩

theorem Device.beginTransfer_undisturbed (d : Device) (c : ChannelNo) : d.undisturbed (d.beginTransfer c) := by
  unfold Device.beginTransfer
  split
  next => exact Device.undisturbed_of_keeps rfl rfl
  next a _ =>
    obtain ⟨g, hg⟩ : ∃ g, d.emptyBuffers c (fun _ => false) = g := ⟨_, rfl⟩
    have hspan : g.span = d.span := by rw [← hg]; simp
    have haccess : d.port.access = none → g.port.access = none := fun h => by
      rw [← hg, Device.emptyBuffers_eq]
      simp only [Device.rebuffer, MemoryPort.abandon, h]
    simp only [hg]
    refine ⟨?_, fun h => ?_⟩
    · simp only [Device.claimOffer, Device.claimInitiation_eq]
      exact congrArg (·.replies) hspan
    · simp only [Device.claimOffer, Device.claimInitiation_eq]
      exact haccess h

theorem Device.startOrMiss_undisturbed (d : Device) (c : ChannelNo) (cause : MissedCause) : d.undisturbed (d.startOrMiss c cause) := by
  have hsame : ∀ {e : Device}, e.span = d.span → e.port = d.port → d.undisturbed e := fun hs hp =>
    Device.undisturbed_of_keeps (by rw [hs]) hp
  unfold Device.startOrMiss
  split
  next e h =>
    unfold Device.tryStart at h
    split at h
    · split at h
      · cases h
      · obtain rfl := Option.some.inj h
        exact d.beginTransfer_undisturbed c
      all_goals
        obtain rfl := Option.some.inj h
        exact hsame rfl rfl
    · split at h
      · cases h
      all_goals
        obtain rfl := Option.some.inj h
        exact hsame rfl rfl
    all_goals cases h
  next => exact hsame rfl rfl

theorem Device.applySignal_undisturbed (d : Device) (x : Station) (cause : SignalCause) (n : EventNo) (a : BitVec 16) :
    d.undisturbed (d.applySignal x cause n a) := by
  unfold Device.applySignal
  dsimp only
  obtain ⟨g, hg⟩ : ∃ g, (if (d.config.signals[n]).action.notices = true then d.post (.signal x cause n a) else d) = g := ⟨_, rfl⟩
  have htold : d.undisturbed g := by
    rw [← hg]
    split <;> exact Device.undisturbed_of_keeps rfl rfl
  simp only [hg]
  split
  next =>
    obtain ⟨hr, ha⟩ := g.startOrMiss_undisturbed (d.config.signals[n]).channel (.signal n x)
    exact ⟨hr.trans htold.replies, fun h => ha (htold.access h)⟩
  next => exact htold

/-! ### The end of a landing (R100) -/

/-- R100: the landing is done: its record is removed, its key remembered and the notice posted. -/
def Device.landed (d : Device) (l : Landing) : Device :=
  ((d.removeRecord l.offer.key).updAdmission
    (·.addRecent { key := l.offer.key, generation := l.offer.generation, blocks := l.blocks })).post
    (l.offer.ended .landed l.offer.fields.length)

/-- R100: what follows is the landing event's. -/
structure Device.Signals (d e : Device) : Prop where
  admission : e.admission = d.admission
  control : e.control = d.control
  config : e.config = d.config
  halt : e.halt = d.halt
  writes : e.port.writes = d.port.writes
  undisturbed : d.undisturbed e
  away : d.control.state = .leaving → e.span = d.span
  posts : ∃ ns : List Notice, e.lport = ns.foldl LocalPort.post d.lport

theorem Device.completeLanding_signals (d : Device) (l : Landing) : (d.landed l).Signals (d.completeLanding l) := by
  obtain ⟨g, hg⟩ : ∃ g, d.landed l = g := ⟨_, rfl⟩
  have heq : d.completeLanding l = match l.offer.fields.landingEvent with
      | some e => g.applySignal l.offer.key.source (.landing l.offer.key.channel l.offer.fields.window l.offer.generation) e 0
      | none => g := by rw [← hg]; rfl
  rw [heq, hg]
  split
  next ev _ =>
    obtain ⟨hcontrol, hconfig, hadmission, hhalt⟩ := g.applySignal_keeps l.offer.key.source
      (.landing l.offer.key.channel l.offer.fields.window l.offer.generation) ev 0
    obtain ⟨ns, -, hns⟩ := (Device.applySignal_tells (p := Notice.ofLanding) (fun _ _ => rfl) (fun _ _ _ _ => rfl) g l.offer.key.source
      (.landing l.offer.key.channel l.offer.fields.window l.offer.generation) ev 0).posts
    exact ⟨hadmission, hcontrol, hconfig, hhalt, by simp, g.applySignal_undisturbed _ _ _ _,
      fun hs => (Device.applySignal_away (.inr hs) _ _ _ _).1, ⟨ns, hns⟩⟩
  next => exact ⟨rfl, rfl, rfl, rfl, rfl, Device.undisturbed_of_keeps rfl rfl, fun _ => rfl, ⟨[], rfl⟩⟩

/-! ### The returned buffer and the report -/

theorem Device.ran.reply (h : b.ran d) (hk : ¬b.admission.lacks k) (ha : d.answers k e) (hsame : e.admission = d.admission) : b.ran e where
  sound := hsame ▸ h.sound
  carried := hsame ▸ h.carried
  origin := hsame ▸ h.origin
  waiting := hsame ▸ h.waiting
  recent := hsame ▸ h.recent
  initiation := ha.initiation.trans h.initiation
  mute ho := by
    rw [ha.control] at ho
    exact (ha.mute ho).trans (h.mute ho)
  replies r hr hl := ha.others r (h.replies r hr hl) fun heq => hk (heq ▸ hl)

theorem Device.updAdmission_answers (d : Device) (f : AdmissionUnit → AdmissionUnit) (k : Key) : d.answers k (d.updAdmission f) :=
  ⟨rfl, rfl, fun _ => rfl, fun _ hr _ => hr⟩

theorem Device.placeFreed_ran (h : d.admission.sound) (k : Key) : d.ran (d.placeFreed k) := by
  unfold Device.placeFreed
  split
  next l hl =>
    obtain ⟨hmem, rfl⟩ := AdmissionUnit.landing_spec hl
    split
    next => exact (Device.ran_refl h).step (h.raise hmem) (d.updAdmission_answers _ _)
    next => exact Device.distribute_ran h
  next => exact Device.distribute_ran h

/-- R97: the report of a landing whose blocks are not all written. -/
theorem Device.reportWrite_going (hm : d.admission.landing k = some m) (hw : m.written ≠ m.blocks) :
    d.reportWrite k = d.claimReceipt m false := by
  simp only [Device.reportWrite, hm, hw, decide_false, Bool.false_eq_true, if_false]

theorem Device.reportWrite_done (hm : d.admission.landing k = some m) (hw : m.written = m.blocks) :
    d.reportWrite k = (d.claimReceipt m true).completeLanding m := by
  simp only [Device.reportWrite, hm, hw, decide_true, if_true]

theorem Device.reportWrite_none (hm : d.admission.landing k = none) : d.reportWrite k = d := by
  simp only [Device.reportWrite, hm]

/-- R97: the limit a landing has at the least once one of its buffers is free again. -/
def Landing.returned (credit : Nat) (l : Landing) : Nat := if l.isTaker credit then l.limit + 1 else l.limit

theorem Device.placeFreed_keepsLanding (hs : d.admission.sound) (hl : l ∈ d.admission.landings) (ho : c → d.control.owed = false)
    (hr : c → repliesOf l.offer.key d.span.replies = []) :
    (d.placeFreed l.offer.key).keepsLanding l (l.returned d.config.credit) c False := by
  unfold Device.placeFreed
  rw [AdmissionUnit.landing_of_mem hs.keys hl]
  dsimp only
  split
  next htaker =>
    have htaker : l.isTaker d.config.credit = true := htaker
    have hactive : l.phase = .active := by
      simp only [Landing.isTaker, Bool.and_eq_true, decide_eq_true_eq] at htaker
      exact htaker.1.1
    refine ⟨(hs.raise hl).sound, ho, l.raised, List.mem_map.mpr ⟨l, hl, if_pos rfl⟩, ⟨rfl, rfl, rfl, rfl⟩, ?_,
      fun hp => absurd hactive hp, fun hc => ?_⟩
    · rw [Landing.returned, if_pos htaker]
      exact le_rfl
    · exact .inl ⟨hr hc, not_false⟩
  next hno =>
    refine (keepsLandingRule l _ c False).distribute ⟨hs, ho, l, hl, ⟨rfl, rfl, rfl, rfl⟩, ?_, fun _ => rfl, fun hc => .inl ⟨hr hc, not_false⟩⟩
    rw [Landing.returned, if_neg (show ¬l.isTaker d.config.credit = true from hno)]

end

end Sys2Proof.Machine

/-! Writes complete or fail (R97, R100, R101, O39). -/

namespace Sys2Proof.Machine

section
variable {b d e : Device} {l m : Landing} {k : Key} {c must : Prop} {n : Nat}

/-! ### The write that ends -/

theorem exec_writeCompletion {s : State} {w : WriteEntry} {rest : List WriteEntry} (ha : s.dev.port.access = some .write)
    (hw : s.dev.port.writes = w :: rest) : exec .writeCompletion s = s.next (s.dev.popWrite.writeDone w.owner).settle := by
  show execWriteCompletion s = _
  simp only [execWriteCompletion, ha, hw]
  rfl

theorem exec_writeError {s : State} {w : WriteEntry} {rest : List WriteEntry} (ha : s.dev.port.access = some .write)
    (hw : s.dev.port.writes = w :: rest) : exec .writeError s = s.next (s.dev.popWrite.writeFailed w.owner).settle := by
  show execWriteError s = _
  simp only [execWriteError, ha, hw]
  rfl

theorem Device.popWrite_port {w : WriteEntry} {rest : List WriteEntry} (hw : d.port.writes = w :: rest) :
    d.popWrite.port = { d.port with writes := rest, access := none } := by
  simp [Device.popWrite, Device.freePort, hw]

/-- R97 step 1: the block just written is counted. -/
def Device.stored (d : Device) (k : Key) : Device := d.popWrite.updAdmission (·.updRecord k Landing.stored)

theorem Device.stored_sound (h : d.admission.sound) (k : Key) : (d.stored k).admission.sound :=
  h.updRecord k (fun _ => rfl) fun _ hc => hc

theorem Device.stored_keepsOthers (d : Device) (k : Key) : d.admission.keepsOthers (d.stored k).admission k := by
  intro l hl hne
  refine ⟨l, ?_, rfl, rfl, rfl⟩
  rcases List.mem_append.mp hl with hl | hl
  · exact List.mem_append_left _ (List.mem_map.mpr ⟨l, hl, if_neg hne⟩)
  · exact List.mem_append_right _ (List.mem_map.mpr ⟨l, hl, if_neg hne⟩)

theorem Device.stored_landing (hl : l ∈ d.admission.landings) : l.stored ∈ (d.stored l.offer.key).admission.landings :=
  List.mem_map.mpr ⟨l, hl, if_pos rfl⟩

theorem Device.stored_record (hl : l ∈ d.admission.landings ++ d.admission.suspended) :
    l.stored ∈ (d.stored l.offer.key).admission.landings ++ (d.stored l.offer.key).admission.suspended := by
  rcases List.mem_append.mp hl with hl | hl
  · exact List.mem_append_left _ (Device.stored_landing hl)
  · exact List.mem_append_right _ (List.mem_map.mpr ⟨l, hl, if_pos rfl⟩)

/-- R67, R93: the last block of a record is that of a SETTLING landing, and no other block of it waits to be written. -/
theorem Device.poolOk_lastWrite (h : d.poolOk) (hl : l ∈ d.admission.landings ++ d.admission.suspended) {w : WriteEntry}
    {rest : List WriteEntry} (hw : d.port.writes = w :: rest) (hk : w.owner = some l.offer.key) (hlast : l.written + 1 = l.blocks) :
    l ∈ d.admission.landings ∧ l.phase = .settling ∧ (l.accepted = l.blocks ∧ l.limit = l.blocks) ∧
      ∀ v ∈ rest, v.owner ≠ some l.offer.key := by
  obtain ⟨-, htable, haside, -, hheld, -⟩ := h
  have hcount := hheld l hl
  rw [Device.buffersHeld, hw, List.countP_cons_of_pos (by simpa using hk)] at hcount
  have hmem : l ∈ d.admission.landings := by
    refine (List.mem_append.mp hl).resolve_right fun hs => ?_
    obtain ⟨-, -, hlt⟩ := haside l hs
    omega
  obtain ⟨hlimit, hblocks, ⟨-, hlt⟩ | ⟨hphase, hall⟩⟩ := htable l hmem
  · omega
  · refine ⟨hmem, hphase, ⟨hall, by omega⟩, ?_⟩
    have hnone : (rest.countP fun v => decide (v.owner = some l.offer.key)) = 0 := by omega
    simpa using List.countP_eq_zero.mp hnone

/-! ### The report of a landing that goes on -/

theorem Device.reportWrite_keepsLanding (h : d.keepsLanding l n c False) (hw : l.written ≠ l.blocks) :
    (d.reportWrite l.offer.key).keepsLanding l n c True := by
  obtain ⟨m, hm, ⟨hoffer, haccepted, hwritten, hphase⟩, hn, hstill, hreply⟩ := h.landed
  have hfound := AdmissionUnit.landing_of_mem h.sound.keys hm
  rw [hoffer] at hfound
  have hgoing : m.written ≠ m.blocks := by rwa [hwritten, Landing.blocks, hoffer]
  rw [Device.reportWrite_going hfound hgoing]
  refine ⟨by simpa using h.sound, fun hc => by simpa using h.owed hc, m, by simpa using hm, ⟨hoffer, haccepted, hwritten, hphase⟩, hn,
    hstill, fun hc => .inr ?_⟩
  exact Device.claimReceipt_reported (h.owed hc) (hreply hc) rfl false

/-- The report of a record that goes on is a reply to its key. -/
theorem Device.reportWrite_ran (h : b.ran d) (hk : ¬b.admission.lacks k)
    (hgoing : ∀ m ∈ d.admission.landings, m.offer.key = k → m.written ≠ m.blocks) :
    b.ran (d.reportWrite k) ∧ (d.reportWrite k).port = d.port ∧ (d.reportWrite k).channels = d.channels := by
  rcases hm : d.admission.landing k with - | m
  · rw [Device.reportWrite_none hm]
    exact ⟨h, rfl, rfl⟩
  · obtain ⟨hmem, rfl⟩ := AdmissionUnit.landing_spec hm
    rw [Device.reportWrite_going hm (hgoing m hmem rfl)]
    exact ⟨h.reply hk (d.claimReceipt_answers m false) (by simp), by simp, by simp⟩

/-- R97: what the completion of a write leaves of the block, apart from its landings. -/
structure Device.writeFrame (d e : Device) : Prop where
  control : e.control = d.control
  config : e.config = d.config
  halt : e.halt = d.halt
  access : e.port.access = none
  mute : d.control.owed = true → e.span.replies = d.span.replies ∧ (d.leaveOk → e.span.initiation = d.span.initiation)

/-- A record of block `b` is found, by its key, with the same counts after a run. -/
theorem Device.ran.track (h : b.ran d) (hl : l ∈ b.admission.landings ++ b.admission.suspended)
    (hm : m ∈ d.admission.landings ++ d.admission.suspended) (hkey : m.offer.key = l.offer.key) : m.track = l.track := by
  obtain ⟨l', hl', heq⟩ := AdmissionUnit.mem_tracks.mp (h.carried (AdmissionUnit.mem_tracks.mpr ⟨l, hl, rfl⟩))
  obtain ⟨hrecords, -⟩ := AdmissionUnit.keysOk_parts h.sound.keys
  have hoffer : l'.offer = l.offer := congrArg Prod.fst heq
  rw [List.inj_on_of_nodup_map hrecords hm hl' (hkey.trans (congrArg Offer.key hoffer.symm)), heq]

/-- R97: the completion of a write of a record that goes on. -/
theorem Device.writeDone_going (h : d.admission.sound) (hl : l ∈ d.admission.landings ++ d.admission.suspended)
    (hgoing : l.written + 1 < l.blocks) {e : Device} (he : d.popWrite.writeDone (some l.offer.key) = e) :
    (d.stored l.offer.key).ran e ∧ e.port = d.popWrite.port ∧ e.channels = d.channels := by
  obtain ⟨b, hb⟩ : ∃ b, d.stored l.offer.key = b := ⟨_, rfl⟩
  have hrecord : l.stored ∈ b.admission.landings ++ b.admission.suspended := hb ▸ Device.stored_record hl
  have hplaced : b.ran (b.placeFreed l.offer.key) := Device.placeFreed_ran (hb ▸ Device.stored_sound h _) l.offer.key
  obtain ⟨hreported, hport, hchannels⟩ := Device.reportWrite_ran (k := l.offer.key) hplaced
    (fun hlacks => hlacks.1 l.stored hrecord rfl) fun m hm hkey => by
      have htrack := hplaced.track hrecord (List.mem_append_left _ hm) hkey
      simp only [Landing.track, Prod.mk.injEq] at htrack
      obtain ⟨hoffer, -, hwritten⟩ := htrack
      rw [hwritten, Landing.blocks, hoffer]
      exact hgoing.ne
  rw [← he, show d.popWrite.writeDone (some l.offer.key) =
    (((d.stored l.offer.key).placeFreed l.offer.key).reportWrite l.offer.key).runAndSweep from rfl, hb]
  obtain ⟨-, -, hchannels', hport', -⟩ := b.placeFreed_keeps l.offer.key
  obtain ⟨-, -, hchannels'', hport'', -⟩ := ((b.placeFreed l.offer.key).reportWrite l.offer.key).runAndSweep_keeps
  refine ⟨(ranRule b).runAndSweep hreported, hport''.trans (hport.trans (hport'.trans ?_)),
    hchannels''.trans (hchannels.trans (hchannels'.trans ?_))⟩
  · rw [← hb]
    rfl
  · rw [← hb]
    rfl

/-- R97: what is told of a landing that goes on. -/
theorem Device.writeDone_keepsLanding (h : d.admission.sound) (hl : l ∈ d.admission.landings) (hgoing : l.written + 1 < l.blocks)
    (ho : c → d.control.owed = false) (hr : c → repliesOf l.offer.key d.span.replies = []) :
    (d.popWrite.writeDone (some l.offer.key)).keepsLanding l.stored (l.returned d.config.credit) c True := by
  have hplaced := Device.placeFreed_keepsLanding (d := d.stored l.offer.key) (Device.stored_sound h _) (Device.stored_landing hl) ho hr
  exact (keepsLandingRule _ _ _ _).runAndSweep (Device.reportWrite_keepsLanding hplaced hgoing.ne)

theorem Device.ran.writeFrame (h : b.ran e) (hb : b.span = d.span) (hc : e.control = d.control) (hf : e.config = d.config)
    (hh : e.halt = d.halt) (ha : e.port.access = none) : d.writeFrame e :=
  ⟨hc, hf, hh, ha, fun ho => ⟨by rw [h.mute (hc ▸ ho), hb], fun _ => by rw [h.initiation, hb]⟩⟩

/-! ### The last write of a landing -/

/-- R97, R100: a landing is reported complete and ends, and a run follows. -/
structure Device.Ends (m : Landing) (d e : Device) : Prop where
  control : e.control = d.control
  config : e.config = d.config
  halt : e.halt = d.halt
  access : d.port.access = none → e.port.access = none
  writes : e.port.writes = (d.port.orphaned m.offer.key).writes
  lacks : e.admission.lacks m.offer.key
  recent : { key := m.offer.key, generation := m.offer.generation, blocks := m.blocks } ∈ e.admission.recent
  keepsOthers : d.admission.keepsOthers e.admission m.offer.key
  mute : d.control.owed = true → e.span.replies = d.span.replies
  away : d.control.owed = true → d.control.state = .leaving → e.span.initiation = d.span.initiation
  reply : d.control.owed = false → m.reportedIn False d.span.replies → m.receipt true ∈ e.span.replies
  posts : ∃ ns : List Notice, e.lport = ns.foldl LocalPort.post d.lport ∧ m.offer.ended .landed m.offer.fields.length ∈ ns

theorem Device.completeLanding_ends (h : d.admission.sound) (hm : m ∈ d.admission.landings) :
    d.Ends m ((d.claimReceipt m true).completeLanding m).runAndSweep := by
  obtain ⟨q, hq⟩ : ∃ q, d.claimReceipt m true = q := ⟨_, rfl⟩
  obtain ⟨hqcontrol, hqconfig, -, hqadmission, hqport, hqhalt, hqlport⟩ := d.claimReceipt_keeps m true
  obtain ⟨e, he⟩ : ∃ e, q.completeLanding m = e := ⟨_, rfl⟩
  have hsig := q.completeLanding_signals m
  rw [hq] at hqcontrol hqconfig hqadmission hqport hqhalt hqlport
  have hesound : e.admission.sound := he ▸ Device.completeLanding_sound (hqadmission ▸ h) (hqadmission ▸ hm)
  rw [hq, he]
  rw [he] at hsig
  have hran := Device.runAndSweep_ran hesound
  obtain ⟨hcontrol, hconfig, -, hport, hhalt⟩ := e.runAndSweep_keeps
  have hadmission : e.admission = (d.admission.dropRecord m.offer.key).addRecent
      { key := m.offer.key, generation := m.offer.generation, blocks := m.blocks } := by
    rw [hsig.admission, ← hqadmission]
    rfl
  have hlacks : e.admission.lacks m.offer.key := by
    rw [hadmission]
    exact AdmissionUnit.dropRecord_lacks (l := m) h.keys (List.mem_append_left _ hm)
  have hecontrol : e.control = d.control := hsig.control.trans hqcontrol
  have hmute : d.control.owed = true → q = d := fun ho => hq ▸ Device.claimReceipt_owed ho m true
  exact {
    control := hcontrol.trans hecontrol
    config := hconfig.trans (hsig.config.trans hqconfig)
    halt := hhalt.trans (hsig.halt.trans hqhalt)
    access := fun ha => by
      rw [hport]
      exact hsig.undisturbed.access (show q.port.access = none from hqport ▸ ha)
    writes := by
      rw [hport, hsig.writes, ← MemoryPort.clearOwner_eq, ← hqport]
      rfl
    lacks := hran.fresh _ hlacks
    recent := by
      rw [hran.recent, hadmission]
      exact List.mem_append_right _ (List.mem_singleton.mpr rfl)
    keepsOthers := by
      refine AdmissionUnit.keepsOthers.trans ?_ (hran.keepsOthers m.offer.key)
      rw [hadmission]
      exact d.admission.dropRecord_keepsOthers m.offer.key
    mute := fun ho => by
      rw [hran.mute (by rw [hcontrol, hecontrol]; exact ho), hsig.undisturbed.replies]
      exact congrArg (·.span.replies) (hmute ho)
    away := fun ho hs => by
      rw [hran.initiation, hsig.away (show q.control.state = .leaving from hqcontrol ▸ hs)]
      exact congrArg (·.span.initiation) (hmute ho)
    reply := fun ho hr => by
      have hreported := Device.claimReceipt_reported ho hr rfl true
      rw [hq] at hreported
      refine hran.replies _ ?_ hlacks
      rw [hsig.undisturbed.replies]
      exact mem_of_repliesOf hreported
    posts := by
      obtain ⟨ns, hns⟩ := hsig.posts
      obtain ⟨ms, -, hms⟩ := e.runAndSweep_posts
      refine ⟨m.offer.ended .landed m.offer.fields.length :: (ns ++ ms), ?_, List.mem_cons_self⟩
      rw [hms, hns, List.foldl_cons, List.foldl_append, ← hqlport]
      rfl }

/-- R97: the last write of a landing: its buffer goes to another, and the landing ends. -/
theorem Device.writeDone_ends (h : d.admission.sound) (hl : l ∈ d.admission.landings) (hphase : l.phase = .settling)
    (hlast : l.written + 1 = l.blocks) :
    ∃ (b p : Device) (m : Landing), d.stored l.offer.key = b ∧ b.ran p ∧ p.port = b.port ∧ p.control = b.control ∧
      p.config = b.config ∧ p.halt = b.halt ∧ (∃ ns : List Notice, p.lport = ns.foldl LocalPort.post b.lport) ∧
      m ∈ p.admission.landings ∧ m.offer = l.offer ∧ m.accepted = l.accepted ∧ m.limit = l.limit ∧
      (d.control.owed = false ∧ repliesOf l.offer.key d.span.replies = [] → m.reportedIn False p.span.replies) ∧
      p.Ends m (d.popWrite.writeDone (some l.offer.key)) := by
  obtain ⟨b, hb⟩ : ∃ b, d.stored l.offer.key = b := ⟨_, rfl⟩
  obtain ⟨p, hp⟩ : ∃ p, b.placeFreed l.offer.key = p := ⟨_, rfl⟩
  have hran : b.ran p := hp ▸ Device.placeFreed_ran (hb ▸ Device.stored_sound h _) l.offer.key
  have hplaced := Device.placeFreed_keepsLanding (c := d.control.owed = false ∧ repliesOf l.offer.key d.span.replies = [])
    (d := d.stored l.offer.key) (Device.stored_sound h _) (Device.stored_landing hl) (fun hc => hc.1) fun hc => hc.2
  rw [show l.stored.offer.key = l.offer.key from rfl, hb, hp] at hplaced
  obtain ⟨m, hm, ⟨hoffer, haccepted, hwritten, hphase'⟩, -, hstill, hreply⟩ := hplaced.landed
  have hfound := AdmissionUnit.landing_of_mem hran.sound.keys hm
  have hdone : m.written = m.blocks := by
    rw [hwritten, Landing.blocks, hoffer]
    exact hlast
  obtain ⟨hcontrol, hconfig, -, hport, hhalt⟩ := b.placeFreed_keeps l.offer.key
  obtain ⟨ns, -, hns⟩ := (b.placeFreed_tells l.offer.key).posts
  rw [hp] at hcontrol hconfig hport hhalt hns
  have hlimit : m.limit = l.limit := hstill (by rw [hphase', show l.stored.phase = .settling from hphase]; nofun)
  refine ⟨b, p, m, hb, hran, hport, hcontrol, hconfig, hhalt, ⟨ns, hns⟩, hm, hoffer, haccepted, hlimit, hreply, ?_⟩
  have hend : d.popWrite.writeDone (some l.offer.key) = ((p.claimReceipt m true).completeLanding m).runAndSweep := by
    rw [← Device.reportWrite_done hfound hdone, ← hp, ← hb, hoffer]
    rfl
  rw [hend]
  exact Device.completeLanding_ends hran.sound hm

/-! ### A write error (R101) -/

theorem Device.writeFailed_record (h : d.admission.keysOk) (hl : l ∈ d.admission.landings ++ d.admission.suspended) :
    d.writeFailed (some l.offer.key) =
      ((((d.updPort fun p => { p with writes := p.writes.filter fun w => decide (w.owner ≠ some l.offer.key) }).claimReply l.offer.key
        l.offer.generation (.refuse .fault)).updAdmission (·.dropRecord l.offer.key)).post (l.offer.ended .fault l.byteCount)).runAndSweep := by
  simp only [Device.writeFailed, AdmissionUnit.find_record h hl]

end

end Sys2Proof.Machine

/-! O39: the completion and the failure of a write. -/

namespace Sys2Proof.Machine

section
variable {s : State} {w : WriteEntry} {rest : List WriteEntry} {l : Landing}

/-- R143: the port once its write has ended. -/
theorem Device.ran.wrote {b d e : Device} (h : b.ran e) (hb : b.span = d.span) (hw : d.port.writes = w :: rest)
    (hport : e.port = d.popWrite.port) (hc : e.control = d.control) (hf : e.config = d.config) (hh : e.halt = d.halt) :
    e.port = { d.port with writes := rest, access := none } ∧ d.writeFrame e := by
  have hpopped := hport.trans (Device.popWrite_port hw)
  exact ⟨hpopped, h.writeFrame hb hc hf hh (by rw [hpopped])⟩

/-- R101, R143: a write that names no record, whether it completes or fails. -/
theorem writeDone_unowned {d : Device} (h : d.admission.sound) (hw : d.port.writes = w :: rest) {e : Device}
    (he : d.popWrite.distribute.runAndSweep = e) :
    d.popWrite.ran e ∧ e.port = { d.port with writes := rest, access := none } ∧ e.channels = d.channels ∧ d.writeFrame e := by
  have hpopped : d.popWrite.ran d.popWrite.distribute := Device.distribute_ran (d := d.popWrite) h
  have hran : d.popWrite.ran e := he ▸ (ranRule d.popWrite).runAndSweep hpopped
  obtain ⟨hcontrol, hconfig, hchannels, hport, hhalt⟩ := d.popWrite.distribute.runAndSweep_keeps
  obtain ⟨hcontrol', hconfig', hchannels', hport', hhalt'⟩ := d.popWrite.distribute_keeps
  rw [he] at hcontrol hconfig hchannels hport hhalt
  obtain ⟨hwrote, hframe⟩ := hran.wrote (d := d) rfl hw (hport.trans hport') (hcontrol.trans hcontrol') (hconfig.trans hconfig')
    (hhalt.trans hhalt')
  exact ⟨hran, hwrote, hchannels.trans hchannels', hframe⟩

/-- R97: the completion of a write of a record that goes on. -/
theorem exec_writeCompletion_going (hpool : s.dev.poolOk) (ha : s.dev.port.access = some .write) (hw : s.dev.port.writes = w :: rest)
    (hl : l ∈ s.dev.admission.landings ++ s.dev.admission.suspended) (hk : w.owner = some l.offer.key)
    (hgoing : l.written + 1 < l.blocks) :
    ∃ e : Device, exec .writeCompletion s = s.next e.settle ∧
      e.port = { s.dev.port with writes := rest, access := none } ∧ e.channels = s.dev.channels ∧ s.dev.writeFrame e ∧
      e.admission.recent = s.dev.admission.recent ∧ s.dev.admission.keepsOthers e.admission l.offer.key ∧
      ∃ m ∈ e.admission.landings ++ e.admission.suspended,
        m.offer = l.offer ∧ m.accepted = l.accepted ∧ m.written = l.written + 1 ∧
        (l.phase = .active → l.limit < l.blocks → l.limit - l.accepted < s.dev.config.credit → l.limit + 1 ≤ m.limit) ∧
        (l.phase ≠ .suspended → m.phase = l.phase ∧
          (s.dev.control.owed = false → (∀ r ∈ s.dev.span.replies, r.key ≠ l.offer.key) →
            { key := l.offer.key, generation := l.offer.generation, kind := .receipt m.accepted m.limit false } ∈
              e.span.replies)) := by
  have hsound := Device.poolOk_sound hpool
  obtain ⟨e, he⟩ : ∃ e, s.dev.popWrite.writeDone (some l.offer.key) = e := ⟨_, rfl⟩
  obtain ⟨hran, hport, hchannels⟩ := Device.writeDone_going hsound hl hgoing he
  obtain ⟨hcontrol, hconfig, hhalt⟩ := s.dev.popWrite.writeDone_keeps (some l.offer.key)
  rw [he] at hcontrol hconfig hhalt
  obtain ⟨hwrote, hframe⟩ := hran.wrote (d := s.dev) rfl hw hport hcontrol hconfig hhalt
  refine ⟨e, by rw [exec_writeCompletion ha hw, hk, he], hwrote, hchannels, hframe, hran.recent,
    (s.dev.stored_keepsOthers l.offer.key).trans (hran.keepsOthers l.offer.key), ?_⟩
  rcases List.mem_append.mp hl with hmem | hmem
  · have hkept := Device.writeDone_keepsLanding (c := s.dev.control.owed = false ∧ repliesOf l.offer.key s.dev.span.replies = [])
      hsound hmem hgoing (fun hc => hc.1) fun hc => hc.2
    rw [he] at hkept
    obtain ⟨m, hm, ⟨hoffer, haccepted, hwritten, hphase⟩, hlimit, -, hreply⟩ := hkept.landed
    refine ⟨m, List.mem_append_left _ hm, hoffer, haccepted, hwritten, fun hp hlt hcredit => ?_, fun _ => ⟨hphase, fun ho hnone => ?_⟩⟩
    · rwa [Landing.returned, if_pos (by simp [Landing.isTaker, hp, hlt, hcredit])] at hlimit
    · have hmreply := mem_of_repliesOf ((hreply ⟨ho, repliesOf_nil.mpr hnone⟩).resolve_left fun h => h.2 trivial)
      rwa [Landing.receipt, hoffer] at hmreply
  · obtain ⟨m, hm, htrack⟩ := AdmissionUnit.mem_tracks.mp (hran.carried (AdmissionUnit.mem_tracks.mpr
      ⟨l.stored, Device.stored_record hl, rfl⟩))
    simp only [Landing.track, Prod.mk.injEq] at htrack
    obtain ⟨hoffer, haccepted, hwritten⟩ := htrack
    obtain ⟨hphase, -⟩ := hpool.2.2.1 l hmem
    exact ⟨m, hm, hoffer, haccepted, hwritten, fun hp => absurd (hphase.symm.trans hp) (by decide), fun hp => absurd hphase hp⟩

/-- R100: the completion of a landing's last write. -/
theorem exec_writeCompletion_last (hpool : s.dev.poolOk) (ha : s.dev.port.access = some .write) (hw : s.dev.port.writes = w :: rest)
    (hl : l ∈ s.dev.admission.landings ++ s.dev.admission.suspended) (hk : w.owner = some l.offer.key)
    (hlast : l.written + 1 = l.blocks) :
    ∃ e : Device, exec .writeCompletion s = s.next e.settle ∧ e.port.writes = rest ∧ s.dev.writeFrame e ∧
      e.admission.lacks l.offer.key ∧
      { key := l.offer.key, generation := l.offer.generation, blocks := l.blocks } ∈ e.admission.recent ∧
      s.dev.admission.keepsOthers e.admission l.offer.key ∧
      (s.dev.control.owed = false → (∀ r ∈ s.dev.span.replies, r.key ≠ l.offer.key) →
        { key := l.offer.key, generation := l.offer.generation, kind := .receipt l.blocks l.blocks true } ∈ e.span.replies) ∧
      ∃ ns : List Notice, e.lport = ns.foldl LocalPort.post s.dev.lport ∧
        .landingEnded l.offer.key l.offer.fields.window l.offer.generation .landed l.offer.fields.length ∈ ns := by
  have hsound := Device.poolOk_sound hpool
  obtain ⟨hmem, hphase, ⟨hall, hfull⟩, howners⟩ := Device.poolOk_lastWrite hpool hl hw hk hlast
  obtain ⟨b, p, m, hb, hran, hport, hcontrol, hconfig, hhalt, ⟨ns, hns⟩, hm, hoffer, haccepted, hlimit, hreply, hends⟩ :=
    Device.writeDone_ends hsound hmem hphase hlast
  obtain ⟨e, he⟩ : ∃ e, s.dev.popWrite.writeDone (some l.offer.key) = e := ⟨_, rfl⟩
  rw [he] at hends
  have hbport : b.port = { s.dev.port with writes := rest, access := none } := by rw [← hb]; exact Device.popWrite_port hw
  have hpcontrol : p.control = s.dev.control := by rw [hcontrol, ← hb]; rfl
  have hspan : b.span = s.dev.span := by rw [← hb]; rfl
  have hblocks : m.blocks = l.blocks := by rw [Landing.blocks, Landing.blocks, hoffer]
  refine ⟨e, by rw [exec_writeCompletion ha hw, hk, he], ?_, ?_, hoffer ▸ hends.lacks, ?_, ?_, fun ho hnone => ?_, ?_⟩
  · rw [hends.writes, hport, hoffer, MemoryPort.orphaned_of_none (by rw [hbport]; exact howners), hbport]
  · refine ⟨hends.control.trans hpcontrol, hends.config.trans (hconfig.trans (by rw [← hb]; rfl)),
      hends.halt.trans (hhalt.trans (by rw [← hb]; rfl)), hends.access (by rw [hport, hbport]), fun ho => ⟨?_, fun hleave => ?_⟩⟩
    · rw [hends.mute (hpcontrol ▸ ho), hran.mute (hpcontrol ▸ ho), hspan]
    · rw [hends.away (hpcontrol ▸ ho) (hpcontrol ▸ hleave.2.2 ho), hran.initiation, hspan]
  · have hrecent := hends.recent
    rwa [hoffer, hblocks] at hrecent
  · rw [← hb] at hran
    exact ((s.dev.stored_keepsOthers l.offer.key).trans (hran.keepsOthers l.offer.key)).trans (hoffer ▸ hends.keepsOthers)
  · have hmreply := hends.reply (hpcontrol ▸ ho) (hreply ⟨ho, repliesOf_nil.mpr hnone⟩)
    rwa [Landing.receipt, hoffer, haccepted, hlimit, hall, hfull] at hmreply
  · obtain ⟨ms, hms, hnotice⟩ := hends.posts
    refine ⟨ns ++ ms, by rw [hms, hns, List.foldl_append, ← hb]; rfl, List.mem_append_right _ ?_⟩
    rwa [hoffer] at hnotice

/-- R101: the failure of a write of a record. -/
theorem exec_writeError_record (hpool : s.dev.poolOk) (ha : s.dev.port.access = some .write) (hw : s.dev.port.writes = w :: rest)
    (hl : l ∈ s.dev.admission.landings ++ s.dev.admission.suspended) (hk : w.owner = some l.offer.key) :
    ∃ e : Device, exec .writeError s = s.next e.settle ∧
      e.port = { s.dev.port with writes := rest.filter (fun v => decide (v.owner ≠ some l.offer.key)), access := none } ∧
      e.channels = s.dev.channels ∧ s.dev.writeFrame e ∧ e.admission.lacks l.offer.key ∧
      e.admission.recent = s.dev.admission.recent ∧ s.dev.admission.keepsOthers e.admission l.offer.key ∧
      (s.dev.control.owed = false → (∀ r ∈ s.dev.span.replies, r.key ≠ l.offer.key) →
        { key := l.offer.key, generation := l.offer.generation, kind := .refuse .fault } ∈ e.span.replies) ∧
      ∃ ns : List Notice, e.lport = ns.foldl LocalPort.post (s.dev.lport.post
        (.landingEnded l.offer.key l.offer.fields.window l.offer.generation .fault
          (min (64 * l.accepted) l.offer.fields.length))) := by
  have hsound := Device.poolOk_sound hpool
  obtain ⟨c, hc⟩ : ∃ c, s.dev.popWrite.updPort
    (fun p => { p with writes := p.writes.filter fun w => decide (w.owner ≠ some l.offer.key) }) = c := ⟨_, rfl⟩
  have hcport : c.port = { s.dev.port with
      writes := rest.filter (fun v => decide (v.owner ≠ some l.offer.key)), access := none } := by
    rw [← hc, Device.updPort, Device.popWrite_port hw]
  obtain ⟨q, hq⟩ : ∃ q, c.claimReply l.offer.key l.offer.generation (.refuse .fault) = q := ⟨_, rfl⟩
  have hqkeeps : q.control = c.control ∧ q.config = c.config ∧ q.channels = c.channels ∧ q.admission = c.admission ∧
      q.port = c.port ∧ q.halt = c.halt ∧ q.lport = c.lport := by rw [← hq]; simp
  obtain ⟨hqcontrol, hqconfig, hqchannels, hqadmission, hqport, hqhalt, hqlport⟩ := hqkeeps
  obtain ⟨b, hb⟩ : ∃ b, (q.updAdmission (·.dropRecord l.offer.key)).post (l.offer.ended .fault l.byteCount) = b := ⟨_, rfl⟩
  have hbadmission : b.admission = s.dev.admission.dropRecord l.offer.key := by
    rw [← hb, show ((q.updAdmission (·.dropRecord l.offer.key)).post (l.offer.ended .fault l.byteCount)).admission =
      q.admission.dropRecord l.offer.key from rfl, hqadmission, ← hc]
    rfl
  have hran := Device.runAndSweep_ran (d := b) (hbadmission ▸ hsound.dropRecord _)
  have hlacks : b.admission.lacks l.offer.key := hbadmission ▸ AdmissionUnit.dropRecord_lacks hsound.keys hl
  have hother : s.dev.admission.keepsOthers b.admission l.offer.key := hbadmission ▸ AdmissionUnit.dropRecord_keepsOthers _ _
  have hanswers : c.answers l.offer.key q := hq ▸ c.claimReply_answers _ _ _
  have hspan : b.span = q.span := by rw [← hb]; rfl
  have hcspan : c.span = s.dev.span := by rw [← hc]; rfl
  have hccontrol : c.control = s.dev.control := by rw [← hc]; rfl
  have hbcontrol : b.control = s.dev.control := by rw [← hb]; exact hqcontrol.trans hccontrol
  obtain ⟨hcontrol, hconfig, hchannels, hport, hhalt⟩ := b.runAndSweep_keeps
  have hport' : b.runAndSweep.port = c.port := by rw [hport, ← hb]; exact hqport
  obtain ⟨ns, -, hns⟩ := b.runAndSweep_posts
  refine ⟨b.runAndSweep, ?_, hport'.trans hcport, ?_, ⟨hcontrol.trans hbcontrol, ?_, ?_, by rw [hport', hcport], fun ho => ⟨?_, fun _ => ?_⟩⟩,
    hran.fresh _ hlacks, ?_, hother.trans (hran.keepsOthers l.offer.key), fun ho hnone => ?_, ⟨ns, ?_⟩⟩
  · rw [exec_writeError ha hw, hk, Device.writeFailed_record (d := s.dev.popWrite) hsound.keys hl, hc, hq, hb]
  · rw [hchannels, ← hb]
    exact hqchannels.trans (by rw [← hc]; rfl)
  · rw [hconfig, ← hb]
    exact hqconfig.trans (by rw [← hc]; rfl)
  · rw [hhalt, ← hb]
    exact hqhalt.trans (by rw [← hc]; rfl)
  · rw [hran.mute (by rw [hcontrol, hbcontrol]; exact ho), hspan, hanswers.mute (by rw [hccontrol]; exact ho), hcspan]
  · rw [hran.initiation, hspan, hanswers.initiation, hcspan]
  · rw [hran.recent, hbadmission]
    rfl
  · refine hran.replies _ ?_ hlacks
    rw [hspan, ← hq]
    exact Device.claimReply_mem (hccontrol ▸ ho) (hcspan ▸ hnone) _ _
  · rw [hns, ← hb, ← show q.lport = s.dev.lport from hqlport.trans (by rw [← hc]; rfl)]
    rfl

end

theorem Device.writeFrame_iff {d e : Device} : d.writeFrame e ↔ e.control = d.control ∧ e.config = d.config ∧ e.halt = d.halt ∧
    e.port.access = none ∧ (d.control.owed = true → e.span.replies = d.span.replies ∧
      (d.leaveOk → e.span.initiation = d.span.initiation)) :=
  ⟨fun h => ⟨h.control, h.config, h.halt, h.access, h.mute⟩, fun ⟨hc, hf, hh, ha, hm⟩ => ⟨hc, hf, hh, ha, hm⟩⟩

/-- Settles O39, by whom the write's buffer belongs to. -/
theorem writesCompleteOrFail : Obligations.WritesCompleteOrFail := by
  intro s w rest hpool hbounded ha hw frame
  have hsound := Device.poolOk_sound hpool
  refine ⟨fun hnone => ?_, fun l hl hk => ⟨fun hgoing => ?_, fun hlast => ?_, ?_⟩⟩
  · obtain ⟨hran, hport, hchannels, hframe⟩ := writeDone_unowned hsound hw rfl
    refine ⟨⟨_, by rw [exec_writeCompletion ha hw, hnone]; rfl, hport, hchannels, Device.writeFrame_iff.mp hframe, fun l hl => ?_⟩, ?_⟩
    · obtain ⟨m, hm, htrack⟩ := AdmissionUnit.mem_tracks.mp (hran.carried (AdmissionUnit.mem_tracks.mpr ⟨l, hl, rfl⟩))
      simp only [Landing.track, Prod.mk.injEq] at htrack
      exact ⟨m, hm, htrack⟩
    · rw [exec_writeError ha hw, exec_writeCompletion ha hw, hnone]
      rfl
  · obtain ⟨e, hexec, hport, hchannels, hframe, hrest⟩ := exec_writeCompletion_going hpool ha hw hl hk hgoing
    exact ⟨e, hexec, hport, hchannels, Device.writeFrame_iff.mp hframe, hrest⟩
  · obtain ⟨e, hexec, hwrites, hframe, hrest⟩ := exec_writeCompletion_last hpool ha hw hl hk hlast
    exact ⟨e, hexec, hwrites, Device.writeFrame_iff.mp hframe, hrest⟩
  · obtain ⟨e, hexec, hport, hchannels, hframe, hrest⟩ := exec_writeError_record hpool ha hw hl hk
    exact ⟨e, hexec, hport, hchannels, Device.writeFrame_iff.mp hframe, hrest⟩

end Sys2Proof.Machine

/-! Records that are removed together (R26, R33): what the teardown of a peer and the start of leaving remove. -/

namespace Sys2Proof.Machine

section
variable {d e : Device} {x : Station}

theorem AdmissionUnit.dropAll_dropAll (a : AdmissionUnit) (ks js : List Key) :
    (a.dropAll ks).dropAll js = a.dropAll (ks ++ js) := by
  simp only [AdmissionUnit.dropAll, List.filter_filter, List.mem_append, not_or, Bool.decide_and, Bool.and_comm]

/-- The references of the write queue to these keys are cleared. -/
def MemoryPort.orphanedAll (p : MemoryPort) (ks : List Key) : MemoryPort :=
  { p with writes := p.writes.map fun w => { w with owner := w.owner.filter fun k => decide (k ∉ ks) } }

theorem MemoryPort.orphanedAll_nil (p : MemoryPort) : p.orphanedAll [] = p := by
  have hall : ∀ o : Option Key, (o.filter fun _ => true) = o := fun o => by cases o <;> rfl
  simp [MemoryPort.orphanedAll, hall]

theorem MemoryPort.orphanedAll_orphanedAll (p : MemoryPort) (ks js : List Key) :
    (p.orphanedAll ks).orphanedAll js = p.orphanedAll (ks ++ js) := by
  simp only [MemoryPort.orphanedAll, List.map_map]
  refine congrArg (fun ws => ({ p with writes := ws } : MemoryPort)) (List.map_congr_left fun w _ => ?_)
  simp only [Function.comp_apply, Option.filter_filter, List.mem_append, not_or, Bool.decide_and]

theorem MemoryPort.clearOwner_orphanedAll (p : MemoryPort) (k : Key) : p.clearOwner k = p.orphanedAll [k] := by
  rw [MemoryPort.clearOwner, MemoryPort.orphanedAll]
  refine congrArg (fun ws => ({ p with writes := ws } : MemoryPort)) (List.map_congr_left fun w _ => ?_)
  obtain ⟨address, payload, owner⟩ := w
  cases owner with
  | none => simp
  | some j => by_cases hj : j = k <;> simp [Option.filter, hj]

/-- These offers are let go with this ending: their records and entries are removed, their blocks are still written, these
replies are placed and each ending is noticed. -/
def Device.letGo (d : Device) (ending : Ending) (rs : List Reply) (os : List (Offer × Nat)) : Device :=
  { d with
    admission := d.admission.dropAll (os.map (·.1.key))
    port := d.port.orphanedAll (os.map (·.1.key))
    span := { d.span with replies := rs.foldl placeReply d.span.replies }
    lport := (os.map fun o => o.1.ended ending o.2).foldl LocalPort.post d.lport }

theorem Device.letGo_nil (d : Device) (ending : Ending) : d.letGo ending [] [] = d := by
  simp only [Device.letGo, List.map_nil, AdmissionUnit.dropAll_nil, MemoryPort.orphanedAll_nil, List.foldl_nil]

theorem Device.letGo_letGo (d : Device) (ending : Ending) (rs qs : List Reply) (os ps : List (Offer × Nat)) :
    (d.letGo ending rs os).letGo ending qs ps = d.letGo ending (rs ++ qs) (os ++ ps) := by
  simp only [Device.letGo, AdmissionUnit.dropAll_dropAll, MemoryPort.orphanedAll_orphanedAll, List.map_append, List.foldl_append]

theorem foldl_letGo {α : Type} {f : Device → α → Device} {P : Device → Prop} {ending : Ending} {reply : α → List Reply}
    {offer : α → Offer × Nat} (h : ∀ d x, P d → f d x = d.letGo ending (reply x) [offer x])
    (hP : ∀ d x, P d → P (d.letGo ending (reply x) [offer x])) (xs : List α) {d : Device} (hd : P d) :
    xs.foldl f d = d.letGo ending (xs.flatMap reply) (xs.map offer) := by
  induction xs generalizing d with
  | nil => exact (d.letGo_nil ending).symm
  | cons x xs ih => rw [List.foldl_cons, h d x hd, ih (hP d x hd), Device.letGo_letGo]; rfl

theorem Device.tearRecord_letGo (d : Device) (ending : Ending) (o : Offer) (n : Nat) :
    d.tearRecord ending o n = d.letGo ending [] [(o, n)] := by
  have hdropped : (d.admission.dropRecord o.key).dropWaiting o.key = d.admission.dropAll [o.key] := by
    rw [AdmissionUnit.dropAll_cons, AdmissionUnit.dropAll_nil]
  rw [Device.letGo, List.map_singleton, ← hdropped, ← MemoryPort.clearOwner_orphanedAll]
  rfl

/-! ### What is shared with a peer (R33) -/

/-- The records and entries of peer `x`, with the bytes accepted of each. -/
def AdmissionUnit.offersOf (a : AdmissionUnit) (x : Station) : List (Offer × Nat) :=
  ((a.landings ++ a.suspended).filter fun l => decide (l.offer.key.source = x)).map (fun l => (l.offer, l.byteCount)) ++
    (a.waiting.filter fun e => decide (e.offer.key.source = x)).map fun e => (e.offer, 0)

/-- What is left once nothing of peer `x` is. -/
def AdmissionUnit.awayFrom (a : AdmissionUnit) (x : Station) : AdmissionUnit :=
  { landings := a.landings.filter fun l => decide (l.offer.key.source ≠ x)
    suspended := a.suspended.filter fun l => decide (l.offer.key.source ≠ x)
    waiting := a.waiting.filter fun e => decide (e.offer.key.source ≠ x)
    recent := a.recent.filter fun r => decide (r.key.source ≠ x) }

/-- A key is that of an offer of peer `x` when its source is `x` and it has a record or an entry. -/
theorem AdmissionUnit.mem_offersOf {a : AdmissionUnit} {k : Key} :
    k ∈ (a.offersOf x).map (·.1.key) ↔ k.source = x ∧ ¬a.lacks k := by
  simp only [AdmissionUnit.offersOf, List.map_append, List.map_map, List.mem_append, List.mem_map, List.mem_filter,
    Function.comp_apply, decide_eq_true_eq, AdmissionUnit.lacks, not_and_or, not_forall, not_not]
  constructor
  · rintro (⟨l, ⟨hl, hsource⟩, rfl⟩ | ⟨e, ⟨he, hsource⟩, rfl⟩)
    · exact ⟨hsource, .inl ⟨l, hl, rfl⟩⟩
    · exact ⟨hsource, .inr ⟨e, he, rfl⟩⟩
  · rintro ⟨hsource, ⟨l, hl, rfl⟩ | ⟨e, he, rfl⟩⟩
    · exact .inl ⟨l, ⟨hl, hsource⟩, rfl⟩
    · exact .inr ⟨e, ⟨he, hsource⟩, rfl⟩

theorem AdmissionUnit.dropAll_offersOf (a : AdmissionUnit) (x : Station) :
    { a.dropAll ((a.offersOf x).map (·.1.key)) with recent := a.recent.filter fun r => decide (r.key.source ≠ x) } =
      a.awayFrom x := by
  have hkept : ∀ k : Key, ¬a.lacks k → (k ∉ (a.offersOf x).map (·.1.key) ↔ k.source ≠ x) := fun k hk => by
    rw [AdmissionUnit.mem_offersOf]
    exact not_congr (and_iff_left hk)
  have hrecord : ∀ l ∈ a.landings ++ a.suspended, ¬a.lacks l.offer.key := fun l hl h => h.1 l hl rfl
  have hwaiting : ∀ e ∈ a.waiting, ¬a.lacks e.offer.key := fun e he h => h.2 e he rfl
  simp only [AdmissionUnit.dropAll, AdmissionUnit.awayFrom, AdmissionUnit.mk.injEq, and_true]
  refine ⟨List.filter_congr fun l hl => ?_, List.filter_congr fun l hl => ?_, List.filter_congr fun e he => ?_⟩
  · exact decide_eq_decide.mpr (hkept _ (hrecord l (List.mem_append_left _ hl)))
  · exact decide_eq_decide.mpr (hkept _ (hrecord l (List.mem_append_right _ hl)))
  · exact decide_eq_decide.mpr (hkept _ (hwaiting e he))

/-- R33 step 2: the references of the write queue to a peer's records are cleared. -/
def MemoryPort.awayFrom (p : MemoryPort) (x : Station) : MemoryPort :=
  { p with writes := p.writes.map fun w => { w with owner := w.owner.filter fun k => decide (k.source ≠ x) } }

theorem MemoryPort.orphanedAll_offersOf {a : AdmissionUnit} {p : MemoryPort}
    (h : ∀ w ∈ p.writes, ∀ k ∈ w.owner, ∃ l ∈ a.landings ++ a.suspended, l.offer.key = k) :
    p.orphanedAll ((a.offersOf x).map (·.1.key)) = p.awayFrom x := by
  refine congrArg (fun ws => ({ p with writes := ws } : MemoryPort)) (List.map_congr_left fun w hw => ?_)
  obtain ⟨address, payload, owner⟩ := w
  cases owner with
  | none => rfl
  | some k =>
    obtain ⟨l, hl, rfl⟩ := h _ hw k rfl
    have hkept : l.offer.key ∉ (a.offersOf x).map (·.1.key) ↔ l.offer.key.source ≠ x :=
      (not_congr AdmissionUnit.mem_offersOf).trans (not_congr (and_iff_left fun hlacks => hlacks.1 l hl rfl))
    simp only [Option.filter, hkept]

/-- R33 step 2: what the Admission Unit holds of a peer goes, and nothing else. -/
theorem Device.tearLandings_eq (h : ∀ w ∈ d.port.writes, ∀ k ∈ w.owner, ∃ l ∈ d.admission.landings ++ d.admission.suspended,
    l.offer.key = k) (x : Station) (ending : Ending) :
    d.tearLandings x ending =
      { d with admission := d.admission.awayFrom x, port := d.port.awayFrom x,
               lport := ((d.admission.offersOf x).map fun o => o.1.ended ending o.2).foldl LocalPort.post d.lport } := by
  have hrecords := fun (xs : List Landing) => foldl_letGo (P := fun _ => True) (reply := fun _ => [])
    (offer := fun l : Landing => (l.offer, l.byteCount)) (fun d l _ => d.tearRecord_letGo ending l.offer l.byteCount)
    (fun _ _ _ => trivial) xs (d := d) trivial
  have hentries := fun (xs : List PendingEntry) (d : Device) => foldl_letGo (P := fun _ => True) (reply := fun _ => [])
    (offer := fun e : PendingEntry => (e.offer, 0)) (fun d e _ => d.tearRecord_letGo ending e.offer 0)
    (fun _ _ _ => trivial) xs (d := d) trivial
  have hnone : ∀ {α : Type} (xs : List α), xs.flatMap (fun _ => ([] : List Reply)) = [] := fun xs => by simp
  unfold Device.tearLandings
  simp only [hrecords, hentries, hnone, Device.letGo_letGo, List.append_nil]
  rw [show (((d.admission.landings ++ d.admission.suspended).filter fun l => decide (l.offer.key.source = x)).map
      fun l => (l.offer, l.byteCount)) ++ ((d.admission.waiting.filter fun e => decide (e.offer.key.source = x)).map
      fun e => (e.offer, 0)) = d.admission.offersOf x from rfl]
  rw [← AdmissionUnit.dropAll_offersOf, ← MemoryPort.orphanedAll_offersOf h]
  rfl

/-! ### The records of the other peers -/

section
variable {a : AdmissionUnit}

theorem AdmissionUnit.awayFrom_keys (a : AdmissionUnit) (x : Station) :
    (a.awayFrom x).keys = a.keys.filter fun k => decide (k.source ≠ x) := by
  simp only [AdmissionUnit.keys, AdmissionUnit.awayFrom, List.filter_append, List.filter_map]
  rfl

theorem AdmissionUnit.sound.awayFrom (h : a.sound) (x : Station) : (a.awayFrom x).sound where
  keys := by
    rw [AdmissionUnit.keysOk, AdmissionUnit.awayFrom_keys]
    exact h.keys.filter _
  counts l hl := h.counts l (List.mem_of_mem_filter hl)

theorem AdmissionUnit.awayFrom_source {k : Key} (hk : k ∈ (a.awayFrom x).keys) : k.source ≠ x := by
  rw [AdmissionUnit.awayFrom_keys] at hk
  exact of_decide_eq_true (List.mem_filter.mp hk).2

theorem AdmissionUnit.awayFrom_track {l : Landing} (hl : l ∈ a.landings ++ a.suspended) (hx : l.offer.key.source ≠ x) :
    l.track ∈ (a.awayFrom x).tracks := by
  refine AdmissionUnit.mem_tracks.mpr ⟨l, ?_, rfl⟩
  rcases List.mem_append.mp hl with hl | hl
  · exact List.mem_append_left _ (List.mem_filter.mpr ⟨hl, decide_eq_true hx⟩)
  · exact List.mem_append_right _ (List.mem_filter.mpr ⟨hl, decide_eq_true hx⟩)

/-- R33: whether anything of a peer is held shows in the keys. -/
theorem AdmissionUnit.holdsOf_iff : a.holdsOf x = true ↔ ∃ k ∈ a.keys, k.source = x := by
  simp only [AdmissionUnit.holdsOf, AdmissionUnit.keys, Bool.or_eq_true, List.any_eq_true, decide_eq_true_eq, ← List.map_append,
    List.mem_append, List.mem_map]
  constructor
  · rintro ((⟨l, hl, hx⟩ | ⟨e, he, hx⟩) | ⟨r, hr, hx⟩)
    · exact ⟨_, .inl (.inl ⟨l, hl, rfl⟩), hx⟩
    · exact ⟨_, .inl (.inr ⟨e, he, rfl⟩), hx⟩
    · exact ⟨_, .inr ⟨r, hr, rfl⟩, hx⟩
  · rintro ⟨k, (⟨l, hl, rfl⟩ | ⟨e, he, rfl⟩) | ⟨r, hr, rfl⟩, hx⟩
    · exact .inl (.inl ⟨l, hl, hx⟩)
    · exact .inl (.inr ⟨e, he, hx⟩)
    · exact .inr ⟨r, hr, hx⟩

end

end

end Sys2Proof.Machine

/-! The teardown of a peer (R17, R33, O46). -/

namespace Sys2Proof.Machine

section
variable {b d e : Device} {x : Station} {o : TransferOutcome}

/-! ### Step 1: the channels -/

/-- R33 step 1, for one channel. -/
def Device.tearChannel (d : Device) (x : Station) (o : TransferOutcome) (c : ChannelNo) : Device :=
  match d.channels[c].active with
  | some a => if d.channels[c].state.inTransfer && decide (a.target = x) then d.endTransfer c o none else d
  | none => d

theorem Device.tearChannels_eq (d : Device) (x : Station) (o : TransferOutcome) :
    d.tearChannels x o = eight.foldl (fun d c => d.tearChannel x o c) d := rfl

theorem Device.tearChannel_of_target {c : ChannelNo} {a : Descriptor} (ho : o ≠ .done) (ha : d.channels[c].active = some a)
    (ht : d.channels[c].state.inTransfer = true) (hx : a.target = x) :
    d.tearChannel x o c = d.ended c a o (outcomeReason o none) := by
  simp only [Device.tearChannel, ha, ht, hx, Bool.true_and, decide_true, if_true]
  exact d.endTransfer_ended c a o none ho ha

theorem Device.tearChannel_of_other {c : ChannelNo} (h : ∀ a, d.channels[c].active = some a →
    d.channels[c].state.inTransfer = true → a.target ≠ x) : d.tearChannel x o c = d := by
  unfold Device.tearChannel
  split
  next a ha =>
    refine if_neg fun hboth => ?_
    obtain ⟨ht, hx⟩ := Bool.and_eq_true_iff.mp hboth
    exact h a ha ht (of_decide_eq_true hx)
  next => rfl

/-- A channel's transfer targets the peer and ends, or the channel stays as it is. -/
theorem Device.tearChannel_cases (ho : o ≠ .done) (d : Device) (x : Station) (c : ChannelNo) :
    (∃ a, d.tearChannel x o c = d.ended c a o (outcomeReason o none)) ∨ d.tearChannel x o c = d := by
  by_cases h : ∃ a, d.channels[c].active = some a ∧ d.channels[c].state.inTransfer = true ∧ a.target = x
  · obtain ⟨a, ha, ht, hx⟩ := h
    exact .inl ⟨a, Device.tearChannel_of_target ho ha ht hx⟩
  · exact .inr (Device.tearChannel_of_other fun a ha ht hx => h ⟨a, ha, ht, hx⟩)

theorem Device.ended_other (d : Device) {b c : ChannelNo} (a : Descriptor) (o : TransferOutcome) (r : Option Reason) (h : b ≠ c) :
    (d.ended c a o r).channels[b] = d.channels[b] := by
  rw [Fin.getElem_fin, Fin.getElem_fin]
  exact Vector.getElem_set_ne c.isLt b.isLt (Fin.val_ne_of_ne h.symm)

theorem Device.tearChannel_other (ho : o ≠ .done) (d : Device) (x : Station) (c b : ChannelNo) (h : b ≠ c) :
    (d.tearChannel x o c).channels[b] = d.channels[b] := by
  rcases d.tearChannel_cases ho x c with ⟨a, heq⟩ | heq
  · rw [heq, Device.ended_other _ _ _ _ h]
  · rw [heq]

/-- What becomes of a channel is a matter of that channel alone. -/
theorem Device.ended_channel {c : ChannelNo} (h : e.channels[c] = d.channels[c]) (a : Descriptor) (r : Option Reason) :
    (e.ended c a o r).channels[c] = (d.ended c a o r).channels[c] := by
  simp only [Device.ended, Fin.getElem_fin, Vector.getElem_set_self]
  rw [Fin.getElem_fin, Fin.getElem_fin] at h
  simp only [h]

theorem Device.tearChannels_channel (ho : o ≠ .done) (d : Device) (x : Station) (c : ChannelNo) :
    (∀ a, d.channels[c].active = some a → d.channels[c].state.inTransfer = true → a.target = x →
      (d.tearChannels x o).channels[c] = (d.ended c a o (outcomeReason o none)).channels[c]) ∧
    ((∀ a, d.channels[c].active = some a → d.channels[c].state.inTransfer = true → a.target ≠ x) →
      (d.tearChannels x o).channels[c] = d.channels[c]) := by
  obtain ⟨e, -, hsame, hfold⟩ := foldl_eight_channel (f := fun d c => d.tearChannel x o c)
    (fun d c b h => d.tearChannel_other ho x c b h) (fun _ => True) (fun _ _ _ => trivial) (d := d) trivial c
  rw [Device.tearChannels_eq, hfold]
  refine ⟨fun a ha ht hx => ?_, fun hother => ?_⟩
  · rw [Device.tearChannel_of_target ho (hsame ▸ ha) (hsame ▸ ht) hx, Device.ended_channel hsame]
  · rw [Device.tearChannel_of_other (by rwa [hsame]), hsame]

theorem Device.ended_signals (d : Device) (c : ChannelNo) (a : Descriptor) (o : TransferOutcome) (r : Option Reason) :
    (d.ended c a o r).span.initiation.filter InitEntry.isSignal = d.span.initiation.filter InitEntry.isSignal := by
  rw [show (d.ended c a o r).span.initiation = changeSlot c dropOffer _ from rfl, changeSlot_signals]
  split
  · split
    · rfl
    · rw [placeCurrent_signals]
  · rfl

theorem Device.tearChannels_signals (ho : o ≠ .done) (d : Device) (x : Station) :
    (d.tearChannels x o).span.initiation.filter InitEntry.isSignal = d.span.initiation.filter InitEntry.isSignal := by
  rw [Device.tearChannels_eq]
  refine foldl_induction (P := fun e : Device => e.span.initiation.filter InitEntry.isSignal = d.span.initiation.filter
    InitEntry.isSignal) (fun d c hd => ?_) eight rfl
  rw [← hd]
  rcases d.tearChannel_cases ho x c with ⟨a, heq⟩ | heq
  · rw [heq, Device.ended_signals]
  · rw [heq]

/-! ### Step 3 and 4: the halt set and the frames that wait -/

theorem Device.leaveHalt_set (d : Device) (x : Station) (cause : HaltCause) :
    ∃ ns : List Notice, d.leaveHalt x cause =
      { d with
        halt := { d.halt with
          members := d.halt.members.set x false
          lapse := if d.halt.members[x] then d.halt.lapse.set x none else d.halt.lapse }
        lport := ns.foldl LocalPort.post d.lport } ∧
      (∀ n ∈ ns, n = .haltChange x cause) ∧
      (.haltChange x cause ∈ ns ↔ d.halt.members[x] = true ∧ (d.leaveHalt x cause).halt.halted = false) := by
  cases hm : d.halt.members[x] with
  | false =>
    have hset : d.halt.members.set x false = d.halt.members := by
      rw [← hm]
      exact Vector.set_getElem_self _
    exact ⟨[], by rw [Device.leaveHalt_of_not_member hm, hset]; rfl, by simp, by simp⟩
  | true =>
    rw [Device.leaveHalt_of_member hm]
    obtain ⟨h, hh⟩ : ∃ h : HaltUnit, { d.halt with members := d.halt.members.set x false, lapse := d.halt.lapse.set x none } = h :=
      ⟨_, rfl⟩
    simp only [if_true, hh]
    cases hempty : h.halted with
    | true => exact ⟨[], rfl, by simp, by simp⟩
    | false => exact ⟨[.haltChange x cause], rfl, by simp, by simp⟩

/-- R17: a frame of a slot that waits for another than `x`. -/
def InitEntry.waitsForOther (x : Station) (c : ChannelNo) (e : InitEntry) : Prop :=
  ∀ w f, e = .slot c w f → (∀ v ∈ w, v.target ≠ x) ∧ ∀ v ∈ f, v.target ≠ x

theorem InitEntry.change_dropFor (e : InitEntry) (c : ChannelNo) (x : Station) : (e.change c (dropFor x)).waitsForOther x c := by
  cases e with
  | signal t n a => nofun
  | slot b w f =>
    intro w' f' heq
    by_cases hb : b = c
    · simp only [InitEntry.change, hb, if_true, InitEntry.slot.injEq, true_and, dropFor] at heq
      obtain ⟨rfl, rfl⟩ := heq
      exact ⟨fun v hv => of_decide_eq_true (Option.mem_filter_iff.mp hv).2, fun v hv => of_decide_eq_true (Option.mem_filter_iff.mp hv).2⟩
    · simp [InitEntry.change, hb] at heq

theorem InitEntry.waitsForOther.change {e : InitEntry} {b : ChannelNo} (h : e.waitsForOther x b) (c : ChannelNo) :
    (e.change c (dropFor x)).waitsForOther x b := by
  by_cases hbc : b = c
  · exact hbc ▸ e.change_dropFor b x
  · by_cases he : e.slotChannel = some c
    · cases e with
      | signal t n a => nofun
      | slot m w f =>
        obtain rfl : m = c := by simpa [InitEntry.slotChannel] using he
        intro w' f' heq
        simp only [InitEntry.change, if_true, InitEntry.slot.injEq] at heq
        exact absurd heq.1.symm hbc
    · rwa [InitEntry.change_other he]

/-- R17: no frame for the peer waits in a slot. -/
theorem SpanInterface.slots_dropFor (q : List InitEntry) (x : Station) (c : ChannelNo) :
    ∀ e ∈ eight.foldl (fun q c => changeSlot c (dropFor x) q) q, e.waitsForOther x c := by
  have hchanged : ∀ (q : List InitEntry) (b : ChannelNo), ∀ e ∈ changeSlot b (dropFor x) q, ∃ e' ∈ q, e'.change b (dropFor x) = e :=
    fun q b e he => List.mem_map.mp (List.mem_of_mem_filter (changeSlot_eq q ▸ he))
  obtain ⟨before, after, hsplit, -, -⟩ := eight_split c
  rw [hsplit, List.foldl_append, List.foldl_cons]
  refine foldl_induction (P := fun q : List InitEntry => ∀ e ∈ q, e.waitsForOther x c) (fun q b hq e he => ?_) after fun e he => ?_
  · obtain ⟨e', he', rfl⟩ := hchanged _ _ e he
    exact (hq e' he').change b
  · obtain ⟨e', -, rfl⟩ := hchanged _ _ e he
    exact e'.change_dropFor c x

theorem Device.removeFramesFor_slots (d : Device) (x : Station) (c : ChannelNo) :
    ∀ e ∈ (d.removeFramesFor x).span.initiation, e.waitsForOther x c := by
  simpa only [Device.removeFramesFor, Device.updSpan] using SpanInterface.slots_dropFor d.span.initiation x c

theorem Device.removeFramesFor_signals (d : Device) (x : Station) :
    (d.removeFramesFor x).span.initiation.filter InitEntry.isSignal = d.span.initiation.filter InitEntry.isSignal := by
  simp only [Device.removeFramesFor, Device.updSpan]
  exact foldl_induction (P := fun q : List InitEntry => q.filter InitEntry.isSignal = d.span.initiation.filter InitEntry.isSignal)
    (fun q c hq => (changeSlot_signals q).trans hq) eight rfl

theorem Device.removeFramesFor_replies (d : Device) (x : Station) : ∀ r ∈ (d.removeFramesFor x).span.replies, r.key.source ≠ x :=
  fun _ hr => of_decide_eq_true (List.mem_filter.mp hr).2

end

end Sys2Proof.Machine

/-! The restart and the departure of a peer (R30 to R33, O46). -/

namespace Sys2Proof.Machine

section
variable {b d e : Device} {x : Station} {o : TransferOutcome} {k : Key}

/-! ### Whose replies a run leaves -/

/-- The replies that wait are those of before and one to key `k`. -/
def Device.repliesTo (k : Key) (d e : Device) : Prop := ∀ r ∈ e.span.replies, r ∈ d.span.replies ∨ r.key = k

theorem Device.claimReply_repliesTo (d : Device) (k : Key) (g : Generation) (r : ReplyKind) : d.repliesTo k (d.claimReply k g r) := by
  intro p hp
  rw [Device.claimReply_eq] at hp
  split at hp
  next => exact .inl hp
  next => exact (mem_placeReply hp).imp_right (congrArg Reply.key)

theorem Device.claimReceipt_repliesTo (d : Device) (l : Landing) (final : Bool) :
    d.repliesTo l.offer.key (d.claimReceipt l final) := by
  unfold Device.claimReceipt
  split <;> exact Device.claimReply_repliesTo _ _ _ _

theorem Device.takeCandidate_repliesTo (d : Device) (c : Candidate) : d.repliesTo c.key (d.takeCandidate c) := by
  cases c with
  | resume l => exact Device.claimReply_repliesTo (d.updAdmission _) l.offer.key l.offer.generation _
  | enter e => exact Device.claimReply_repliesTo ((d.updAdmission _).updAdmission _) e.offer.key e.offer.generation _

theorem Device.raiseLimit_repliesTo (d : Device) (l : Landing) : d.repliesTo l.offer.key (d.raiseLimit l) :=
  Device.claimReceipt_repliesTo (d.updAdmission _) { l with limit := l.limit + 1 } false

/-- From block `b`, a run claimed replies for keys that have a record or an entry. -/
def Device.ranFor (b d : Device) : Prop :=
  b.ran d ∧ ∀ r ∈ d.span.replies, r ∈ b.span.replies ∨ ¬b.admission.lacks r.key

theorem Device.ranFor.step (h : b.ranFor d) (hran : b.ran e) (hk : ¬d.admission.lacks k) (hto : d.repliesTo k e) : b.ranFor e := by
  refine ⟨hran, fun r hr => ?_⟩
  rcases hto r hr with hold | rfl
  · exact h.2 r hold
  · exact .inr fun hlacks => hk (h.1.fresh _ hlacks)

theorem ranForRule (b : Device) : RunRule b.ranFor where
  takes {d c} hq h := h.step ((ranRule b).takes hq h.1) (Device.takeCandidate_gains h.1.sound hq).known (d.takeCandidate_repliesTo c)
  raises {d l} hfree hl h := by
    obtain ⟨hmem, -⟩ := Device.bestTaker_taker hl
    exact h.step ((ranRule b).raises hfree hl h.1) (fun hlacks => hlacks.1 l (List.mem_append_left _ hmem) rfl)
      (d.raiseLimit_repliesTo l)

theorem Device.runIf_ranFor (held : Bool) (h : d.admission.sound) : d.ranFor (runIf held d) :=
  (ranForRule d).runIf held ⟨Device.ran_refl h, fun _ hr => .inl hr⟩

/-! ### Teardown -/

theorem Notice.ofResume_of_ofTransfer {n : Notice} (h : n.ofTransfer = true) : n.ofResume = false := by
  cases n <;> simp_all [Notice.ofTransfer, Notice.ofResume]

/-- R17, R33: what the teardown of peer `x` leaves. -/
structure Device.Torn (x : Station) (o : TransferOutcome) (d e : Device) : Prop where
  control : e.control = d.control
  posts : ∃ own later : List Notice, e.lport = (own ++ later).foldl LocalPort.post d.lport ∧
    (.haltChange x .teardown ∈ own ↔ d.halt.members[x] = true ∧ e.halt.halted = false) ∧
    (∀ n ∈ own, Notice.ofResume n = false) ∧ ∀ n ∈ later, Notice.ofResume n = true
  noneWaits : d.control.runs = true → (∃ k ∈ d.admission.keys, k.source = x) → e.noneWaits
  ends : ∀ (c : ChannelNo) (a : Descriptor), d.channels[c].active = some a → d.channels[c].state.inTransfer = true →
    a.target = x → e.channels[c] = (d.ended c a o (outcomeReason o none)).channels[c]
  spares : ∀ c : ChannelNo, (∀ a, d.channels[c].active = some a → d.channels[c].state.inTransfer = true → a.target ≠ x) →
    e.channels[c] = d.channels[c]
  keys : ∀ k ∈ e.admission.keys, k.source ≠ x
  carried : ∀ l ∈ d.admission.landings ++ d.admission.suspended, l.offer.key.source ≠ x → l.track ∈ e.admission.tracks
  writes : e.port.writes = (d.port.awayFrom x).writes
  replies : ∀ r ∈ e.span.replies, r.key.source ≠ x
  slots : ∀ c : ChannelNo, ∀ f ∈ e.span.initiation, f.waitsForOther x c
  signals : e.span.initiation.filter InitEntry.isSignal = d.span.initiation.filter InitEntry.isSignal
  halt : e.halt = { d.halt with
    members := d.halt.members.set x false
    lapse := if d.halt.members[x] then d.halt.lapse.set x none else d.halt.lapse }

/-- What the teardown leaves before the run: the channels, the halt set and the frames are settled, and nothing of the peer is
held. -/
theorem Device.teardown_beforeRun (h : d.poolOk) (ho : o ≠ .done) (x : Station) (ending : Ending) :
    ∃ (e : Device) (own : List Notice), d.teardown x o ending = runIf (d.admission.holdsOf x) e ∧
      e.control = d.control ∧ e.channels = (d.tearChannels x o).channels ∧ e.admission = d.admission.awayFrom x ∧
      e.port.writes = (d.port.awayFrom x).writes ∧ (∀ r ∈ e.span.replies, r.key.source ≠ x) ∧
      (∀ c : ChannelNo, ∀ f ∈ e.span.initiation, f.waitsForOther x c) ∧
      e.span.initiation.filter InitEntry.isSignal = d.span.initiation.filter InitEntry.isSignal ∧
      e.halt = { d.halt with
        members := d.halt.members.set x false
        lapse := if d.halt.members[x] then d.halt.lapse.set x none else d.halt.lapse } ∧
      e.lport = own.foldl LocalPort.post d.lport ∧
      (.haltChange x .teardown ∈ own ↔ d.halt.members[x] = true ∧ e.halt.halted = false) ∧
      ∀ n ∈ own, Notice.ofResume n = false := by
  obtain ⟨t, ht⟩ : ∃ t, d.tearChannels x o = t := ⟨_, rfl⟩
  obtain ⟨hcontrol, hconfig, hadmission, hhalt⟩ := d.tearChannels_keeps x o
  have hwrites := Device.tearChannels_writes (d := d) x o
  have hsignals := Device.tearChannels_signals ho d x
  obtain ⟨ns, hns, hposts⟩ := (d.tearChannels_tells x o).posts
  rw [ht] at hcontrol hconfig hadmission hhalt hwrites hsignals hposts
  obtain ⟨-, -, -, -, -, howners, -⟩ := h
  obtain ⟨u, hu⟩ : ∃ u, t.tearLandings x ending = u := ⟨_, rfl⟩
  have hueq := Device.tearLandings_eq (d := t) (by rw [hwrites, hadmission]; exact howners) x ending
  rw [hu] at hueq
  obtain ⟨ms, hleft, hms, hhaltChange⟩ := u.leaveHalt_set x .teardown
  refine ⟨(u.leaveHalt x .teardown).removeFramesFor x,
    ns ++ (t.admission.offersOf x).map (fun o => o.1.ended ending o.2) ++ ms, ?_, ?_, ?_, ?_, ?_, Device.removeFramesFor_replies _ x,
    Device.removeFramesFor_slots _ x, ?_, ?_, ?_, ?_, fun n hn => ?_⟩
  · rw [← hu, ← ht]
    rfl
  · simp [hueq, hcontrol]
  · simp [hueq, ht]
  · simp [hueq, hadmission]
  · rw [show ((u.leaveHalt x .teardown).removeFramesFor x).port = (u.leaveHalt x .teardown).port from rfl, hleft, hueq]
    rw [MemoryPort.awayFrom, hwrites]
    rfl
  · rw [Device.removeFramesFor_signals, hleft, hueq]
    exact hsignals
  · rw [show ((u.leaveHalt x .teardown).removeFramesFor x).halt = (u.leaveHalt x .teardown).halt from rfl, hleft, hueq]
    simp only [hhalt]
  · rw [show ((u.leaveHalt x .teardown).removeFramesFor x).lport = (u.leaveHalt x .teardown).lport from rfl, hleft, hueq]
    rw [List.foldl_append, List.foldl_append, ← hposts]
  · rw [show ((u.leaveHalt x .teardown).removeFramesFor x).halt = (u.leaveHalt x .teardown).halt from rfl]
    rw [show u.halt = d.halt by rw [hueq]; exact hhalt] at hhaltChange
    rw [← hhaltChange, List.mem_append, List.mem_append]
    refine or_iff_right ?_
    rintro (hn | hn)
    · exact absurd (hns _ hn) Bool.false_ne_true
    · obtain ⟨o, -, heq⟩ := List.mem_map.mp hn
      simp [Offer.ended] at heq
  · rcases List.mem_append.mp hn with hn | hn
    · rcases List.mem_append.mp hn with hn | hn
      · exact Notice.ofResume_of_ofTransfer (hns n hn)
      · obtain ⟨o, -, rfl⟩ := List.mem_map.mp hn
        rfl
    · rw [hms n hn]
      rfl

theorem Device.teardown_torn (h : d.poolOk) (ho : o ≠ .done) (x : Station) (ending : Ending) :
    d.Torn x o (d.teardown x o ending) := by
  obtain ⟨e, own, heq, hcontrol, hchannels, hadmission, hwrites, hreplies, hslots, hsignals, hhalt, hlport, hchange, hown⟩ :=
    Device.teardown_beforeRun h ho x ending
  have hsound : e.admission.sound := hadmission ▸ (Device.poolOk_sound h).awayFrom x
  obtain ⟨hran, hfor⟩ := Device.runIf_ranFor (d.admission.holdsOf x) hsound
  have haway : ∀ k ∈ e.admission.keys, k.source ≠ x := fun k hk => AdmissionUnit.awayFrom_source (hadmission ▸ hk)
  have hlacks : ∀ k : Key, k.source = x → e.admission.lacks k ∧ ∀ r ∈ e.admission.recent, r.key ≠ k := fun k hx =>
    AdmissionUnit.not_mem_keys.mp fun hk => haway k hk hx
  have hkeeps : (runIf (d.admission.holdsOf x) e).control = e.control ∧ (runIf (d.admission.holdsOf x) e).channels = e.channels ∧
      (runIf (d.admission.holdsOf x) e).port = e.port ∧ (runIf (d.admission.holdsOf x) e).halt = e.halt := by simp
  obtain ⟨hcontrol', hchannels', hport', hhalt'⟩ := hkeeps
  obtain ⟨later, hlater, hlport'⟩ := (Device.runIf_tells (p := Notice.ofResume) (fun _ _ _ _ => rfl) e (d.admission.holdsOf x)).posts
  have hchannel := d.tearChannels_channel ho x
  rw [heq]
  exact {
    control := hcontrol'.trans hcontrol
    posts := ⟨own, later, by rw [hlport', hlport, List.foldl_append], by rw [hhalt']; exact hchange, hown, hlater⟩
    noneWaits := fun hruns hheld => by
      rw [AdmissionUnit.holdsOf_iff.mpr hheld]
      exact Device.runAndSweep_noneWaits (hcontrol ▸ hruns) hsound
    ends := fun c a ha ht hx => by rw [hchannels', hchannels]; exact (hchannel c).1 a ha ht hx
    spares := fun c hother => by rw [hchannels', hchannels]; exact (hchannel c).2 hother
    keys := fun k hk hx => by
      obtain ⟨hl, hrecent⟩ := hlacks k hx
      exact AdmissionUnit.not_mem_keys.mpr ⟨hran.fresh k hl, hran.recent ▸ hrecent⟩ hk
    carried := fun l hl hx => hran.carried (hadmission ▸ AdmissionUnit.awayFrom_track hl hx)
    writes := hport' ▸ hwrites
    replies := fun r hr hx => (hfor r hr).elim (fun hold => hreplies r hold hx) fun hk => hk (hlacks _ hx).1
    slots := hran.initiation ▸ hslots
    signals := by rw [hran.initiation, hsignals]
    halt := hhalt'.trans hhalt }

/-! ### JOIN and LEAVE (R30 to R32) -/

theorem Notice.ofResume_iff {n : Notice} : n.ofResume = true ↔ ∃ k w g b, n = .landingResumed k w g b := by
  cases n <;> simp [Notice.ofResume]

theorem exec_joinArrives {s : State} (hr : s.dev.control.receiving = true) (hx : x ≠ s.dev.control.number) :
    exec (.joinArrives x) s = s.next (s.dev.handleJoin x).settle :=
  congrArg s.next (Device.arriveControl_other hr hx)

theorem exec_leaveArrives {s : State} (hr : s.dev.control.receiving = true) (hx : x ≠ s.dev.control.number) :
    exec (.leaveArrives x) s = s.next (s.dev.handleLeave x).settle :=
  congrArg s.next (Device.arriveControl_other hr hx)

theorem Device.handleJoin_absent (h : d.control.peers[x].presence = .absent) : d.handleJoin x = d.noted x := by
  simp only [Device.handleJoin, h, Device.notePeer_absent h]

theorem Device.handleJoin_open (h : d.control.peers[x].presence = .present) (ho : d.control.peers[x].window.isSome = true) :
    d.handleJoin x = d.setPeer x .present (some Config.joinWindow) := by
  obtain ⟨n, hn⟩ := Option.isSome_iff_exists.mp ho
  simp only [Device.handleJoin, h, hn]

theorem Device.handleJoin_restart (h : d.control.peers[x].presence = .present) (hc : d.control.peers[x].window = none) :
    d.handleJoin x = ((d.post (.peerChange x .restart)).teardown x .peerRestart .peerRestart).setPeer x .present
      (some Config.joinWindow) := by
  simp only [Device.handleJoin, h, hc]

theorem Device.handleLeave_absent (h : d.control.peers[x].presence = .absent) : d.handleLeave x = d := by
  simp only [Device.handleLeave, h]

theorem Device.handleLeave_present (h : d.control.peers[x].presence = .present) :
    d.handleLeave x = ((d.post (.peerChange x .left)).teardown x .peerLeft .peerLeft).setPeer x .absent none := by
  simp only [Device.handleLeave, h]

/-- Settles O46, by the presence of the peer; a JOIN of a peer past its window and a LEAVE tear down. -/
theorem peersJoinRestartAndLeave : Obligations.PeersJoinRestartAndLeave := by
  intro s x hstate howed hx entry torn
  have hreceiving : s.dev.control.receiving = true := (StationControl.receiving_iff _).mpr ⟨hstate, howed⟩
  have hruns : s.dev.control.runs = true := StationControl.runs_of_onSpan hstate
  have htorn : ∀ (i : Instr) (change : PeerChange) (o : TransferOutcome) (ending : Ending) (p : Presence) (t : Timer),
      s.dev.poolOk → o ≠ .done → outcomeReason o none = none →
      exec i s = s.next ((((s.dev.post (.peerChange x change)).teardown x o ending).setPeer x p t).settle) →
      torn i change o (entry p t) := by
    intro i change o ending p t hpool ho hreason hexec
    have h := Device.teardown_torn (d := s.dev.post (.peerChange x change)) hpool ho x ending
    obtain ⟨own, later, hlport, hchange, hown, hlater⟩ := h.posts
    refine ⟨_, hexec, ?_, ⟨own, later, hlport, hchange, fun n hn k w g b heq => ?_, fun n hn => Notice.ofResume_iff.mp (hlater n hn)⟩,
      fun _ hheld => h.noneWaits hruns hheld, ?_, h.spares, h.keys, fun l hl hsource => ?_, h.writes, h.replies,
      fun c w f hf => h.slots c _ hf w f rfl, h.signals, h.halt⟩
    · rw [Device.setPeer, Device.updControl, h.control]
      rfl
    · exact Bool.false_ne_true ((hown n hn).symm.trans (Notice.ofResume_iff.mpr ⟨k, w, g, b, heq⟩))
    · have hends := h.ends
      rwa [hreason] at hends
    · obtain ⟨m, hm, htrack⟩ := AdmissionUnit.mem_tracks.mp (h.carried l hl hsource)
      simp only [Landing.track, Prod.mk.injEq] at htrack
      exact ⟨m, hm, htrack⟩
  refine ⟨fun habsent => ⟨?_, fun hserved => ?_⟩, fun hpresent hopen => ?_, fun hpresent hclosed hpool => ?_,
    fun hpresent hpool => ?_⟩
  · rw [exec_joinArrives hreceiving hx, Device.handleJoin_absent habsent]
  · rw [exec_leaveArrives hreceiving hx, Device.handleLeave_absent habsent]
    refine congrArg s.next (s.dev.settle_served hserved fun _ hdrained => ?_)
    obtain ⟨hleaving, -⟩ := hdrained
    simp [hleaving] at hstate
  · rw [exec_joinArrives hreceiving hx, Device.handleJoin_open hpresent hopen]
    rfl
  · refine htorn _ _ .peerRestart .peerRestart _ _ hpool (by decide) rfl ?_
    rw [exec_joinArrives hreceiving hx, Device.handleJoin_restart hpresent hclosed]
  · refine htorn _ _ .peerLeft .peerLeft _ _ hpool (by decide) rfl ?_
    rw [exec_leaveArrives hreceiving hx, Device.handleLeave_present hpresent]

end

end Sys2Proof.Machine

/-! The LEAVE command (R24 to R26, O23): every transfer and every landing ends, and with them holding. -/

namespace Sys2Proof.Machine

section
variable {d : Device}

/-! ### The channels (R26 step 1) -/

theorem Device.leaveChannel_eq (d : Device) (c : ChannelNo) : d.leaveChannel c = d.channelLeft c := by
  unfold Device.leaveChannel Device.channelLeft
  split
  next =>
    split
    next a ha => exact d.endTransfer_ended c a .left none (by decide) ha
    next hnone => simp only [Device.endTransfer, hnone]
  next => rfl

theorem Device.channelLeft_admission (d : Device) (c : ChannelNo) : (d.channelLeft c).admission = d.admission := by
  rw [← d.leaveChannel_eq c]
  simp

theorem Device.channelLeft_writes (d : Device) (c : ChannelNo) : (d.channelLeft c).port.writes = d.port.writes := by
  rw [← d.leaveChannel_eq c]
  simp

/-! ### The landings (R26 step 2) -/

/-- R26: the reply to an offer the station leaves. -/
def Offer.leavingReply (o : Offer) : Reply := { key := o.key, generation := o.generation, kind := .refuse .leaving }

theorem Device.refuseLeaving_letGo (ho : d.control.owed = false) (o : Offer) (n : Nat) :
    d.refuseLeaving o n = d.letGo .leaving [o.leavingReply] [(o, n)] := by
  have hclaimed := Device.claimReply_eq (d := d) o.key o.generation (.refuse .leaving)
  rw [if_neg (by simp [ho])] at hclaimed
  rw [show d.refuseLeaving o n = (d.claimReply o.key o.generation (.refuse .leaving)).tearRecord .leaving o n from rfl,
    Device.tearRecord_letGo, hclaimed]
  rfl

/-- A walk over offers that refuses each of them. -/
theorem foldl_refuseLeaving {α : Type} (offer : α → Offer × Nat) (xs : List α) {d : Device} (ho : d.control.owed = false) :
    xs.foldl (fun d x => d.refuseLeaving (offer x).1 (offer x).2) d =
      d.letGo .leaving ((xs.map offer).map fun o => o.1.leavingReply) (xs.map offer) := by
  rw [foldl_letGo (P := fun d => d.control.owed = false) (reply := fun x => [(offer x).1.leavingReply]) (offer := offer)
    (fun d x ho => Device.refuseLeaving_letGo ho _ _) (fun d x ho => ho) xs ho, List.map_map]
  exact congrArg (fun rs => d.letGo .leaving rs (xs.map offer)) List.map_eq_flatMap.symm

/-- R139: with every record gone, no write names one. -/
theorem MemoryPort.orphanedAll_offers {a : AdmissionUnit} {p : MemoryPort}
    (h : ∀ w ∈ p.writes, ∀ k ∈ w.owner, ∃ l ∈ a.landings ++ a.suspended, l.offer.key = k) :
    p.orphanedAll (a.offers.map (·.1.key)) = { p with writes := p.writes.map fun w => { w with owner := none } } := by
  refine congrArg (fun ws => ({ p with writes := ws } : MemoryPort)) (List.map_congr_left fun w hw => ?_)
  obtain ⟨address, payload, owner⟩ := w
  cases owner with
  | none => rfl
  | some k =>
    obtain ⟨l, hl, rfl⟩ := h _ hw k rfl
    have hmem : l.offer.key ∈ a.offers.map (·.1.key) := by
      rw [AdmissionUnit.offers, List.map_append]
      exact List.mem_append_left _ (List.mem_map.mpr ⟨_, List.mem_map.mpr ⟨l, hl, rfl⟩, rfl⟩)
    simp only [Option.filter, hmem, not_true_eq_false, decide_false, Bool.false_eq_true, if_false]

theorem Device.leaveLandings_eq (ho : d.control.owed = false)
    (h : ∀ w ∈ d.port.writes, ∀ k ∈ w.owner, ∃ l ∈ d.admission.landings ++ d.admission.suspended, l.offer.key = k) :
    d.leaveLandings =
      { d with
        admission := { landings := [], suspended := [], waiting := [], recent := [] }
        port := { d.port with writes := d.port.writes.map fun w => { w with owner := none } }
        span := { d.span with
          replies := d.admission.offers.foldl
            (fun q p => placeReply q { key := p.1.key, generation := p.1.generation, kind := .refuse .leaving }) d.span.replies }
        lport := d.admission.offers.foldl
          (fun p o => p.post (.landingEnded o.1.key o.1.fields.window o.1.generation .leaving o.2)) d.lport } := by
  have hgone : d.leaveLandings = (d.letGo .leaving (d.admission.offers.map fun o => o.1.leavingReply) d.admission.offers).updAdmission
      fun a => { a with recent := [] } := by
    have hrecords := foldl_refuseLeaving (fun l : Landing => (l.offer, l.byteCount)) (d.admission.landings ++ d.admission.suspended) ho
    unfold Device.leaveLandings
    have hentries : ∀ e : Device, e.control.owed = false → d.admission.waiting.foldl (fun d w => d.refuseLeaving w.offer 0) e =
        e.letGo .leaving ((d.admission.waiting.map fun w => (w.offer, 0)).map fun o => o.1.leavingReply)
          (d.admission.waiting.map fun w => (w.offer, 0)) := fun e he =>
      foldl_refuseLeaving (fun w : PendingEntry => (w.offer, 0)) d.admission.waiting he
    dsimp only at hrecords ⊢
    rw [hrecords, hentries _ (by exact ho), Device.letGo_letGo, ← List.map_append]
    rfl
  have hclear := d.leaveLandings_isClear
  rw [hgone] at hclear
  obtain ⟨hlandings, hsuspended, hwaiting, hrecent⟩ := hclear
  have hadmission : ((d.letGo .leaving (d.admission.offers.map fun o => o.1.leavingReply) d.admission.offers).updAdmission
      fun a => { a with recent := [] }).admission = { landings := [], suspended := [], waiting := [], recent := [] } :=
    AdmissionUnit.mk.injEq .. ▸ ⟨hlandings, hsuspended, hwaiting, hrecent⟩
  rw [hgone, show ∀ (e : Device) (f : AdmissionUnit → AdmissionUnit), e.updAdmission f = { e with admission := (e.updAdmission f).admission }
    from fun _ _ => rfl, hadmission, Device.letGo, MemoryPort.orphanedAll_offers h, List.foldl_map, List.foldl_map]
  rfl

/-! ### The work as a whole -/

/-- R24, R25: the station is leaving and joins no more. -/
def Device.begunLeaving (d : Device) : Device :=
  { d with control := { d.control with state := .leaving, spacing := none }, span := { d.span with joinDue := false } }

/-- R26 steps 2 and 3: these offers are refused, nothing lands and no request stands. -/
def Device.landingsLeft (d : Device) (os : List (Offer × Nat)) : Device :=
  { d with
    admission := { landings := [], suspended := [], waiting := [], recent := [] }
    port := { d.port with writes := d.port.writes.map fun w => { w with owner := none } }
    span := { d.span with
      replies := os.foldl
        (fun q p => placeReply q { key := p.1.key, generation := p.1.generation, kind := .refuse .leaving }) d.span.replies }
    lport := os.foldl (fun p o => p.post (.landingEnded o.1.key o.1.fields.window o.1.generation .leaving o.2)) d.lport
    halt := { d.halt with request := false } }

theorem Device.departed_eq (d : Device) :
    d.departed =
      if d.halt.holding then
        ((eight.foldl Device.channelLeft d.begunLeaving).landingsLeft d.admission.offers).holdEnded .leaving
      else (eight.foldl Device.channelLeft d.begunLeaving).landingsLeft d.admission.offers := by
  unfold Device.departed Device.begunLeaving
  generalize eight.foldl Device.channelLeft _ = gone
  rfl

theorem Device.departed_channels (d : Device) : d.departed.channels = (eight.foldl Device.channelLeft d.begunLeaving).channels := by
  rw [Device.departed_eq]
  generalize eight.foldl Device.channelLeft _ = gone
  split <;> rfl

theorem foldl_leaveChannel (d : Device) : eight.foldl Device.leaveChannel d = eight.foldl Device.channelLeft d := by
  rw [show Device.leaveChannel = Device.channelLeft from funext fun d => funext fun c => d.leaveChannel_eq c]

theorem Device.workEnded_eq (hj : d.joinOk) : d.workEnded = (eight.foldl Device.channelLeft d.begunLeaving).leaveLandings := by
  rw [Device.workEnded, Device.endJoining_eq hj, foldl_leaveChannel]
  rfl

theorem Device.startLeaving_departed (hok : d.haltOk) (hj : d.joinOk) (ho : d.control.owed = false)
    (h : ∀ w ∈ d.port.writes, ∀ k ∈ w.owner, ∃ l ∈ d.admission.landings ++ d.admission.suspended, l.offer.key = k) :
    d.startLeaving = d.departed := by
  obtain ⟨gone, hgone⟩ : ∃ gone, eight.foldl Device.channelLeft d.begunLeaving = gone := ⟨_, rfl⟩
  have hended : d.workEnded = gone.leaveLandings := by rw [Device.workEnded_eq hj, hgone]
  have hhalt : gone.halt = d.halt := by
    rw [← (show gone.leaveLandings.halt = gone.halt by simp), ← hended, d.workEnded_halt]
  have hcontrol : gone.control = { d.control with state := .leaving, spacing := none } := by
    rw [← (show gone.leaveLandings.control = gone.control by simp), ← hended, Device.workEnded_control hj]
  obtain ⟨hadmission, hwrites⟩ : gone.admission = d.admission ∧ gone.port.writes = d.port.writes := by
    rw [← hgone]
    exact foldl_induction (P := fun e : Device => e.admission = d.admission ∧ e.port.writes = d.port.writes)
      (fun e c he => ⟨(e.channelLeft_admission c).trans he.1, (e.channelLeft_writes c).trans he.2⟩) eight ⟨rfl, rfl⟩
  have hlandings := Device.leaveLandings_eq (d := gone) (by rw [hcontrol]; exact ho) (by rw [hwrites, hadmission]; exact h)
  obtain ⟨-, -, hmember, -⟩ := hok
  have hnumber : gone.leaveLandings.control.number = d.control.number := by
    rw [show gone.leaveLandings.control = gone.control by simp, hcontrol]
  have hholder : gone.leaveLandings.halt.holding = true →
      gone.leaveLandings.halt.members[gone.leaveLandings.control.number] = true := by
    simp only [show gone.leaveLandings.halt = d.halt by simp [hhalt], hnumber]
    exact hmember.trans
  rw [Device.startLeaving_eq, hended, Device.leaveHold_eq hholder, Device.departed_eq, hgone, ← hadmission, ← hhalt, hlandings]
  rfl

/-! ### The command -/

theorem Device.commanded_channelLeft (d : Device) (n : Nat) (c : ChannelNo) :
    (d.commanded n).channelLeft c = (d.channelLeft c).commanded n := by
  have hposted : ∀ (d : Device) (m : Notice), (d.commanded n).post m = (d.post m).commanded n := fun d m =>
    congrArg (fun l => { d with lport := l }) (d.lport.post_command (BitVec.ofNat 8 n) m)
  unfold Device.channelLeft
  rw [show (d.commanded n).channels = d.channels from rfl]
  split
  next =>
    split
    next a _ => exact d.commanded_ended n c a _ _
    next => rfl
  next =>
    split
    next => exact hposted { d with channels := d.channels.set c { d.channels[c] with latch := false } } _
    next => rfl

theorem Device.commanded_landingsLeft (d : Device) (n : Nat) (os : List (Offer × Nat)) :
    (d.commanded n).landingsLeft os = (d.landingsLeft os).commanded n := by
  have hposts := List.foldl_hom (fun p : LocalPort => ({ p with command := BitVec.ofNat 8 n } : LocalPort))
    (g₁ := fun p o => p.post (.landingEnded o.1.key o.1.fields.window o.1.generation .leaving o.2))
    (g₂ := fun p o => p.post (.landingEnded o.1.key o.1.fields.window o.1.generation .leaving o.2)) (l := os) (init := d.lport)
    fun p o => p.post_command (BitVec.ofNat 8 n) _
  exact congrArg (fun l => { d.landingsLeft os with lport := l }) hposts

theorem Device.commanded_departed (d : Device) (n : Nat) : (d.commanded n).departed = d.departed.commanded n := by
  have hgone : eight.foldl Device.channelLeft (d.begunLeaving.commanded n) =
      (eight.foldl Device.channelLeft d.begunLeaving).commanded n :=
    List.foldl_hom (fun e : Device => e.commanded n) (l := eight) fun e c => e.commanded_channelLeft n c
  rw [Device.departed_eq, Device.departed_eq, show (d.commanded n).begunLeaving = d.begunLeaving.commanded n from rfl, hgone,
    Device.commanded_landingsLeft, Device.commanded_holdEnded]
  split
  next h => exact congrArg (Device.commanded · n) (if_pos h).symm
  next h => exact congrArg (Device.commanded · n) (if_neg h).symm

theorem Device.channelLeft_idle {c : ChannelNo} (hshape : d.channels[c].active = none ↔ d.channels[c].state = .empty) :
    ((d.channelLeft c).channels[c]).state.inTransfer = false ∧
      (d.channels[c].state ≠ .empty → ((d.channelLeft c).channels[c]).latch = false) := by
  rw [← Device.leaveChannel_eq]
  by_cases hs : d.channels[c].state = .empty
  · have hsame : d.leaveChannel c = d := by
      rw [Device.leaveChannel, if_neg (by rw [hs]; decide), if_neg fun h => by rw [hs] at h; exact nomatch h.1]
    rw [hsame, hs]
    exact ⟨rfl, fun h => absurd rfl h⟩
  · obtain ⟨hlatch, hidle⟩ := Device.leaveChannel_idle hshape fun h => absurd h hs
    exact ⟨hidle, fun _ => hlatch⟩

/-- Settles O23. -/
theorem leaveCommandEndsTheWork : Obligations.LeaveCommandEndsTheWork := by
  intro s hok hj hpool hs
  have ho : s.dev.control.owed = false := by
    obtain ⟨hleave, -⟩ := hok
    exact hleave.notOwed fun h => by simp [h] at hs
  obtain ⟨-, -, -, -, -, howners, -⟩ := hpool
  have hworked := Device.startLeaving_departed (d := s.dev) hok hj ho howners
  have hworked' : (s.dev.commanded 6).startLeaving = s.dev.departed.commanded 6 :=
    (Device.startLeaving_departed (d := s.dev.commanded 6) hok hj ho howners).trans (s.dev.commanded_departed 6)
  refine ⟨congrArg s.next (Device.command_settles (onSpan_iff.mpr hs) (Prod.ext (congrArg Device.settle hworked') rfl)),
    ?_, ?_, ?_, ?_, fun hchannels c => ?_⟩
  · rw [← hworked, Device.startLeaving_state]
  · rw [Device.departed_eq]
    split <;> exact ⟨rfl, rfl, rfl, rfl⟩
  · rw [Device.departed_eq]
    split <;> rfl
  · have hhalt := s.dev.workEnded_halt
    obtain ⟨-, -, -, hkept⟩ := (eight.foldl Device.channelLeft s.dev.begunLeaving).leaveLandings_keeps
    rw [Device.workEnded_eq hj, hkept] at hhalt
    rw [Device.departed_eq]
    generalize eight.foldl Device.channelLeft s.dev.begunLeaving = gone at hhalt
    split
    next => rfl
    next hh => exact (congrArg HaltUnit.holding hhalt).trans (Bool.eq_false_iff.mpr hh)
  · obtain ⟨e, -, hsame, hfold⟩ := foldl_eight_channel
      (f := Device.channelLeft) (fun d c b h => by rw [← Device.leaveChannel_eq]; exact Device.leaveChannel_other d c b h)
      (fun _ => True) (fun _ _ _ => trivial) (d := s.dev.begunLeaving) trivial c
    have hkept : e.channels[c] = s.dev.channels[c] := hsame
    obtain ⟨⟨hshape, -⟩, -⟩ := hchannels c
    rw [Device.departed_channels, hfold, ← hkept]
    exact Device.channelLeft_idle (hkept ▸ hshape)

end

end Sys2Proof.Machine

/-! The generation of a channel (R58, O5): a begin alone advances it. -/

namespace Sys2Proof.Machine

section
variable {b d e : Device} {c : ChannelNo}

/-! ### The generations and states of the channels -/

/-- R45, R58: the generation and the state of each channel. -/
def Device.marks (d : Device) (c : ChannelNo) : Generation × ChannelState := (d.channels[c].generation, d.channels[c].state)

/-- R58: the generation of each channel. -/
def Device.generations (d : Device) (c : ChannelNo) : Generation := d.channels[c].generation

theorem Device.marks_of_keeps (h : e.channels = d.channels) : e.marks = d.marks := funext fun c => by
  rw [Device.marks, Device.marks, h]

theorem Device.generations_of_keeps (h : e.channels = d.channels) : e.generations = d.generations := funext fun c => by
  rw [Device.generations, Device.generations, h]

theorem Device.generations_of_marks (h : e.marks = d.marks) : e.generations = d.generations :=
  funext fun c => congrArg Prod.fst (congrFun h c)

theorem Device.state_of_marks (h : e.marks = d.marks) (c : ChannelNo) : e.channels[c].state = d.channels[c].state :=
  congrArg Prod.snd (congrFun h c)

/-- Where one channel changes, its generation alone is to be looked at. -/
theorem Device.generations_one (hother : ∀ b : ChannelNo, b ≠ c → e.channels[b] = d.channels[b])
    (hsame : e.channels[c].generation = d.channels[c].generation) : e.generations = d.generations := funext fun b => by
  by_cases hb : b = c
  · exact hb ▸ hsame
  · rw [Device.generations, Device.generations, hother b hb]

theorem Device.marks_one (hother : ∀ b : ChannelNo, b ≠ c → e.channels[b] = d.channels[b])
    (hgen : e.channels[c].generation = d.channels[c].generation) (hstate : e.channels[c].state = d.channels[c].state) :
    e.marks = d.marks := funext fun b => by
  by_cases hb : b = c
  · exact hb ▸ Prod.ext hgen hstate
  · rw [Device.marks, Device.marks, hother b hb]

theorem Device.updChannel_generations {f : Channel → Channel} (h : ∀ ch, (f ch).generation = ch.generation) (d : Device)
    (c : ChannelNo) : (d.updChannel c f).generations = d.generations :=
  Device.generations_one (c := c) (fun _ hb => Device.updChannel_other d c f (Ne.symm hb)) (by rw [Device.updChannel_same d c f, h])

theorem Device.updChannel_marks {f : Channel → Channel} (h : ∀ ch, (f ch).generation = ch.generation)
    (hs : ∀ ch, (f ch).state = ch.state) (d : Device) (c : ChannelNo) : (d.updChannel c f).marks = d.marks :=
  Device.marks_one (c := c) (fun _ hb => Device.updChannel_other d c f (Ne.symm hb)) (by rw [Device.updChannel_same d c f, h])
    (by rw [Device.updChannel_same d c f, hs])

theorem Device.emptyBuffers_marks (d : Device) (c : ChannelNo) (keep : FetchBuffer → Bool) : (d.emptyBuffers c keep).marks = d.marks := by
  rw [Device.emptyBuffers_eq]
  exact Device.marks_one (c := c) (fun _ hb => Device.rebuffer_other _ _ _ _ hb) (by rw [Device.rebuffer_same])
    (by rw [Device.rebuffer_same])

theorem Device.requestReads_marks (d : Device) (c : ChannelNo) : (d.requestReads c).marks = d.marks := by
  obtain ⟨⟨hsame, -⟩, hother, -⟩ := d.requestReads_asks (c := c)
  exact Device.marks_one (c := c) hother (by rw [hsame]) (by rw [hsame])

/-! ### The end of a transfer (R54 to R57) -/

theorem Device.closeTransfer_marks (d : Device) (c : ChannelNo) (a : Descriptor) (o : TransferOutcome) :
    (d.closeTransfer c a o).marks = d.marks := by
  have hstopped : (d.stopMachinery c).marks = d.marks :=
    (Device.updChannel_marks (f := fun ch => { ch with timer := none }) (fun _ => rfl) (fun _ => rfl) _ c).trans
      (d.emptyBuffers_marks c _)
  unfold Device.closeTransfer
  dsimp only
  split
  next => exact (Device.marks_of_keeps (by simp)).trans hstopped
  next => exact (Device.marks_of_keeps (by simp)).trans hstopped

theorem Device.recordOutcome_marks (d : Device) (c : ChannelNo) (a : Descriptor) (o : TransferOutcome) (r : Option Reason) :
    (d.recordOutcome c a o r).marks = d.marks :=
  Device.updChannel_marks (f := fun ch => { ch with last := { outcome := some o, reason := r, generation := ch.generation,
                                                              bytes := confirmedBytes d.channels[c].accepted a.length } })
    (fun _ => rfl) (fun _ => rfl) d c

theorem Channel.promote_generation (ch : Channel) : ch.promote.generation = ch.generation := by
  unfold Channel.promote
  split <;> rfl

theorem Device.endTransfer_generations {o : TransferOutcome} (ho : o ≠ .done) (d : Device) (c : ChannelNo) (r : Option RefuseReason) :
    (d.endTransfer c o r).generations = d.generations := by
  rcases ha : d.channels[c].active with _ | a
  · simp only [Device.endTransfer, ha]
  · rw [Device.endTransfer_undone ho r ha]
    exact (Device.updChannel_generations (f := fun ch => { ch with latch := false }) (fun _ => rfl) _ c).trans
      ((Device.updChannel_generations Channel.promote_generation _ c).trans
        (Device.generations_of_marks ((Device.recordOutcome_marks _ c a o _).trans (d.closeTransfer_marks c a o))))

/-! ### Replies at the source (R60 to R66, R103, R104, R124) -/

theorem Device.handleWait_generations (d : Device) (x : Station) (c : ChannelNo) (g : Generation) :
    (d.handleWait x c g).generations = d.generations := by
  unfold Device.handleWait
  split
  next =>
    exact (Device.generations_of_keeps (by simp)).trans
      (Device.updChannel_generations (f := fun ch => { ch with state := .queued, timer := some d.config.tQueue }) (fun _ => rfl) d c)
  next => rfl

theorem Device.answerStale_generations (d : Device) (c : ChannelNo) (x : Station) (g : Generation) :
    (d.answerStale c x g).generations = d.generations := Device.generations_of_keeps (by simp)

theorem Device.takeGrant_generations (d : Device) (c : ChannelNo) (start limit : Nat) :
    (d.takeGrant c start limit).generations = d.generations := by
  have hgranted : (d.updChannel c fun ch => ch.granted d.config.tReply start limit).generations = d.generations :=
    Device.updChannel_generations (f := fun ch => ch.granted d.config.tReply start limit) (fun _ => rfl) d c
  have hremoved : ((d.updChannel c fun ch => ch.granted d.config.tReply start limit).removeOffer c).generations = d.generations :=
    (Device.generations_of_keeps (by simp)).trans hgranted
  exact (Device.generations_of_marks (Device.requestReads_marks _ c)).trans hremoved

theorem Device.handleGrant_generations (d : Device) (x : Station) (c : ChannelNo) (g : Generation) (start limit : Nat) :
    (d.handleGrant x c g start limit).generations = d.generations := by
  have hstale := d.answerStale_generations c x g
  have htaken := d.takeGrant_generations c start limit
  unfold Device.handleGrant
  dsimp only
  split
  next => exact hstale
  next =>
    split
    next => exact hstale
    next => exact hstale
    next =>
      split
      next => exact hstale
      next => rfl
    next =>
      split
      next => exact hstale
      next => rfl
    all_goals
      split
      next =>
        split
        next => exact htaken
        next => exact hstale
      next => rfl

theorem Device.handleRefuse_generations (d : Device) (x : Station) (c : ChannelNo) (g : Generation) (r : RefuseReason) :
    (d.handleRefuse x c g r).generations = d.generations := by
  unfold Device.handleRefuse
  split
  next => exact Device.endTransfer_generations (by decide) d c _
  next => rfl

theorem Device.handlePause_generations (d : Device) (x : Station) (c : ChannelNo) (g : Generation) (block : Nat) :
    (d.handlePause x c g block).generations = d.generations := by
  have htaken : (d.takePause c block).generations = d.generations :=
    (Device.updChannel_generations (f := fun ch =>
      { ch with next := block, accepted := block, timer := some d.config.tPause, state := .paused }) (fun _ => rfl) _ c).trans
      (Device.generations_of_marks (d.emptyBuffers_marks c _))
  unfold Device.handlePause
  split
  · split
    next => exact htaken
    next => exact htaken
    all_goals rfl
  · rfl

/-- R104: a receipt that is noted leaves the channel STREAMING or DRAINING. -/
theorem Device.liftNext_marks (d : Device) (c : ChannelNo) :
    (d.liftNext c).generations = d.generations ∧
      ((d.liftNext c).channels[c].state = d.channels[c].state ∨ (d.liftNext c).channels[c].state = .draining) := by
  unfold Device.liftNext
  dsimp only
  split
  next =>
    obtain ⟨e, he⟩ : ∃ e, d.emptyBuffers c (FetchBuffer.notBelow d.channels[c].accepted) = e := ⟨_, rfl⟩
    have hmarks : e.marks = d.marks := he ▸ d.emptyBuffers_marks c _
    rw [he]
    refine ⟨(Device.updChannel_generations (by intro _; rfl) _ c).trans (Device.generations_of_marks hmarks), ?_⟩
    rw [Device.updChannel_same]
    dsimp only
    split
    next => exact .inr rfl
    next => exact .inl (Device.state_of_marks hmarks c)
  next => exact ⟨rfl, .inl rfl⟩

/-! ### Timers (R61, R107 to R109) -/

theorem Device.resendOffer_generations (d : Device) (c : ChannelNo) : (d.resendOffer c).generations = d.generations := by
  unfold Device.resendOffer
  split
  next =>
    split
    next => exact (Device.updChannel_generations (by intro _; rfl) _ c).trans (Device.generations_of_keeps (by simp))
    next => exact Device.endTransfer_generations (by decide) d c _
  next => rfl

theorem Device.fallBack_generations (d : Device) (c : ChannelNo) (block : Nat) : (d.fallBack c block).generations = d.generations :=
  (Device.generations_of_marks (Device.requestReads_marks _ c)).trans
    ((Device.updChannel_generations (f := fun ch => { ch with next := block, state := .streaming }) (fun _ => rfl) _ c).trans
      (Device.generations_of_marks (d.emptyBuffers_marks c _)))

theorem Device.streamExpiry_generations (d : Device) (c : ChannelNo) : (d.streamExpiry c).generations = d.generations := by
  unfold Device.streamExpiry
  split
  next => exact Device.endTransfer_generations (by decide) d c _
  next =>
    obtain ⟨e, he⟩ : ∃ e, (d.updChannel c fun ch =>
        { ch with retry := ch.retry + 1, timer := some d.config.tReply }) = e := ⟨_, rfl⟩
    have hretried : e.generations = d.generations := he ▸ Device.updChannel_generations (by intro _; rfl) d c
    rw [he, ← hretried]
    unfold Device.goBackOrProbe
    dsimp only
    split
    next => exact e.fallBack_generations c _
    next =>
      split
      next => exact e.fallBack_generations c _
      next => rfl

/-! ### Teardown, leaving and resets (R26, R33, R36) -/

theorem foldl_generations {f : Device → ChannelNo → Device} (h : ∀ d c, (f d c).generations = d.generations) (d : Device) :
    (eight.foldl f d).generations = d.generations :=
  foldl_induction (P := fun e : Device => e.generations = d.generations) (fun e c he => (h e c).trans he) eight rfl

theorem Device.tearChannel_generations {o : TransferOutcome} (ho : o ≠ .done) (d : Device) (x : Station) (c : ChannelNo) :
    (d.tearChannel x o c).generations = d.generations := by
  unfold Device.tearChannel
  split
  · split
    next => exact Device.endTransfer_generations ho d c none
    next => rfl
  · rfl

theorem Device.teardown_generations {o : TransferOutcome} (ho : o ≠ .done) (d : Device) (x : Station) (ending : Ending) :
    (d.teardown x o ending).generations = d.generations := by
  have htorn : (d.tearChannels x o).generations = d.generations := by
    rw [Device.tearChannels_eq]
    exact foldl_generations (fun d c => d.tearChannel_generations ho x c) d
  exact (Device.generations_of_keeps (by simp [Device.teardown])).trans htorn

theorem Device.leaveChannel_generations (d : Device) (c : ChannelNo) : (d.leaveChannel c).generations = d.generations := by
  unfold Device.leaveChannel
  split
  next => exact Device.endTransfer_generations (by decide) d c none
  next =>
    split
    next => exact Device.updChannel_generations (f := fun ch => { ch with latch := false }) (fun _ => rfl) d c
    next => rfl

theorem Device.startLeaving_generations (d : Device) : d.startLeaving.generations = d.generations := by
  have hkept : d.startLeaving.generations = (eight.foldl Device.leaveChannel
      (d.endJoining.updControl fun c => { c with state := .leaving })).generations :=
    Device.generations_of_keeps (by simp [Device.startLeaving])
  rw [hkept, foldl_generations Device.leaveChannel_generations]
  exact Device.generations_of_keeps (by simp)

theorem Device.softReset_generations (d : Device) : d.softReset.generations = d.generations := funext fun c => by
  rw [Device.generations, Device.softReset_channel]
  rfl

theorem Device.resetStation_generations (d : Device) : d.resetStation.generations = d.generations := by
  unfold Device.resetStation
  split
  next => exact d.softReset_generations
  all_goals exact Device.generations_of_keeps (by simp)

theorem Device.handleJoin_generations (d : Device) (x : Station) : (d.handleJoin x).generations = d.generations := by
  unfold Device.handleJoin
  split
  next => exact Device.generations_of_keeps (by simp)
  next => rfl
  next => exact Device.teardown_generations (by decide) (d.post (.peerChange x .restart)) x .peerRestart
  next => rfl

theorem Device.handleLeave_generations (d : Device) (x : Station) : (d.handleLeave x).generations = d.generations := by
  unfold Device.handleLeave
  split
  next => exact Device.teardown_generations (by decide) (d.post (.peerChange x .left)) x .peerLeft
  all_goals rfl

end

end Sys2Proof.Machine

/-! Every event and the generations (R58, O5): each start begins at most one transfer of a channel. -/

namespace Sys2Proof.Machine

/-! ### A channel since a generation -/

/-- R50, R58: a channel whose generation was `g` has it still, or has begun a transfer with the next. -/
def Channel.advancedFrom (g : Generation) (t : Nat) (ch : Channel) : Prop :=
  ch.generation = g ∨
    ch.generation = g + 1 ∧ ch.state = .offering ∧ ch.sends = 1 ∧ ch.next = 0 ∧ ch.accepted = 0 ∧ ch.limit = 0 ∧ ch.retry = 0 ∧
      ch.timer = some t

/-- The generation stays, and with an offer waiting for its reply nothing of it moves. -/
def Channel.spares (ch ch' : Channel) : Prop :=
  ch'.generation = ch.generation ∧
    (ch.state = .offering → ch'.state = .offering ∧ ch'.sends = ch.sends ∧ ch'.next = ch.next ∧ ch'.accepted = ch.accepted ∧
      ch'.limit = ch.limit ∧ ch'.retry = ch.retry ∧ ch'.timer = ch.timer)

section
variable {ch ch' : Channel} {g : Generation} {t : Nat}

theorem Channel.advancedFrom.spared (h : ch.advancedFrom g t) (hs : ch.spares ch') : ch'.advancedFrom g t := by
  obtain ⟨hgen, hoffer⟩ := hs
  rcases h with hold | ⟨hnew, hstate, hsends, hnext, haccepted, hlimit, hretry, htimer⟩
  · exact .inl (hgen.trans hold)
  · obtain ⟨hstate', hsends', hnext', haccepted', hlimit', hretry', htimer'⟩ := hoffer hstate
    exact .inr ⟨hgen.trans hnew, hstate', hsends'.trans hsends, hnext'.trans hnext, haccepted'.trans haccepted,
      hlimit'.trans hlimit, hretry'.trans hretry, htimer'.trans htimer⟩

theorem Channel.advancedFrom.old (h : ch.advancedFrom g t) (hs : ch.state ≠ .offering) : ch.generation = g :=
  h.elim id fun ⟨_, hstate, _⟩ => absurd hstate hs

theorem Channel.spares_of_rest (h : ch.state ≠ .offering) (hg : ch'.generation = ch.generation) : ch.spares ch' :=
  ⟨hg, fun hs => absurd hs h⟩

theorem Channel.spares_refl (ch : Channel) : ch.spares ch := ⟨rfl, fun hs => ⟨hs, rfl, rfl, rfl, rfl, rfl, rfl⟩⟩

theorem Channel.spares_latch (ch : Channel) (l : Bool) : ch.spares { ch with latch := l } :=
  ⟨rfl, fun hs => ⟨hs, rfl, rfl, rfl, rfl, rfl, rfl⟩⟩

end

/-! ### The channels since a block -/

/-- R58: every channel has advanced from block `b` by one generation at most. -/
def Device.advances (b d : Device) : Prop :=
  d.config = b.config ∧ ∀ c : ChannelNo, (d.channels[c]).advancedFrom b.channels[c].generation b.config.tReply

section
variable {b d e : Device} {c : ChannelNo}

theorem Device.advances_of_generations (hconfig : d.config = b.config) (h : d.generations = b.generations) : b.advances d :=
  ⟨hconfig, fun c => .inl (congrFun h c)⟩

theorem Device.advances.spared (h : b.advances d) (hconfig : e.config = d.config)
    (hs : ∀ c : ChannelNo, (d.channels[c]).spares e.channels[c]) : b.advances e :=
  ⟨hconfig.trans h.1, fun c => (h.2 c).spared (hs c)⟩

theorem Device.advances.of_keeps (h : b.advances d) (hconfig : e.config = d.config) (hchannels : e.channels = d.channels) :
    b.advances e := h.spared hconfig fun c => by
  rw [hchannels]
  exact Channel.spares_refl _

theorem Device.spares_one (hother : ∀ b : ChannelNo, b ≠ c → e.channels[b] = d.channels[b])
    (hsame : (d.channels[c]).spares e.channels[c]) (b : ChannelNo) : (d.channels[b]).spares e.channels[b] := by
  by_cases hb : b = c
  · exact hb ▸ hsame
  · rw [hother b hb]
    exact Channel.spares_refl _

theorem Device.advances.updChannel (h : b.advances d) {f : Channel → Channel} (hs : (d.channels[c]).spares (f d.channels[c])) :
    b.advances (d.updChannel c f) :=
  h.spared rfl (Device.spares_one (c := c) (fun _ hb => Device.updChannel_other d c f (Ne.symm hb))
    (by rw [Device.updChannel_same d c f]; exact hs))

theorem Device.advances.latch (h : b.advances d) (c : ChannelNo) (l : Bool) :
    b.advances (d.updChannel c fun ch => { ch with latch := l }) := h.updChannel (Channel.spares_latch _ l)

/-! ### Starts (R49, R50, R52) -/

theorem Device.advances.beginTransfer (h : b.advances d) (hs : d.channels[c].state = .ready) : b.advances (d.beginTransfer c) := by
  rcases ha : d.channels[c].active with _ | a
  · simpa only [Device.beginTransfer, ha] using h
  · refine ⟨(show (d.beginTransfer c).config = d.config by simp).trans h.1, fun m => ?_⟩
    by_cases hm : m = c
    · subst hm
      have hold := (h.2 m).old (by rw [hs]; decide)
      have hsame : (d.beginTransfer m).channels[m] = d.channels[m].begun d.config.tReply := by
        rw [(Device.beginTransfer_parts ha).1]
        exact Vector.getElem_set_self _
      rw [hsame, h.1, ← hold]
      exact .inr ⟨rfl, rfl, rfl, rfl, rfl, rfl, rfl, rfl⟩
    · rw [Device.beginTransfer_other hm]
      exact h.2 m

theorem Device.tryStart_cases (h : d.tryStart c = some e) :
    d.channels[c].state = .ready ∧ e = d.beginTransfer c ∨ e = d.setLatch c := by
  unfold Device.tryStart at h
  split at h
  next =>
    split at h
    next => cases h
    next hs => exact .inl ⟨hs, (Option.some.inj h).symm⟩
    all_goals exact .inr (Option.some.inj h).symm
  next =>
    split at h
    next => cases h
    all_goals exact .inr (Option.some.inj h).symm
  next => cases h
  next => cases h

theorem Device.advances.tryStart (h : b.advances d) (hs : d.tryStart c = some e) : b.advances e := by
  rcases Device.tryStart_cases hs with ⟨hready, rfl⟩ | rfl
  · exact h.beginTransfer hready
  · exact h.latch c true

theorem Device.advances.startOrMiss (h : b.advances d) (c : ChannelNo) (m : MissedCause) : b.advances (d.startOrMiss c m) := by
  unfold Device.startOrMiss
  split
  next hs => exact h.tryStart hs
  next => exact h

theorem Device.advances.applySignal (h : b.advances d) (x : Station) (cause : SignalCause) (n : EventNo) (a : BitVec 16) :
    b.advances (d.applySignal x cause n a) := by
  have hposted : b.advances (if d.config.signals[n].action.notices then d.post (.signal x cause n a) else d) := by
    split
    next => exact h
    next => exact h
  unfold Device.applySignal
  dsimp only
  split
  next => exact hposted.startOrMiss _ _
  next => exact hposted

theorem Device.advances.lineStarts (h : b.advances d) (line : LineNo) : b.advances (d.lineStarts line) := by
  unfold Device.lineStarts
  refine foldl_induction (P := b.advances) (fun d c hd => ?_) eight h
  split
  next => exact hd.startOrMiss _ _
  next => exact hd

theorem Device.advances.releaseLatches (h : b.advances d) : b.advances d.releaseLatches := by
  rw [Device.releaseLatches_eq]
  refine foldl_induction (P := b.advances) (fun d c hd => ?_) eight h
  unfold Device.releaseLatch
  split
  next hs => exact hd.beginTransfer hs.1
  next => exact hd

/-- A start leaves the state of a channel that is not READY. -/
theorem Device.startOrMiss_state (hs : d.channels[c].state ≠ .ready) (m : ChannelNo) (cause : MissedCause) :
    (d.startOrMiss m cause).channels[c].state = d.channels[c].state := by
  unfold Device.startOrMiss
  split
  next e he =>
    rcases Device.tryStart_cases he with ⟨hready, rfl⟩ | rfl
    · rw [Device.beginTransfer_other fun hcm => hs (by rw [hcm]; exact hready)]
    · exact Device.state_of_marks (Device.updChannel_marks (f := fun ch => { ch with latch := true }) (fun _ => rfl) (fun _ => rfl) d m) c
  next => rfl

theorem Device.applySignal_state (hs : d.channels[c].state ≠ .ready) (x : Station) (cause : SignalCause) (n : EventNo) (a : BitVec 16) :
    (d.applySignal x cause n a).channels[c].state = d.channels[c].state := by
  obtain ⟨e, he⟩ : ∃ e, (if d.config.signals[n].action.notices then d.post (.signal x cause n a) else d) = e := ⟨_, rfl⟩
  have hchannels : e.channels = d.channels := by
    rw [← he]
    split <;> rfl
  unfold Device.applySignal
  dsimp only
  rw [he]
  split
  next => rw [Device.startOrMiss_state (by rw [hchannels]; exact hs), hchannels]
  next => exact congrArg (fun v : Vector Channel 8 => v[c].state) hchannels

/-! ### A transfer that ends DONE (R54 to R56) -/

/-- R56: after DONE a promoted READY channel may begin. -/
theorem Device.advances.afterPromotion (h : b.advances d) (o : TransferOutcome) (chain : Bool) :
    b.advances (d.afterPromotion c o chain) := by
  unfold Device.afterPromotion
  split
  · split
    next hready =>
      split
      next => exact h.beginTransfer hready
      next => exact h
    all_goals
      split
      next => exact h.latch c false
      next => exact h
  · exact h.latch c false

theorem Device.advances_endTransfer (hconfig : d.config = b.config) (hgen : d.generations = b.generations) (hready : d.channels[c].state ≠ .ready)
    (hoffering : d.channels[c].state ≠ .offering) (o : TransferOutcome) (r : Option RefuseReason) :
    b.advances (d.endTransfer c o r) := by
  unfold Device.endTransfer
  split
  next => exact Device.advances_of_generations hconfig hgen
  next a _ =>
    obtain ⟨g, hg⟩ : ∃ g, (d.closeTransfer c a o).recordOutcome c a o (outcomeReason o r) = g := ⟨_, rfl⟩
    obtain ⟨e, he⟩ : ∃ e, g.applyDone c a o = e := ⟨_, rfl⟩
    have hmarks : g.marks = d.marks := hg ▸ (Device.recordOutcome_marks _ c a o _).trans (d.closeTransfer_marks c a o)
    have hgstate := Device.state_of_marks hmarks c
    have hrecorded : b.advances g := Device.advances_of_generations (hg ▸ (show _ = d.config by simp).trans hconfig)
      ((Device.generations_of_marks hmarks).trans hgen)
    have hdone : b.advances e ∧ e.channels[c].state = d.channels[c].state := by
      rw [← he]
      unfold Device.applyDone
      split
      next => exact ⟨hrecorded.applySignal _ _ _ _, (Device.applySignal_state (by rw [hgstate]; exact hready) _ _ _ _).trans hgstate⟩
      next => exact ⟨hrecorded, hgstate⟩
    obtain ⟨hadvances, hstate⟩ := hdone
    simp only [hg, he]
    refine Device.advances.afterPromotion (hadvances.updChannel ?_) o a.chain
    exact Channel.spares_of_rest (by rw [hstate]; exact hoffering) (Channel.promote_generation _)

/-! ### Every event -/

theorem Device.advances_takeReceipt (hs : d.channels[c].state = .streaming ∨ d.channels[c].state = .draining) (accepted limit : Nat)
    (final : Bool) : d.advances (d.takeReceipt c accepted limit final) := by
  obtain ⟨g, hg⟩ : ∃ g, (d.updChannel c fun ch => ch.noteReceipt d.config.tReply accepted limit) = g := ⟨_, rfl⟩
  have hnoted : g.marks = d.marks :=
    hg ▸ Device.updChannel_marks (f := fun ch => ch.noteReceipt d.config.tReply accepted limit) (fun _ => rfl) (fun _ => rfl) d c
  obtain ⟨hlifted, hstate⟩ := g.liftNext_marks c
  have hgen : (g.liftNext c).generations = d.generations := hlifted.trans (Device.generations_of_marks hnoted)
  have hconfig : (g.liftNext c).config = d.config := by rw [← hg]; simp
  have hmoving : (g.liftNext c).channels[c].state = .streaming ∨ (g.liftNext c).channels[c].state = .draining := by
    rw [Device.state_of_marks hnoted] at hstate
    rcases hstate with h | h
    · rwa [h]
    · exact .inr h
  unfold Device.takeReceipt
  dsimp only
  rw [hg]
  split
  next =>
    refine Device.advances_endTransfer hconfig hgen (fun h => ?_) (fun h => ?_) .done none
    · rcases hmoving with hm | hm <;> cases h.symm.trans hm
    · rcases hmoving with hm | hm <;> cases h.symm.trans hm
  next =>
    exact Device.advances_of_generations ((show _ = (g.liftNext c).config by simp).trans hconfig)
      ((Device.generations_of_marks (Device.requestReads_marks _ c)).trans hgen)

theorem Device.advances_refl (d : Device) : d.advances d := Device.advances_of_generations rfl rfl

theorem Device.advances_handleReceipt (d : Device) (x : Station) (c : ChannelNo) (g : Generation) (accepted limit : Nat)
    (final : Bool) : d.advances (d.handleReceipt x c g accepted limit final) := by
  unfold Device.handleReceipt
  split
  · split
    next hs => exact Device.advances_takeReceipt (.inl hs) accepted limit final
    next hs => exact Device.advances_takeReceipt (.inr hs) accepted limit final
    next hs => exact d.advances_refl.updChannel (Channel.spares_of_rest (by rw [hs]; decide) rfl)
    all_goals exact d.advances_refl
  · exact d.advances_refl

theorem Device.Handles.advances {x : Station} (h : d.Handles x e) : d.advances e := by
  cases h with
  | wait c g => exact Device.advances_of_generations (by simp) (d.handleWait_generations x c g)
  | grant c g h => exact Device.advances_of_generations (by simp) (d.handleGrant_generations x c g _ _)
  | refuse c g reason => exact Device.advances_of_generations (by simp) (d.handleRefuse_generations x c g reason)
  | receipt c g final h => exact d.advances_handleReceipt x c g _ _ final
  | pause c g h => exact Device.advances_of_generations (by simp) (d.handlePause_generations x c g _)
  | signal n a =>
    unfold Device.handleSignal
    split
    next => exact d.advances_refl.applySignal _ _ _ _
    next => exact d.advances_refl
  | _ => exact d.advances_refl.of_keeps (by simp) (by simp)

theorem Device.advances.reportWrite (h : b.advances d) (k : Key) : b.advances (d.reportWrite k) := by
  unfold Device.reportWrite
  split
  next l _ =>
    have hclaimed : b.advances (d.claimReceipt l (decide (l.written = l.blocks))) := h.of_keeps (by simp) (by simp)
    dsimp only
    split
    next =>
      have hlanded : b.advances ((((d.claimReceipt l (decide (l.written = l.blocks))).removeRecord l.offer.key).updAdmission
          (·.addRecent { key := l.offer.key, generation := l.offer.generation, blocks := l.blocks })).post
          (l.offer.ended .landed l.offer.fields.length)) := hclaimed.of_keeps rfl rfl
      unfold Device.completeLanding
      dsimp only
      split
      next => exact hlanded.applySignal _ _ _ _
      next => exact hlanded
    next => exact hclaimed
  next => exact h

theorem Device.advances.writeDone (h : b.advances d) (owner : Option Key) : b.advances (d.writeDone owner) := by
  cases owner with
  | none => exact h.of_keeps (by simp [Device.writeDone]) (by simp [Device.writeDone])
  | some k =>
    have hplaced : b.advances ((d.updAdmission fun a => a.updRecord k fun l => { l with written := l.written + 1 }).placeFreed k) :=
      h.of_keeps (by simp) (by simp)
    exact (hplaced.reportWrite k).of_keeps (by simp [Device.writeDone]) (by simp [Device.writeDone])

theorem Device.advances_countJoin (d : Device) : d.advances d.countJoin := by
  unfold Device.countJoin
  split
  next =>
    dsimp only
    split
    next => exact d.advances_refl
    next =>
      obtain ⟨e, he⟩ : ∃ e, (d.updControl fun c => { c with joinCount := c.joinCount + 1 }).updControl
        (fun c => { c with state := .joined }) = e := ⟨_, rfl⟩
      have hstart : d.advances e := he ▸ d.advances_refl
      unfold Device.becomeJoined
      rw [he]
      exact hstart.releaseLatches.of_keeps (by simp) (by simp)
  next => exact d.advances_refl

theorem Device.advances.from_keeps (h : d.advances e) (hconfig : d.config = b.config) (hchannels : d.channels = b.channels) :
    b.advances e := by
  obtain ⟨hsame, hall⟩ := h
  refine ⟨hsame.trans hconfig, fun c => ?_⟩
  have hc := hall c
  rwa [hconfig, hchannels] at hc

/-- R58: what a power-on reset does not do advances a generation only with a begin. -/
theorem Device.Works.advances (h : d.Works e) : d.advances e := by
  cases h with
  | leave h => exact Device.advances_of_generations (by simp) d.startLeaving_generations
  | reset => exact Device.advances_of_generations d.resetStation_holds.2 d.resetStation_generations
  | start h => exact d.advances_refl.tryStart h
  | stop hs h => exact Device.advances_of_generations (by simp) (Device.endTransfer_generations (by decide) d _ _)
  | edge line => exact d.advances_refl.lineStarts line
  | @frame x _ hr hx h =>
    exact h.advances.from_keeps (by simp) (by simp)
  | joinFrame hr hx => exact Device.advances_of_generations (by simp) (d.handleJoin_generations _)
  | leaveFrame hr hx => exact Device.advances_of_generations (by simp) (d.handleLeave_generations _)
  | joinSent h => exact d.freeLane.advances_countJoin
  | resetSent h ho => exact Device.advances_of_generations rfl d.softReset_generations
  | offerTimer h => exact Device.advances_of_generations (by simp) (d.resendOffer_generations _)
  | streamTimer h => exact Device.advances_of_generations (by simp) (d.streamExpiry_generations _)
  | queueTimer h => exact Device.advances_of_generations (by simp) (Device.endTransfer_generations (by decide) d _ _)
  | pauseTimer h => exact Device.advances_of_generations (by simp) (Device.endTransfer_generations (by decide) d _ _)
  | @readFilled r data h =>
    exact Device.advances_of_generations rfl (Device.updChannel_generations
      (f := fun ch => { ch with buffers := ch.buffers.set r.buffer (.holding r.block data) }) (fun _ => rfl) d.freePort r.channel)
  | readFailed h => exact Device.advances_of_generations (by simp) (Device.endTransfer_generations (by decide) d.freePort _ _)
  | written ha hw => exact Device.advances.writeDone (d := d.popWrite) (b := d) d.advances_refl _
  | _ => exact d.advances_refl.of_keeps (by simp) (by simp)

/-! ### The lane's choice and the writes of the register window -/

/-- R91: a ready block is that of a STREAMING channel. -/
theorem Channel.readyBlock_streaming {ch : Channel} {a : Descriptor} {data : List Byte} (h : ch.readyBlock = some (a, data)) :
    ch.state = .streaming := by
  unfold Channel.readyBlock at h
  split at h
  · split at h
    next hs => exact hs.1
    next => cases h
  · cases h

/-- R91: the lane takes a block of a STREAMING channel alone. -/
theorem Device.chooseFrame_spares (d : Device) (m : ChannelNo) : (d.channels[m]).spares d.chooseFrame.channels[m] := by
  rcases d.chooseFrame_cases with ⟨s, heq⟩ | ⟨c, a, data, -, -, -, -, -, -, hblock, heq⟩
  · rw [heq]
    exact Channel.spares_refl _
  · have hstate : d.channels[c].state = .streaming := Channel.readyBlock_streaming hblock
    obtain ⟨⟨hsame, -⟩, hother, -⟩ := (d.sentBlock c a data).requestReads_asks (c := c)
    rw [heq]
    refine Device.spares_one (c := c) (fun m hm => ?_) (Channel.spares_of_rest (by rw [hstate]; decide) ?_) m
    · rw [hother m hm, Device.sentBlock_other hm]
    · rw [hsame, Device.sentBlock_channel]

theorem Device.advances.settle (h : b.advances d) : b.advances d.settle := by
  obtain ⟨-, hconfig, hchannels, -⟩ := d.reportDrained_keeps
  have hchosen : b.advances d.reportDrained.chooseFrame :=
    (h.of_keeps hconfig hchannels).spared (by simp) d.reportDrained.chooseFrame_spares
  exact hchosen.of_keeps rfl rfl

theorem Channel.stopIdle_generation (ch : Channel) : ch.stopIdle.generation = ch.generation := by
  unfold Channel.stopIdle
  split
  next => exact ch.promote_generation
  all_goals rfl

theorem Device.Writes.generations (h : d.Writes e) : e.generations = d.generations := by
  cases h with
  | load c h => exact Device.updChannel_generations (fun ch => by unfold Channel.load; split <;> rfl) d c
  | stopIdle c h => exact Device.updChannel_generations Channel.stopIdle_generation d c
  | clear c h =>
    exact Device.updChannel_generations (f := fun ch => { ch with active := none, standby := none, latch := false, state := .empty })
      (fun _ => rfl) d c
  | _ => exact Device.generations_of_keeps (by simp)

theorem Device.Leads.advanced {sets : Bool} {t : Device} (h : d.Leads sets t) (c : ChannelNo) :
    (t.channels[c]).advancedFrom d.channels[c].generation d.config.tReply := by
  obtain ⟨d', e, ⟨f, -, rfl⟩, hkind⟩ := h
  rcases hkind with ⟨hworks, f', -, rfl⟩ | ⟨hwrites, f', -, rfl⟩ | ⟨⟨-, -, hsets⟩, f', -, rfl⟩
  · exact hworks.advances.settle.2 c
  · exact .inl (congrFun hwrites.generations c)
  · refine .inl ?_
    cases hsets <;> rfl

/-- Settles O5. -/
theorem generationsAdvanceAtABegin : Obligations.GenerationsAdvanceAtABegin := by
  intro i s t c hexec hpower
  obtain ⟨-, hleads⟩ := exec_leads i s hpower t hexec
  exact hleads.advanced c

end

end Sys2Proof.Machine
